-- ==== Sys2Proof/Word.lean ====
section
/-! DEFINITION. Word.lean: the word types of the block (00 Conventions: every register is 32 bits wide). -/

namespace Sys2Proof

/-- A register of the block: 32 bits (00 Conventions, "Registers, fields and pins"). -/
abbrev Word := BitVec 32

/-- A byte of an addressed memory. -/
abbrev Byte := BitVec 8

end Sys2Proof
end

