-- ==== Sys2Proof/Syntax.lean ====
section
/-! DEFINITION. Syntax.lean: the commands of the block, one constructor per row of spec/opcode_table.json, with the
operands each row's rule names. -/

namespace Sys2Proof

/-- A link number, 0..95 (R1, R21); feed state machine and purse k belong to link k. -/
abbrev Link := Fin 96
/-- A Teller engine, 0..15 (R21). -/
abbrev Engine := Fin 16
/-- A battery string, 0..7 (R21). -/
abbrev Str := Fin 8

/-- The requester paths (R13, R412): the supervisor, with the flag that says whether the access is boot-issued (R413),
the JTAG debug port, and a Teller engine. -/
inductive Who where
  | sup (boot : Bool)
  | dbg
  | eng (n : Engine)
deriving DecidableEq, Repr

/-- The linked counters (R12): the timestamp read at the TBS page, the timestamp read as the CSRs `time` and `timeh`
(R399), a feed's energy, a string's Tally, and a chained timer (R507). -/
inductive Linked where
  | time
  | csrTime
  | energy (k : Link)
  | tally (st : Str)
  | timer (i : Fin 24)
deriving DecidableEq, Repr

/-- The clocks the collector monitors (R30, R31). -/
inductive ClkMon where
  | ref | fab | sup | lnk | tbs | aon | mon
deriving DecidableEq, Repr

/-- What the collector counted in one window (R31): cycles of each monitored clock in 256 MON cycles, and MON cycles in 160
REF cycles. AON, whose period is longer than a window, is counted the other way: MON cycles in one AON period (log
entry 69). -/
structure ClkCounts where
  ref : Nat
  fab : Nat
  sup : Nat
  lnk : Nat
  tbs : Nat
  aon : Nat
  mon : Nat
deriving DecidableEq, Repr

/-- The two PLLs (R473). -/
inductive Pll where
  | frame | system
deriving DecidableEq, Repr

/-- A companion's two ports (R99): A toward the unit that holds this model, B toward its twin. -/
inductive Port where
  | own | twin
deriving DecidableEq, Repr

/-- A symbol of a link frame as the receiver decoded it: a data byte, a K-symbol by its byte value, or a symbol with an
8b/10b code or disparity error (R22, R52). -/
inductive LSym where
  | d (b : Byte)
  | k (b : Byte)
  | bad
deriving DecidableEq, Repr

/-- A data register D0..D31 (R122). -/
abbrev Reg := Fin 32
/-- An accumulator A0..A3 (R122). -/
abbrev Acc4 := Fin 4
/-- A predicate P0..P7 (R122). -/
abbrev Pred := Fin 8
/-- A binding number (R188). -/
abbrev Binding := Fin 8

/-- The slots of a bundle (R157). -/
inductive SlotPos where
  | m0 | m1 | x | l
deriving DecidableEq, Repr

/-- A slot's predicate with its negate bit (R132, R157). -/
structure Guard where
  p : Pred
  neg : Bool
deriving DecidableEq, Repr

/-- Operand b of an X-slot operation (R166): a register, or an 11-bit immediate; CMP's 8-bit immediate comes
sign-extended to 11 bits. -/
inductive OpB where
  | reg (r : Reg)
  | imm (i : BitVec 11)
deriving DecidableEq, Repr

/-- The conditions of CMP (R168). -/
inductive Cond where
  | eq | ne | lt | ge | le | gt | ltu | geu
deriving DecidableEq, Repr

/-- The operations of PLOG (R169). -/
inductive PredOp where
  | and | or | xor | andn
deriving DecidableEq, Repr

/-- The formats of DIV (R172). -/
inductive DivMode where
  | int32 | q31 | q16
deriving DecidableEq, Repr

/-- The special registers of RDS (R178). -/
inductive SpecReg where
  | cp | ft | tsl
deriving DecidableEq, Repr

/-- The thresholds of TRIP (R180). -/
inductive Thresh where
  | fastTrip | overVolt | underVolt
deriving DecidableEq, Repr

/-- An upstream frame as the receiver decoded it (R56, R69): its symbols, 12 of them in a frame of the
spec, S0 first. -/
structure UpFrame where
  syms : List LSym
deriving DecidableEq, Repr

/-- A frame as a port of companion `k` receives it (R71): on port own in place of the frame that link `k` sent, on port
twin the frame of the other unit. A symbol the list does not hold is a bad one. -/
structure CompRx where
  k : Link
  port : Port
  syms : List LSym
deriving DecidableEq, Repr

/-- A twin-link cell as a lane receives it: its 20 symbols C0..C19 (R337). A symbol the list does not hold is a bad one. -/
structure Cell where
  syms : List LSym
deriving DecidableEq, Repr

/-- How a transaction of a two-wire command ended on the bus (R477..R487): it went through, with every byte the target
sent in bus order (a block count and a PEC among them); a byte was not acknowledged, at its index after the address;
arbitration was lost or a foreign START or STOP seen, at a byte index; a clear ended after its clocks, or with SDA still
low. `lines` brings no end: the other devices let the balls of the port's SCL and SDA take these levels (R475); the bits
that the target of a command sends come with its answer. -/
inductive TwbResult where
  | ok (read : List Byte)
  | nackAddr
  | nackData (idx : Nat)
  | arbLost (idx : Nat)
  | busError (idx : Nat)
  | cleared (clocks : Nat)
  | stuckSda
  | lines (scl sda : Bool)
deriving DecidableEq, Repr

/-- The signal balls, by group (R531, R533). -/
inductive Pin where
  | ltx (k : Link) | lrx (k : Link) | twnTx (l : Fin 2) | twnRx (l : Fin 2)
  | syncOut | syncIn | xin | x32 | refclkOut | hbo | hbi | authOut | authIn
  | porstN | pfailN | pwrgood | rstoutN | faultN | safeN | unitId | bootSel (i : Fin 2) | recoveryN
  | tck | tms | tdi | tdo | trstN
  | ethTxc | ethTxd (i : Fin 4) | ethTxCtl | ethRxc | ethRxd (i : Fin 4) | ethRxCtl | ethMdc | ethMdio
  | xspClk | xspCsN (i : Fin 2) | xspDq (i : Fin 8) | xspDqs | xspRstN
  | twScl (p : Fin 8) | twSda (p : Fin 8) | twtScl | twtSda | gpio (i : Fin 24)
  | hkaIn (i : Fin 16) | hkaRefp | hkaRefn
deriving DecidableEq, Repr

/-- The instructions of the IEEE 1149.1 port (R536). -/
inductive Tap where
  | bypass | idcode | sample | extest
deriving DecidableEq, Repr

/-- What a probe does with the port (R536): it loads an instruction; it captures the register that the instruction selects;
it updates the boundary-scan register. -/
inductive TapOp where
  | ir (t : Tap)
  | capture
  | update (bits : List Bool)
deriving DecidableEq, Repr

/-- How much of a host's transfer a command of the target port brings (R490..R493): all of it; its START, address and first
bytes; further bytes; the last bytes and its end. -/
inductive TwtPart where
  | whole
  | first
  | next
  | last
deriving DecidableEq, Repr

/-- The commands of the block: one constructor per row of spec/opcode_table.json, those
of no requester first. -/
inductive Instr where
  /-- MAJOR_FRAME_START (R36): At the TBS tick where T mod 1920 equals OFS the major frame starts, MFN increments and the per-frame actions run. -/
  | majorFrameStart
  /-- CLOCK_CHECK (R31): At the end of each 256-cycle MON window the monitored clock counts are checked and two bad windows raise the clock fault. -/
  | clockCheck (cnt : ClkCounts)
  /-- PLL_UNLOCK (R473): Loss of lock of the frame or system PLL raises PLL_UNLOCK and detects the PLL fault. -/
  | pllUnlock (p : Pll)
  /-- PLL_LOCK (R473): The frame or system PLL locks and PLL_LOCK is raised. -/
  | pllLock (p : Pll)
  /-- TIME_LOAD_APPLY (R40): At the next major-frame start T takes the pending load value, OFS becomes L mod 1920 and LOAD_PEND clears. -/
  | timeLoadApply
  /-- SYNC_PULSE (R46): A SYNC_IN pulse is measured against the own grid, repeated on SYNC_OUT, counted toward LOCKED in ALIGN or checked for SYNC_LOST in FOLLOWER. -/
  | syncPulse (err : Int) (wide : Bool)
  /-- SYNC_ALIGN (R46): In ALIGN the controller moves its major-frame start, MFN parity and OFS to the corrected pulse at the next major-frame start. -/
  | syncAlign
  /-- SYNC_MISSING (R47): No SYNC_IN pulse within 2 major frames sets SYNC_LOST and raises SYNC_MISSING once. -/
  | syncMissing
  /-- EVENT_ENTRY (R50): An event with its stamp enters the Ledger merge input and the event router sets its source's pending state. -/
  | eventEntry
  /-- EVENT_RELEASE (R50): When an event's 2 µs hold expires, or at once when it arrives late, it is written to the ring in key order with its SEQ. -/
  | eventRelease
  /-- UPSTREAM_FRAME (R69): A whole upstream frame is received, judged valid or invalid, counted and queued toward the mailbox, and its ST drives lock, role, authority and autonomy tracking. -/
  | upstreamFrame (k : Link) (f : UpFrame)
  /-- PROTECTION_COMPARE (R22): As the I or V field of an upstream frame is decoded on a trained link, the protection block compares it and sends K23.7 pre-empting the downstream frame when a trip condition holds. -/
  | protectionCompare (k : Link) (vField : Bool) (x : BitVec 16) (bad : Bool)
  /-- DOWNSTREAM_FRAME (R55): At FAB cycle 75·j each transmitting link sends downstream frame j with its header, command or special-frame content, actuations, BGT and EPL. -/
  | downstreamFrame (rx : List CompRx := [])
  /-- MAILBOX_UPDATE (R81): At FAB cycle 75·m + 8 each link's newest matching frame becomes current, or the interval is stale, and every consumer receives it. -/
  | mailboxUpdate
  /-- ACTUATION_COPY (R84): At FAB cycle 75·k − 12 ACTA, ACTB, latched TRIP values and the Mint's BGT are copied for downstream frame k. -/
  | actuationCopy
  /-- LOCK_TIMEOUT (R72): 1024 link frames in LOCK without comma lock send the link to FAILED with code LOCK. -/
  | lockTimeout (k : Link)
  /-- MEASURE_DONE (R73): After 16 frames in MEASURE the round trip is stored and the link goes to ADVANCE, or to FAILED with RANGE. -/
  | measureDone (k : Link) (mean : Nat)
  /-- VERIFY_DONE (R74): After 16 frames in VERIFY the mean offset sends the link to TRAINED, back to MEASURE once, or to FAILED. -/
  | verifyDone (k : Link) (mean : Int)
  /-- LINK_LOST (R70): Four consecutive frames without the expected comma declare the link LOST, stop protection comparisons and freeze its feed state machine. -/
  | linkLost (k : Link)
  /-- LINK_WDOG (R83): The stale count reaching LIMIT on a trained link sets WDOG and raises the event once per episode. -/
  | linkWdog (k : Link)
  /-- CMD_TIMEOUT (R64): A command with no toggle after CMD_TMO carrying frames, or BOOT_TMO for BOOT_DONE, fails with TIMEOUT. -/
  | cmdTimeout (k : Link)
  /-- REMEASURE (R38): In each major frame with MFN mod 1024 = 0 eligible trained links are re-measured and a changed advance is sent. -/
  | remeasure (k : Link) (mean : Int)
  /-- NOP (R63): Command NOP, and the slot NOP of every Teller slot, has no effect. -/
  | nop (k : Link) (port : Port)
  /-- HELLO (R63): Training command HELLO asks the companion to report its identity. -/
  | hello (k : Link) (port : Port) (arg : BitVec 16)
  /-- SET_ADVANCE (R65): Command SET_ADVANCE sets the companion's strobe and upstream advance, applied at the next strobe 0. -/
  | setAdvance (k : Link) (port : Port) (arg : BitVec 16)
  /-- BOOT_START (R77): Command BOOT_START opens an image transfer of the announced length at the companion's loader. -/
  | bootStart (k : Link) (port : Port) (arg : BitVec 16)
  /-- SET_HOLD (R63): Command SET_HOLD sets the companion's t_hold. -/
  | setHold (k : Link) (port : Port) (arg : BitVec 16)
  /-- BOOT_DONE (R77): Command BOOT_DONE makes the companion check its image CRC-32 and start it in the named role. -/
  | bootDone (k : Link) (port : Port) (arg : BitVec 16)
  /-- RESET (R103): Command RESET returns the companion to its loader with its output at rest. -/
  | reset (k : Link) (port : Port) (arg : BitVec 16)
  /-- FEED_SIDE (R257): FEED role command selecting side A or B while the applied ACTA is at or below 0. -/
  | feedSide (k : Link) (port : Port) (arg : BitVec 16)
  /-- FEED_CLEAR (R257): FEED role command clearing the companion's LOCAL_TRIP latch. -/
  | feedClear (k : Link) (port : Port) (arg : BitVec 16)
  /-- FEED_HARDLIM (R257): FEED role command setting the companion's hard-limit threshold. -/
  | feedHardlim (k : Link) (port : Port) (arg : BitVec 16)
  /-- BOOT_ROUND_START (R76): At the major-frame start the round takes its members, checks descriptor range and lengths and begins BOOT_START. -/
  | bootRoundStart (n : Fin 4)
  /-- BOOT_OUTCOME (R77): Sixteen link frames after the BOOT_DONE toggle without a frame showing ROLE_OK = 1, the member fails with BOOT_CRC. -/
  | bootOutcome (k : Link)
  /-- SEIZE_FAIL (R111): Four seize frames sent without two unpre-empted ones end the seize, leaving the link unseized. -/
  | seizeFail (k : Link)
  /-- AUDIT_CYCLE (R113): At the end of each 16-frame audit cycle the standby evaluates every trained link and updates LNK_AUDITOK. -/
  | auditCycle
  /-- SEIZE_ACCEPT (R109): At the end of S11 of a valid seize frame the companion accepts a higher epoch and chooses its obeyed port again. -/
  | seizeAccept (k : Link) (port : Port) (e : BitVec 16)
  /-- COMPANION_HOLD (R114): Eight missing authority frames put the companion in hold, keeping its last applied values. -/
  | companionHold (k : Link)
  /-- COMPANION_AUTONOMY (R115): When t_hold passes in hold the companion enters autonomy and reports AUTONOMOUS. -/
  | companionAutonomy (k : Link)
  /-- PROTECTIVE_ACTION (R258): K23.7 on either port makes the FEED companion discharge its gates and latch LOCAL_TRIP. -/
  | protectiveAction (k : Link) (port : Port)
  /-- HARD_LIMIT (R258): The companion's measured current exceeding its hard limit starts its protective action without the link. -/
  | hardLimit (k : Link)
  /-- TASK_START (R123): At an enabled entry's START cycle in a due major frame the engine resolves bindings, checks the segment header and begins issuing the task's bundles. -/
  | taskStart (n : Engine) (e : Fin 512)
  /-- TASK_END (R133): At the task's last cycle results still in flight are discarded with DRAIN and a quashed entry may be disabled. -/
  | taskEnd (n : Engine)
  /-- RESULT_WRITE (R128): An operation's result lands in its destination at the end of cycle t + λ − 1, with write conflicts resolved. -/
  | resultWrite (n : Engine)
  /-- ACCUMULATE (R130): At the accumulate stage t + 2 the clears and products reaching an accumulator apply with one saturation. -/
  | accumulate (n : Engine)
  /-- MUL_Q31 (R160): Loads the accumulator with twice the product of two operands. -/
  | mulQ31 (n : Engine) (q : Guard) (m1 : Bool) (ad : Acc4) (da : Reg) (db : Reg)
  /-- MAC_Q31 (R160): Adds twice the product to the accumulator. -/
  | macQ31 (n : Engine) (q : Guard) (m1 : Bool) (ad : Acc4) (da : Reg) (db : Reg)
  /-- MSU_Q31 (R160): Subtracts twice the product from the accumulator. -/
  | msuQ31 (n : Engine) (q : Guard) (m1 : Bool) (ad : Acc4) (da : Reg) (db : Reg)
  /-- MUL_Q16 (R160): Loads the accumulator with the product. -/
  | mulQ16 (n : Engine) (q : Guard) (m1 : Bool) (ad : Acc4) (da : Reg) (db : Reg)
  /-- MAC_Q16 (R160): Adds the product to the accumulator. -/
  | macQ16 (n : Engine) (q : Guard) (m1 : Bool) (ad : Acc4) (da : Reg) (db : Reg)
  /-- MSU_Q16 (R160): Subtracts the product from the accumulator. -/
  | msuQ16 (n : Engine) (q : Guard) (m1 : Bool) (ad : Acc4) (da : Reg) (db : Reg)
  /-- MULI (R160): Loads the accumulator with an operand times a 12-bit immediate. -/
  | muli (n : Engine) (q : Guard) (m1 : Bool) (ad : Acc4) (da : Reg) (imm : BitVec 12)
  /-- RDA (R163): Writes an accumulator, shifted, optionally rounded and saturated, to a data register. -/
  | rda (n : Engine) (q : Guard) (m1 : Bool) (dd : Reg) (aa : Acc4) (sh : BitVec 6) (rnd : Bool)
  /-- CLRA (R161): Clears an accumulator at its accumulate stage. -/
  | clra (n : Engine) (q : Guard) (m1 : Bool) (ad : Acc4)
  /-- SEGH (R164): The segment header, which executes as NOP. -/
  | segh (n : Engine) (len : BitVec 12)
  /-- ADD (R167): Modular addition. -/
  | add (n : Engine) (q : Guard) (dd : Reg) (da : Reg) (b : OpB)
  /-- SUB (R167): Modular subtraction. -/
  | sub (n : Engine) (q : Guard) (dd : Reg) (da : Reg) (b : OpB)
  /-- ADDS (R167): Saturating addition. -/
  | adds (n : Engine) (q : Guard) (dd : Reg) (da : Reg) (b : OpB)
  /-- SUBS (R167): Saturating subtraction. -/
  | subs (n : Engine) (q : Guard) (dd : Reg) (da : Reg) (b : OpB)
  /-- AND (R167): Bitwise AND. -/
  | and (n : Engine) (q : Guard) (dd : Reg) (da : Reg) (b : OpB)
  /-- OR (R167): Bitwise OR. -/
  | or (n : Engine) (q : Guard) (dd : Reg) (da : Reg) (b : OpB)
  /-- XOR (R167): Bitwise XOR. -/
  | xor (n : Engine) (q : Guard) (dd : Reg) (da : Reg) (b : OpB)
  /-- SHL (R167): Logical left shift. -/
  | shl (n : Engine) (q : Guard) (dd : Reg) (da : Reg) (b : OpB)
  /-- SHR (R167): Logical right shift. -/
  | shr (n : Engine) (q : Guard) (dd : Reg) (da : Reg) (b : OpB)
  /-- ASR (R167): Arithmetic right shift. -/
  | asr (n : Engine) (q : Guard) (dd : Reg) (da : Reg) (b : OpB)
  /-- MIN (R167): Signed minimum. -/
  | min (n : Engine) (q : Guard) (dd : Reg) (da : Reg) (b : OpB)
  /-- MAX (R167): Signed maximum. -/
  | max (n : Engine) (q : Guard) (dd : Reg) (da : Reg) (b : OpB)
  /-- ABS (R167): Saturating absolute value. -/
  | abs (n : Engine) (q : Guard) (dd : Reg) (da : Reg)
  /-- NEG (R167): Saturating negation. -/
  | neg (n : Engine) (q : Guard) (dd : Reg) (da : Reg)
  /-- CLAMP (R170): Clamps Dd between two operands and flags a change in a predicate. -/
  | clamp (n : Engine) (q : Guard) (dd : Reg) (da : Reg) (db : Reg) (pr : Pred)
  /-- RAMP (R171): Moves Dd toward a target by at most a step and flags arrival. -/
  | ramp (n : Engine) (q : Guard) (dd : Reg) (da : Reg) (db : Reg) (pr : Pred)
  /-- SEL (R167): Selects one of two operands by a predicate. -/
  | sel (n : Engine) (q : Guard) (dd : Reg) (pm : Pred) (da : Reg) (db : Reg)
  /-- CMP (R168): Writes a predicate from a comparison. -/
  | cmp (n : Engine) (q : Guard) (pd : Pred) (da : Reg) (b : OpB) (cond : Cond)
  /-- PLOG (R169): Combines two predicates logically. -/
  | plog (n : Engine) (q : Guard) (pd : Pred) (pa : Pred) (pb : Pred) (op : PredOp)
  /-- DIV (R172): Saturating truncating division in one of three formats, with an 18-cycle latency. -/
  | div (n : Engine) (q : Guard) (dd : Reg) (da : Reg) (db : Reg) (mode : DivMode)
  /-- LDC (R125): Loads a context word of the task's slot. -/
  | ldc (n : Engine) (q : Guard) (dd : Reg) (i : BitVec 7)
  /-- LDCX (R175): Loads a context word at a register-formed index, with a range check. -/
  | ldcx (n : Engine) (q : Guard) (dd : Reg) (da : Reg) (i : BitVec 7)
  /-- STC (R125): Stores a context word and feeds the slot's digest. -/
  | stc (n : Engine) (q : Guard) (i : BitVec 7) (db : Reg)
  /-- STCX (R175): Stores a context word at a register-formed index, with a range check. -/
  | stcx (n : Engine) (q : Guard) (da : Reg) (i : BitVec 7) (db : Reg)
  /-- LDS (R125): Loads a scratch word. -/
  | lds (n : Engine) (q : Guard) (dd : Reg) (i : BitVec 7)
  /-- LDSX (R175): Loads a scratch word at a register-formed index. -/
  | ldsx (n : Engine) (q : Guard) (dd : Reg) (da : Reg) (i : BitVec 7)
  /-- STS (R125): Stores a scratch word, relayed when in the own outbox. -/
  | sts (n : Engine) (q : Guard) (i : BitVec 7) (db : Reg)
  /-- STSX (R175): Stores a scratch word at a register-formed index. -/
  | stsx (n : Engine) (q : Guard) (da : Reg) (i : BitVec 7) (db : Reg)
  /-- LDM (R135): Reads a mailbox field through a binding, checked against its read window. -/
  | ldm (n : Engine) (q : Guard) (dd : Reg) (b : Binding) (f : BitVec 5)
  /-- STA (R136): Writes a link's ACTA or ACTB register through a binding, checked against its write window. -/
  | sta (n : Engine) (q : Guard) (b : Binding) (sel : Bool) (db : Reg)
  /-- LDI (R176): Loads a 16-bit immediate, low or high half. -/
  | ldi (n : Engine) (q : Guard) (dd : Reg) (imm : BitVec 16) (h : Bool)
  /-- RDS (R178): Reads CP, FT or TSL. -/
  | rds (n : Engine) (q : Guard) (dd : Reg) (sel : SpecReg)
  /-- EVT (R179): Raises a software event on the engine's EVT source. -/
  | evt (n : Engine) (q : Guard) (code : BitVec 7) (db : Reg)
  /-- TRIP (R180): Sets a protection threshold of a bound link, bounded by the supervisor's ceiling or floor. -/
  | trip (n : Engine) (q : Guard) (b : Binding) (sel : Thresh) (db : Reg)
  /-- INJ (R181): Reads the analyser's injection sample for the task's context. -/
  | inj (n : Engine) (q : Guard) (dd : Reg)
  /-- SCRUB_READ (R141): In an idle cycle the engine reads and checks the next code word of each memory. -/
  | scrubRead (n : Engine)
  /-- ECC_WRITEBACK (R141): A corrected code word is written back in the next free cycle of its memory. -/
  | eccWriteback (n : Engine)
  /-- ENGINE_START (R144): An ARMED engine enters RUNNING at the next major-frame start. -/
  | engineStart (n : Engine)
  /-- ENGINE_STOPPED (R144): A STOPPING engine enters STOPPED at the end of the major frame in progress. -/
  | engineStopped (n : Engine)
  /-- ADMISSION_DONE (R198): Admission completes, passing the banks to WAITING or refusing the commit whole with a code. -/
  | admissionDone
  /-- SWAP_DECISION (R200): In FAB cycle 2399 the fabric decides whether a swap follows, or fails an AT commit with LATE. -/
  | swapDecision
  /-- SWAP (R201): At the major-frame start the WAITING banks become ACTIVE and SWAP_DONE is raised. -/
  | swap
  /-- ENABLE_APPLY (R204): At the next major-frame start the pending enable requests apply in order, hold-up switch requests last. -/
  | enableApply
  /-- CUPD_APPLY (R230): At the end of cycle 2399 before the target frame the buffered words are written to the slot and fed to its digest. -/
  | cupdApply (n : Engine)
  /-- RELAY_WRITE (R236): A store to the own outbox reaches the same word of every other engine's scratch at the end of cycle t + 3. -/
  | relayWrite (n : Engine)
  /-- FRA_START (R243): At link frame 0 of the start frame the armed run begins with φ = 0. -/
  | fraStart
  /-- FRA_BOUNDARY (R245): At each sample boundary the generator presents a new sample and the correlators take WA and WB. -/
  | fraBoundary
  /-- FRA_STEP_END (R245): At the end of a step's integration phase the analyser writes gain, phase, amplitude and N. -/
  | fraStepEnd
  /-- FRA_RUN_END (R247): When the last sample period ends the run sets DONE and INJ returns 0. -/
  | fraRunEnd
  /-- FSM_EVALUATE (R266): At FAB cycle 75·m + 8 each enabled feed state machine evaluates its inputs and makes at most one transition. -/
  | fsmEvaluate
  /-- ADOPT_COMPLETE (R282): After one auxiliary rotation of adoption the state machine takes its state from the companion's report. -/
  | adoptComplete (k : Link)
  /-- PRE_MS_EXPIRY (R269): PRE_MS expires in PRECHECK and the feed returns to OFF with cause PRECHECK. -/
  | preMsExpiry (k : Link)
  /-- FSM_CMD_LIMIT (R269): A command effect missing 64 link frames after its request sends the feed to TRIPPED with cause CMD. -/
  | fsmCmdLimit (k : Link)
  /-- RAMP_TMO (R269): RAMP_TMO expires in RAMP or MAKE and the feed trips. -/
  | rampTmo (k : Link)
  /-- SHORT_RAMP (R273): The short timer reaches RS_T and the feed trips with cause SHORT_RAMP. -/
  | shortRamp (k : Link)
  /-- LIMIT_TMO (R269): LIM_MS expires in LIMIT and the feed trips. -/
  | limitTmo (k : Link)
  /-- RETRY_TIMER (R274): The retry timer expires and the feed enters PRECHECK, or sets EXPIRED while presence is absent. -/
  | retryTimer (k : Link)
  /-- DEAD_TIME (R278): The dead time DT expires in BREAK and, with the side change seen, the transfer moves to MAKE. -/
  | deadTime (k : Link)
  /-- FETSHORT (R277): The FET-short timer reaches FS_T and the feed enters FET_FAULT. -/
  | fetshort (k : Link)
  /-- PRESENCE_DEBOUNCE (R276): Raw PRESENT holding a new value for DB_MS changes debounced presence, with removal and return acting by state. -/
  | presenceDebounce (k : Link)
  /-- EPISODE_END (R275): CLR_S seconds in ON or LIMIT end an open fault episode and reset N. -/
  | episodeEnd (k : Link)
  /-- SIDE_LOSS (R278): The selected side's input below IN_MIN over SIDE_T starts a transfer in BREAK. -/
  | sideLoss (k : Link)
  /-- RETURN_TO_PREF (R279): PREF's input within the window for RET_S seconds starts a transfer back. -/
  | returnToPref (k : Link)
  /-- BLANK_CLOSE (R280): The blanking window of BLANK_T expires and closes. -/
  | blankClose
  /-- MINT_LATCH (R24): At cycle 0 of each epoch the Mint applies its pending configuration, latches its sources and begins water-filling. -/
  | mintLatch
  /-- MINT_CREDIT (R295): At the end of cycle 1199 each purse is credited with its grant and the Mint digest computed. -/
  | mintCredit
  /-- MNT_APPLIED (R293): At the chosen latch the pending Mint configuration becomes active and APPLIED is raised. -/
  | mntApplied
  /-- HOLDUP_OFF (R302): The AC_FAIL count below AC_N for RET_MS deasserts HOLDUP and ends shedding. -/
  | holdupOff
  /-- HOLDUP_SWITCH (R304): At the major-frame start after HOLDUP changes the fabric issues the hold-up switch's enable requests. -/
  | holdupSwitch
  /-- SHED (R306): The hold-up time reaching a class's shed time sheds the class. -/
  | shed (c : Fin 4)
  /-- BAT_UPDATE (R315): At the end of each epoch the estimator updates every enabled string's charge, uncertainty, flags, allowance and digest. -/
  | batUpdate
  /-- CELL_WINDOW (R314): At the end of each auxiliary rotation the estimator writes one window of cell voltages and checks the minimum cell. -/
  | cellWindow (st : Str)
  /-- BAT_LINK (R313): The consecutive substitution count reaching SUB_LIM sets LINK on the string. -/
  | batLink (st : Str)
  /-- EXTRAPOLATED_READING (R318): The rest timer reaching the EXT_S count completes an extrapolated reading. -/
  | extrapolatedReading (st : Str)
  /-- DIRECT_READING (R318): The rest timer reaching the DIR_S count completes a direct reading. -/
  | directReading (st : Str)
  /-- ROT_DECISION (R325): At the decision update the estimator chooses the next string to rest and announces ROT_NEXT, or raises ROT_BLOCKED. -/
  | rotDecision
  /-- ROT_WINDOW_START (R326): At MFN M_s the rest window begins and the string leaves PART. -/
  | rotWindowStart
  /-- ROT_WINDOW_END (R326): After W major frames the window ends, the string returns to PART and ROT_FAIL counts a window without a reading. -/
  | rotWindowEnd
  /-- BAT_APPLIED (R333): At the chosen latch the pending estimator configuration applies, or is refused with CONFIG. -/
  | batApplied
  /-- AUTH_CELL (R341): A valid peer AUTH cell updates the peer state, epoch in force, C_known and handover traffic. -/
  | authCell (lane : Fin 2) (c : Cell)
  /-- TIME_CELL (R353): A peer TIME cell is compared with the own MFN and serves a pending time alignment. -/
  | timeCell (lane : Fin 2) (c : Cell)
  /-- HEALTH_CELL (R352): A peer HEALTH cell updates the peer's readiness, counts and safe state. -/
  | healthCell (lane : Fin 2) (c : Cell)
  /-- DIGEST_CELL (R350): A peer DIGEST cell delivers context, quash, Mint or estimator digests for comparison. -/
  | digestCell (lane : Fin 2) (c : Cell)
  /-- IDLE_CELL (R339): A received IDLE or other cell advances lane lock; reserved content raises CELL. -/
  | idleCell (lane : Fin 2) (c : Cell)
  /-- LANE_DOWN (R339): Four bad cells or 128 symbols without an expected comma take a lane DOWN. -/
  | laneDown (lane : Fin 2)
  /-- HEARTBEAT (R340): An edge on TWN_HBI within its window counts as the heartbeat of the link frame. -/
  | heartbeat (hbi : Bool := true) (authIn : Bool := false)
  /-- HEARTBEAT_EVALUATE (R340): At FAB cycle 75·m + 60 the frame's heartbeat is evaluated, MISS updated and PEER_LOST or PEER_BACK raised. -/
  | heartbeatEvaluate
  /-- CLAIM_DECIDE (R342): At the major-frame start the claim is accepted with counter C_known + 1 or refused. -/
  | claimDecide
  /-- HANDOVER_DECISION (R343): In the decision cycle authority moves with epoch E′ if the ACK arrived, else HANDOVER_FAIL. -/
  | handoverDecision
  /-- DIGEST_COMPARE (R350): By cycle 2399 of frame M + 1 the units compare digests of frame M and update SHADOW_OK. -/
  | digestCompare
  /-- FWD_HDR (R354): A peer FWD_HDR cell opens a forwarded command. -/
  | fwdHdr (lane : Fin 2) (c : Cell)
  /-- FWD_DATA (R354): A peer FWD_DATA cell carries command words; the last cell is checked and delivered or answered. -/
  | fwdData (lane : Fin 2) (c : Cell)
  /-- FWD_RSP (R354): A peer FWD_RSP cell ends the sent command with its status. -/
  | fwdRsp (lane : Fin 2) (c : Cell)
  /-- FWD_TIMEOUT (R354): No response 64 link frames after SEND ends the command with TIMEOUT. -/
  | fwdTimeout
  /-- XREQ (R355): The holder receives XREQ and answers XRSP, starting to send the block when it accepts. -/
  | xreq (lane : Fin 2) (c : Cell)
  /-- XRSP (R355): The standby receives XRSP and proceeds or fails. -/
  | xrsp (lane : Fin 2) (c : Cell)
  /-- XSNAP (R355): The standby receives an XSNAP cell of captured state. -/
  | xsnap (lane : Fin 2) (c : Cell)
  /-- XJRNL (R355): The standby receives an XJRNL cell of writes made since the capture. -/
  | xjrnl (lane : Fin 2) (c : Cell)
  /-- XFER_APPLY (R355): At the block's apply point the standby applies the transferred state and raises XFER_DONE, or fails with LATE. -/
  | xferApply
  /-- XFER_QUIET (R355): No quiet frame within 16 frames fails an engine transfer with QUIET. -/
  | xferQuiet
  /-- FAULT_DETECT (R362): A detection arriving at the collector counts, latches the flag, raises the detection event and starts the reaction. -/
  | faultDetect (src : Fin 192)
  /-- ESC_EXPIRED (R366): An unacknowledged escalation timer expires and the source's action is taken. -/
  | escExpired (src : Fin 192)
  /-- SO_FALLBACK (R369): A unit still holding 64 link frames after a SWITCHOVER action enters the safe state. -/
  | soFallback
  /-- HOLD_END (R372): HOLD_MS after safe entry every link transmitter stops at the next link-frame boundary. -/
  | holdEnd
  /-- TX_RESTART (R374): After an accepted exit the link transmitters restart at the next major-frame start with every link unseized. -/
  | txRestart
  /-- SELF_CHECK (R370): The collector's reset self-check completes, setting SELF_OK or detecting SELFCHECK. -/
  | selfCheck (ok : Bool)
  /-- SUP_WDOG (R378): TMO_MS without a KICK detects SUP_WDOG. -/
  | supWdog
  /-- FLUSH_BURST (R386): With 8 records waiting or the oldest 100 µs old, the Ledger writes one MRAM burst of records or images. -/
  | flushBurst (ok : Bool)
  /-- FLUSH_RETRY (R388): While blocked the Ledger retries every 1 ms and raises RESUMED on success. -/
  | flushRetry (ok : Bool)
  /-- PFAIL_FALL (R389): PFAIL_N falls; the Ledger starts its bounded flush, the power-fail latch fires and in-progress xSPI and Vault operations stop. -/
  | pfailFall
  /-- PF_END (R389): At completion or at BUDGET_US the flush ends and PF_END is written as the last OWN record. -/
  | pfEnd
  /-- PF_DONE (R389): The last burst of the power-fail flush completes and PF_DONE is set. -/
  | pfDone
  /-- PFAIL_RISE (R473): PFAIL_N rises and PFAIL_RISE is raised. -/
  | pfailRise
  /-- LEDGER_CELL (R391): A received LEDGER cell is assembled into a mirrored record and written to PEER and AUTH, or discarded. -/
  | ledgerCell (lane : Fin 2) (c : Cell)
  /-- WAVE_FREEZE (R393): A triggered channel freezes after 8192 − PRE records. -/
  | waveFreeze (c : Fin 16)
  /-- RD_DONE (R394): A readout copy completes, sets DONE and raises RD_DONE. -/
  | rdDone
  /-- WARM_RELEASE (R410): After 64 MON cycles of warm reset the cores are released and the boot ROM resumes the image. -/
  | warmRelease
  /-- SEALED (R416): The first fetch from outside the boot ROM seals an unsealed table. -/
  | sealed
  /-- CHALLENGE_EXPIRY (R418): The challenge's 10 s lifetime expires and CHAL_VALID clears. -/
  | challengeExpiry
  /-- GRANT (R419): The role service checks a credential and raises a requester's role. -/
  | grant (a1 : Word)
  /-- DROP_ROLE (R419): The role service lowers a requester's role. -/
  | dropRole (role : Word) (req : Word)
  /-- VAULT_SCAN (R428): The reset scan reads every cell at two margins, checks integrity and fixes the lifecycle state and variant. -/
  | vaultScan
  /-- VAULT_HOLD_RESCAN (R432): While held for integrity the scan repeats once per second and releases reset when every region passes. -/
  | vaultHoldRescan
  /-- VLT_CMD_END (R437): A Vault command completes with DONE or ends with VERIFY or PFAIL. -/
  | vltCmdEnd (ok : Bool)
  /-- POWER_ON_RESET (R449): PORST_N rises, the straps are sampled and the cold start sequence begins. -/
  | powerOnReset (strap : BitVec 5)
  /-- RAIL_LOW (R538): VDD_AON, VDD_CORE or VDD_LNK below its minimum holds every domain in reset. -/
  | railLow
  /-- SUPERVISOR_RELEASE (R449): After memory initialisation the supervisor is released and the boot ROM runs. -/
  | supervisorRelease
  /-- BEGIN (R466): Update service function erasing the escrow slot and setting STAGING. -/
  | begin (len : Word)
  /-- WRITE (R466): Update service function programming and reading back escrow bytes. -/
  | write (a1 : Word) (a2 : Word) (a3 : Word)
  /-- VERIFY (R466): Update service function checking the escrow slot. -/
  | verify
  /-- ACTIVATE (R468): Update service function setting TRIAL on the escrow slot. -/
  | activate
  /-- COMMIT (R469): Update service function confirming the running trial slot. -/
  | commit (a1 : Word)
  /-- ABORT (R466): Update service function setting FAILED on the escrow slot. -/
  | abort
  /-- ADVANCE (R469): Update service function advancing the rollback value. -/
  | advance (a0 : BitVec 32 := 6)
  /-- ETH_HELLO (R517): In recovery the ROM broadcasts HELLO once per second until a request arrives. -/
  | ethHello
  /-- ETH_CHAL (R517): Recovery request returning the challenge. -/
  | ethChal (tag : BitVec 16 := 0)
  /-- ETH_GRANT (R517): Recovery request carrying a credential. -/
  | ethGrant (cred : List Byte) (tag : BitVec 16 := 0)
  /-- ETH_BEGIN (R517): Recovery request erasing the target slot. -/
  | ethBegin (len : Word) (tag : BitVec 16 := 0)
  /-- ETH_WRITE (R517): Recovery request writing image bytes. -/
  | ethWrite (off : Word) (data : List Byte) (tag : BitVec 16 := 0)
  /-- ETH_FINISH (R517): Recovery request checking the slot and writing its markers. -/
  | ethFinish (tag : BitVec 16 := 0)
  /-- ETH_RESET (R517): Recovery request making a system reset. -/
  | ethReset (tag : BitVec 16 := 0)
  /-- TCK_WINDOW (R473): At the end of each 256-cycle MON window the TCK rate is updated and TCK_SLOW or TCK_OK raised on a change. -/
  | tckWindow (cnt : Nat) (ops : List TapOp := [])
  /-- PWRGOOD_FALL (R473): PWRGOOD falls, raising PWRGOOD_FALL and detecting PWRGOOD. -/
  | pwrgoodFall
  /-- PWRGOOD_RISE (R473): PWRGOOD rises and PWRGOOD_RISE is raised. -/
  | pwrgoodRise
  /-- VPP_IN (R473): VPP_VLT enters its programming range and VPP_IN is raised. -/
  | vppIn
  /-- VPP_OUT (R473): VPP_VLT leaves its programming range and VPP_OUT is raised. -/
  | vppOut
  /-- TWB_CMD_END (R477): A two-wire command ends with DONE or FAIL and clears BUSY. -/
  | twbCmdEnd (p : Fin 8) (r : TwbResult)
  /-- TWB_TIMEOUT (R483): SCL held low, no free bus, or no GO after HOLD within TMO_MS fails the command with TIMEOUT. -/
  | twbTimeout (p : Fin 8) (idx : Option Nat)
  /-- POLL_PROBE (R485): After a page segment the port sends a probe every POLL_US until acknowledged or POLL_N fail. -/
  | pollProbe (p : Fin 8) (ack : Bool)
  /-- TWT_WRITE (R490): A host write to the target port sets the pointer and stores window bytes, raising WRITE at its end. -/
  | twtWrite (bytes : List Byte) (addr : BitVec 7 := 0x10) (part : TwtPart := .whole)
  /-- TWT_READ (R492): A host read from the target port sends window bytes from the pointer, raising READ at its end. -/
  | twtRead (ptr : List Byte) (n : Nat) (addr : BitVec 7 := 0x10) (part : TwtPart := .whole)
  /-- TWT_TIMEOUT (R494): SCL or SDA low for TTMO_MS while addressed releases the target port. -/
  | twtTimeout (lines : Option (Bool × Bool) := none)
  /-- TWT_ARA (R495): A host read of 0x0C with a pending request is answered with TADDR under arbitration. -/
  | twtAra (won : Bool)
  /-- ATTN_TMO (R496): A request pending for ATTN_MS sets TMO and raises ATTN_TMO. -/
  | attnTmo
  /-- TIMER_TICK (R501): A timer channel's count tick increments CNT, wraps at PER and matches at CMP. -/
  | timerTick (i : Fin 24)
  /-- CAPTURE (R505): A selected GPIO edge captures CNT into TMR_CAP, or counts an overrun. -/
  | capture (i : Fin 24)
  /-- HKA_SCAN_START (R511): A timer trigger or a continuous restart begins a scan, or counts MISSED. -/
  | hkaScanStart
  /-- HKA_RESULT (R512): A channel's averaged result is written with NEW and checked against its window. -/
  | hkaResult (i : Fin 16) (vin : List Int) (refn : Int := 0) (refp : Int := 4096)
  /-- GPIO_EDGE (R514): A filtered level change on a GPIO pin raises EDGE or ALERT as configured. -/
  | gpioEdge (i : Fin 24) (level : Bool) (ball : Bool := false)
  /-- TX_DONE (R516): A transmitted frame returns its descriptor and raises TX_DONE. -/
  | txDone
  /-- RX (R516): A received frame is filtered and stored in an owned descriptor, or dropped. -/
  | rx (bytes : List Byte)
  /-- MDIO_DONE (R515): An MDIO transaction completes and GO clears. -/
  | mdioDone (data : BitVec 16)
  /-- ICMD_DONE (R522): An indirect xSPI command completes with DONE or FAIL. -/
  | icmdDone (ok : Bool) (data : List Byte)
  /-- DQS_FAIL (R525): No DQS edge within 32 cycles ends an 8D-8D-8D read as a DQS failure. -/
  | dqsFail
  /-- PORST_N_LOW (R445): PORST_N driven low for 1 µs or more puts every domain into power-on reset until it rises again. -/
  | porstNLow
  /-- RAIL_RETURN (R538): VDD_AON, VDD_CORE and VDD_LNK all return within range, ending the reset that RAIL_LOW imposed. -/
  | railReturn
  /-- TEST_RESET (R445): TRST_N low resets the IEEE 1149.1 TAP only. -/
  | testReset
  /-- CELL_TRANSMIT (R339): Every 64 ns each enabled twin lane sends its next waiting cell by priority, or IDLE, advancing mirrored-record, forwarded-command, digest and transfer sending. -/
  | cellTransmit (lane : Fin 2)
  /-- PORT_LIVE_LOSS (R107): The age of a companion port reaches 4 link frames without an authority frame, so the port stops being live and the companion chooses its obeyed port again. -/
  | portLiveLoss (k : Link) (port : Port)
  /-- TWN_RX_LOCK_LOSS (R363): The twin receive clock recovery loses lock, clearing SYS_CLKSTAT.TWN_LOCK and detecting TWN_LOCK on source 10. -/
  | twnRxLockLoss
  /-- REGISTER_WRITE (R19): A supervisor or debug write to a register that has no row of its own, applied field by field under the access codes, with reserved encodings discarded whole. -/
  | registerWrite (who : Who) (a : Nat) (v : Word)
  /-- ABSENT_WRITE (R2): A write to the page of a resource absent on a fused-down member is discarded and raises ABSENT on source 44. -/
  | absentWrite (who : Who) (a : Nat) (v : Word)
  /-- UNMAPPED_ACCESS (R401): An access outside the map, a write to a read-only range or a narrow access to a checked range reads 0, faults and raises UNMAPPED. -/
  | unmappedAccess (who : Who) (a : Nat) (wr : Bool) (width : Nat)
  /-- AUDITED_WRITE (R383): A write to an INSTALLER or MAKER page, or a role change, completes only once its AUDIT record has entered the merge queue. -/
  | auditedWrite (who : Who) (a : Nat) (v : Word)
  /-- LINKED_LOW_READ (R12): A low-word read of a linked counter returns the low word and captures the high word into the path's holding register. -/
  | linkedLowRead (who : Who) (c : Linked)
  /-- LINKED_HIGH_READ (R14): A high-word read returns and consumes the held value, or returns the live word and sets TORN when nothing is held. -/
  | linkedHighRead (who : Who) (c : Linked)
  /-- TIME_LOAD (R40): A write of TBS_CTRL.LOAD captures the load value and sets LOAD_PEND, or is discarded with ACCESS outside ALIGN or with a link trained. -/
  | timeLoad (who : Who) (v : Word)
  /-- TRAIN (R72): A write of LNK_CTRL.TRAIN from OFF or FAILED with EN = 1 starts training in LOCK. -/
  | train (who : Who) (k : Link) (v : Word)
  /-- LINK_DISABLE (R72): Writing LNK_CTRL.EN = 0 returns the link to OFF in the next link frame and ends any command, training step or round in progress. -/
  | linkDisable (who : Who) (k : Link) (v : Word)
  /-- LNK_CNT_CLR (R88): A write of LNK_CTRL.CNT_CLR clears the link's seven counters and the four global link counters. -/
  | lnkCntClr (who : Who) (k : Link) (v : Word)
  /-- LNK_ACT_WRITE (R84): A supervisor write of LNK_ACT sets the actuation registers when ACT_SRC = SUP, and is discarded with ACCESS otherwise or in the safe state. -/
  | lnkActWrite (who : Who) (k : Link) (v : Word)
  /-- BOOT_GO (R76): A write of LNK_BGO.GO[n] requests a bootstrap round of descriptor n at the next major-frame start, or sets BUSY if it runs. -/
  | bootGo (who : Who) (v : Word)
  /-- RESEIZE (R111): A write of 1 to a LNK_RESEIZE bit makes a seize pending, or raises SEIZE_FAIL when the link is not TRAINED or HOLDER = 0. -/
  | reseize (who : Who) (w : Fin 3) (v : Word)
  /-- ENGINE_MEM_READ (R139): A supervisor read of engine memory returns corrected data, or 0 with a UE flag and event. -/
  | engineMemRead (who : Who) (a : Nat)
  /-- RUN (R144): A write of TEL_CTRL.RUN with a committed bank arms the engine, otherwise it sets NOBANK. -/
  | run (who : Who) (n : Engine) (v : Word)
  /-- STOP (R144): A write of TEL_CTRL.STOP moves the engine to STOPPING or STOPPED. -/
  | stop (who : Who) (n : Engine) (v : Word)
  /-- TEL_CNT_CLR (R150): A write of TEL_CTRL.CNT_CLR clears the engine's counters. -/
  | telCntClr (who : Who) (n : Engine) (v : Word)
  /-- PROGRAM_STAGE (R146): A program-window write of word 0..2 goes to the staging register. -/
  | programStage (who : Who) (n : Engine) (a : BitVec 12) (w : Fin 3) (v : Word)
  /-- PROGRAM_COMMIT (R184): A program-window write of word 3 commits the staged bundle, or is refused with ACCESS for a reserved encoding or a used address. -/
  | programCommit (who : Who) (n : Engine) (a : BitVec 12) (v : Word)
  /-- CONTEXT_WRITE (R147): A supervisor write to context or scratch memory updates one word unless protected or colliding with a task store. -/
  | contextWrite (who : Who) (n : Engine) (scratch : Bool) (i : BitVec 11) (v : Word)
  /-- BANK_WRITE (R196): A supervisor write to a schedule bank is accepted in EDIT and discarded with BANK_LOCKED otherwise. -/
  | bankWrite (who : Who) (n : Engine) (off : BitVec 14) (v : Word)
  /-- SCH_COMMIT (R197): A write of SCH_CTRL.COMMIT moves the NEXT banks of the mask into ADMITTING, or is refused with BUSY or LATE. -/
  | schCommit (who : Who) (v : Word)
  /-- SCH_ABORT (R203): A write of SCH_CTRL.ABORT returns the committed banks to EDIT, or sets ABORT_LATE when too late. -/
  | schAbort (who : Who) (v : Word)
  /-- ENSET (R204): A write of TEL_SCH_ENSET requests an active entry be enabled. -/
  | enset (who : Who) (n : Engine) (v : Word)
  /-- ENCLR (R204): A write of TEL_SCH_ENCLR requests an active entry be disabled. -/
  | enclr (who : Who) (n : Engine) (v : Word)
  /-- CPROT_WRITE (R233): A write of TEL_CPROT sets a slot's protected range, or is discarded when locked. -/
  | cprotWrite (who : Who) (n : Engine) (str : Fin 16) (v : Word)
  /-- CUPD_GO (R230): A write of TEL_CUPD_CTRL.GO requests a timed context update, or fails with BUSY or LATE. -/
  | cupdGo (who : Who) (n : Engine) (v : Word)
  /-- CUPD_ABORT (R231): A write of TEL_CUPD_CTRL.ABORT cancels a pending update. -/
  | cupdAbort (who : Who) (n : Engine) (v : Word)
  /-- FRA_GO (R243): A write of FRA_CTRL.GO arms a run, or refuses it with AMP, CAPX or LATE. -/
  | fraGo (who : Who) (v : Word)
  /-- FRA_STOP (R247): A write of FRA_CTRL.STOP stops the run at the next boundary with FAIL STOPPED. -/
  | fraStop (who : Who) (v : Word)
  /-- FSM_EN (R265): A write of FSM_CTRL.EN enables the feed state machine, or is discarded with ACCESS when the role is not FEED. -/
  | fsmEn (who : Who) (k : Link) (v : Word)
  /-- FSM_ON (R269): A write of FSM_CTRL.ON requests a start from OFF. -/
  | fsmOn (who : Who) (k : Link) (v : Word)
  /-- FSM_OFF (R269): A write of FSM_CTRL.OFF requests the feed be turned off. -/
  | fsmOff (who : Who) (k : Link) (v : Word)
  /-- FSM_CLEAR (R269): A write of FSM_CTRL.CLEAR requests OFF with the retry count reset. -/
  | fsmClear (who : Who) (k : Link) (v : Word)
  /-- FSM_ADOPT (R282): A write of FSM_CTRL.ADOPT starts adoption of the companion's state. -/
  | fsmAdopt (who : Who) (k : Link) (v : Word)
  /-- FSM_CNT_CLR (R286): A write of FSM_CTRL.CNT_CLR clears SUBST and both feed counters. -/
  | fsmCntClr (who : Who) (k : Link) (v : Word)
  /-- BLANK (R280): A write of FSM_GCTRL.BLANK opens or restarts the blanking window on all FEED links. -/
  | blank (who : Who) (v : Word)
  /-- MNT_APPLY (R293): A write of MNT_APPLY.GO requests the pending Mint configuration, or fails with LATE. -/
  | mntApply (who : Who) (v : Word)
  /-- BAT_APPLY (R333): A write of BAT_APPLY.GO requests the pending estimator configuration, or fails with LATE. -/
  | batApply (who : Who) (v : Word)
  /-- CLAIM (R342): A write of TWN_CTRL.CLAIM requests authority at the next major-frame start. -/
  | claim (who : Who) (v : Word)
  /-- HANDOVER (R343): A write of TWN_CTRL.HANDOVER makes the holder request a planned handover at a named frame. -/
  | handover (who : Who) (v : Word)
  /-- TALIGN (R353): A write of TWN_CTRL.TALIGN loads T and MFN from the next valid TIME cell, or is discarded. -/
  | talign (who : Who) (v : Word)
  /-- FWD_SEND (R354): A write of TWN_FWD_TX.SEND sends a forwarded command stamped with the epoch, or refuses it with LENGTH. -/
  | fwdSend (who : Who) (v : Word)
  /-- XFER_GO (R355): A write of TWN_XFER_CTRL.GO on the standby sends XREQ for a block. -/
  | xferGo (who : Who) (v : Word)
  /-- TWN_CNT_CLR (R358): A write of TWN_CTRL.CNT_CLR clears the five twin counters. -/
  | twnCntClr (who : Who) (v : Word)
  /-- FAULT_ACK (R366): A write of 1 to an FCU_FLAG bit clears the flag and acknowledges a running escalation. -/
  | faultAck (who : Who) (w : Fin 6) (v : Word)
  /-- ENTER_SAFE (R372): A write of FCU_CTRL.ENTER_SAFE enters the safe state with cause 254. -/
  | enterSafe (who : Who) (v : Word)
  /-- SAFE_EXIT (R374): A write of FCU_SAFE.KEY = 0xA55A leaves the safe state when its conditions hold, or raises EXIT_REFUSED. -/
  | safeExit (who : Who) (v : Word)
  /-- INJECT_ARM (R371): A write of FCU_INJ arms a check-bit mask for the checker's next encoded write. -/
  | injectArm (who : Who) (c : Fin 78) (v : Word)
  /-- FCU_CNT_CLR (R378): A write of FCU_CTRL.CNT_CLR clears every FCU_SCNT. -/
  | fcuCntClr (who : Who) (v : Word)
  /-- KICK (R378): A write of FCU_WDOG.KICK restarts the supervisor watchdog. -/
  | kick (who : Who) (v : Word)
  /-- FLUSH_EN (R385): A write of LDG_CTRL.FLUSH_EN starts flushing, or is refused with RANGE for bad regions. -/
  | flushEn (who : Who) (v : Word)
  /-- LEDGER_WINDOW_READ (R384): A read of the Ledger RAM window returns corrected data, or 0 with LDG_UE and an ERR event. -/
  | ledgerWindowRead (who : Who) (a : Nat)
  /-- WAVE_ARM (R393): A write of LDG_WCH.ARM arms a channel, clearing FROZEN, SAVED and FILL. -/
  | waveArm (who : Who) (c : Fin 16) (v : Word)
  /-- TRIG_NOW (R393): A write of LDG_CTRL.TRIG_NOW triggers the armed channels. -/
  | trigNow (who : Who) (v : Word)
  /-- READOUT_GO (R394): A write of LDG_RD_CTRL.GO starts a copy to DTCM, or is refused with LENGTH, RANGE or BUSY. -/
  | readoutGo (who : Who) (v : Word)
  /-- LDG_CNT_CLR (R396): A write of LDG_CTRL.CNT_CLR clears the four Ledger counters. -/
  | ldgCntClr (who : Who) (v : Word)
  /-- EVR_CLAIM (R405): A supervisor read of EVR_CLAIM returns and clears the lowest pending enabled source. -/
  | evrClaim (who : Who)
  /-- SOFTWARE_EVENT (R407): A write of EVR_SWEV raises an event on source 408 + IDX. -/
  | softwareEvent (who : Who) (v : Word)
  /-- WARM_REQUEST (R409): A write of SYS_RST_CTRL.WARM with KEY starts a warm supervisor restart. -/
  | warmRequest (who : Who) (v : Word)
  /-- PERM_WRITE (R416): A boot-issued write of RGT_PERM before the seal sets an entry, otherwise it is denied. -/
  | permWrite (who : Who) (e : Fin 256) (v : Word)
  /-- SEAL (R416): A boot-issued write of 0x5EA1 to RGT_SEAL seals the permission table. -/
  | seal (who : Who) (v : Word)
  /-- ROLE_WRITE (R417): A boot-issued write of RGT_ROLE_SUP or RGT_ROLE_DBG sets the role and is audited. -/
  | roleWrite (who : Who) (dbg : Bool) (v : Word)
  /-- CHALLENGE (R418): A read of RGT_CHAL 0 loads a new 256-bit challenge and starts its lifetime. -/
  | challenge (who : Who)
  /-- PKEY (R435): A write of 0x0B1E to VLT_PKEY arms the next Vault GO. -/
  | pkey (who : Who) (v : Word)
  /-- PROGRAM (R436): Vault command blowing the set bits of one word. -/
  | program (who : Who) (v : Word)
  /-- LOCK_W (R436): Vault command write-locking a region after CRC and margin checks. -/
  | lockW (who : Who) (v : Word)
  /-- LOCK_R (R436): Vault command read-locking a region. -/
  | lockR (who : Who) (v : Word)
  /-- ADVANCE_LC (R438): Vault command blowing the next lifecycle field. -/
  | advanceLc (who : Who) (v : Word)
  /-- ADVANCE_RB (R436): Vault command advancing the rollback value. -/
  | advanceRb (who : Who) (v : Word)
  /-- REPAIR (R436): Vault command re-blowing weak copies of a region, then rescanning it. -/
  | repair (who : Who) (v : Word)
  /-- RESCAN (R439): Vault command repeating the two-margin reading without changing values in use. -/
  | rescan (who : Who) (v : Word)
  /-- SHADOW_WRITE (R440): A write of VLT_SHDAT sets a shadow word in MAKER_TEST or PROVISIONED, or is discarded. -/
  | shadowWrite (who : Who) (v : Word)
  /-- OVERRIDE_WRITE (R440): A write of VLT_OVR makes consumers use a region's shadow words, or is discarded. -/
  | overrideWrite (who : Who) (v : Word)
  /-- VAULT_READ (R441): A read of the Vault window returns the word, or 0 with RLOCKED for a read-locked region. -/
  | vaultRead (who : Who) (w : Fin 512)
  /-- SYSTEM_RESET (R445): A write of SYS_RST_CTRL.SYSTEM with KEY resets all domains except AON. -/
  | systemReset (who : Who) (v : Word)
  /-- TWB_WRITE (R477): Two-wire WRITE command, split into pages when PAGE_LOG2 is set. -/
  | twbWrite (who : Who) (p : Fin 8) (v : Word)
  /-- TWB_READ (R477): Two-wire READ command. -/
  | twbRead (who : Who) (p : Fin 8) (v : Word)
  /-- WRITE_READ (R477): Two-wire WRITE_READ command with a repeated START. -/
  | writeRead (who : Who) (p : Fin 8) (v : Word)
  /-- BLOCK_WRITE (R477): SMBus Block Write command. -/
  | blockWrite (who : Who) (p : Fin 8) (v : Word)
  /-- BLOCK_READ (R479): SMBus Block Read command with a count check. -/
  | blockRead (who : Who) (p : Fin 8) (v : Word)
  /-- BLOCK_PROC (R477): SMBus Block Write-Block Read Process Call command. -/
  | blockProc (who : Who) (p : Fin 8) (v : Word)
  /-- QUICK (R477): SMBus Quick Command. -/
  | quick (who : Who) (p : Fin 8) (v : Word)
  /-- ARA (R477): Alert Response Address read. -/
  | ara (who : Who) (p : Fin 8) (v : Word)
  /-- CLEAR (R487): Bus clear giving up to nine clocks and a START and STOP. -/
  | clear (who : Who) (p : Fin 8) (v : Word)
  /-- TWB_ENABLE (R488): A write setting TWB_CFG.EN with AUTO_CLR starts a CLEAR when SDA is stuck low. -/
  | twbEnable (who : Who) (p : Fin 8) (v : Word)
  /-- TWB_CNT_CLR (R499): A write of TWB_CFG.CNT_CLR clears the three port counters. -/
  | twbCntClr (who : Who) (p : Fin 8) (v : Word)
  /-- ATTN_REQ (R495): A write of TWT_ATTN.REQ makes an attention request pending. -/
  | attnReq (who : Who) (v : Word)
  /-- PER_WRITE (R502): A write of TMR_PER takes effect next tick or at the next wrap with PRELOAD. -/
  | perWrite (who : Who) (i : Fin 24) (v : Word)
  /-- CMP_WRITE (R504): A write of TMR_CMP takes effect, setting CMP_LATE when already passed. -/
  | cmpWrite (who : Who) (i : Fin 24) (v : Word)
  /-- CAP_READ (R505): A read of TMR_CAP clears CAPF. -/
  | capRead (who : Who) (i : Fin 24)
  /-- RES_READ (R512): A read of HKA_RES clears NEW. -/
  | resRead (who : Who) (i : Fin 16)
  /-- GPIO_SET (R514): A write of GPIO_SET sets output bits. -/
  | gpioSet (who : Who) (v : Word)
  /-- GPIO_CLR (R514): A write of GPIO_CLR clears output bits. -/
  | gpioClr (who : Who) (v : Word)
  /-- TX_KICK (R516): A write of ETH_TXKICK makes the MAC send owned transmit descriptors in order. -/
  | txKick (who : Who) (v : Word)
  /-- MDIO (R515): A write of ETH_MDIO.GO runs a clause 22 read or write. -/
  | mdio (who : Who) (v : Word)
  /-- WINDOW_READ (R520): A read of the xSPI window returns CS0 data through the block buffer, or faults when disabled. -/
  | windowRead (who : Who) (a : Nat)
  /-- ICMD_GO (R522): A write of XSP_ICMD.GO starts an indirect command, or refuses it with LENGTH, BUSY or PFAIL. -/
  | icmdGo (who : Who) (v : Word)
  /-- XSP_CNT_CLR (R528): A write of XSP_CTRL.CNT_CLR clears XSP_CNT_DQS. -/
  | xspCntClr (who : Who) (v : Word)
deriving DecidableEq, Repr

end Sys2Proof
end

