-- ==== Sys2Proof/Decode.lean ====
section
/-! DEFINITION. Decode.lean: the commands that words spell. spec/opcode_table.json gives no row any bits, so there is no
word to decode. -/

namespace Sys2Proof

/-- The command that the `nbits` bits `w` spell by the table: none, since no row has bits. -/
def decodeTableWord (_nbits _w : Nat) : Option Instr := none

end Sys2Proof
end

