-- ==== Sys2Proof/Machine/Map.lean ====
section
/-! DEFINITION. Machine/Map.lean: a sparse map from numbers to values, as plain data. Every memory, register file and
family of equal units of the block is held as one. Its canonical form: keys strictly rising, and no entry equal to what
an unlisted key reads as, so that equal contents are equal lists. -/

namespace Sys2Proof.Machine

/-- A sparse map: (key, value) pairs. -/
abbrev SMap (α : Type) := List (Nat × α)

/-- What key `k` holds; an unlisted key reads as `d k`. -/
def SMap.get {α : Type} (d : Nat → α) (m : SMap α) (k : Nat) : α :=
  match m with
  | [] => d k
  | (k', v) :: t => if k = k' then v else SMap.get d t k

/-- Drops key `k`, wherever it is listed. -/
def SMap.drop {α : Type} (m : SMap α) (k : Nat) : SMap α :=
  match m with
  | [] => []
  | (k', v) :: t => if k = k' then SMap.drop t k else (k', v) :: SMap.drop t k

/-- Lists key `k` with value `v` at its place in rising order, in place of an older entry. -/
def SMap.ins {α : Type} (m : SMap α) (k : Nat) (v : α) : SMap α :=
  match m with
  | [] => [(k, v)]
  | (k', v') :: t =>
    if k < k' then (k, v) :: (k', v') :: t
    else if k = k' then (k, v) :: t
    else (k', v') :: SMap.ins t k v

/-- Writes `v` at key `k`; writing what an unlisted key reads as removes the entry. -/
def SMap.set {α : Type} [DecidableEq α] (d : Nat → α) (m : SMap α) (k : Nat) (v : α) : SMap α :=
  if v = d k then SMap.drop m k else SMap.ins m k v

/-- Changes the value at key `k` by `f`. -/
def SMap.upd {α : Type} [DecidableEq α] (d : Nat → α) (m : SMap α) (k : Nat) (f : α → α) : SMap α :=
  SMap.set d m k (f (SMap.get d m k))

/-- Keys strictly rising from `lo` on, no entry equal to what an unlisted key reads as. -/
def SMap.wfFrom {α : Type} [DecidableEq α] (d : Nat → α) (lo : Nat) (m : SMap α) : Bool :=
  match m with
  | [] => true
  | (k, v) :: t => decide (lo ≤ k) && decide (v ≠ d k) && SMap.wfFrom d (k + 1) t

/-- The canonical form. -/
def SMap.wf {α : Type} [DecidableEq α] (d : Nat → α) (m : SMap α) : Bool :=
  SMap.wfFrom d 0 m

/-- The entries whose key lies in `lo ..< lo + n`, with keys moved down by `lo`. -/
def SMap.slice {α : Type} (m : SMap α) (lo n : Nat) : SMap α :=
  match m with
  | [] => []
  | (k, v) :: t => if lo ≤ k ∧ k < lo + n then (k - lo, v) :: SMap.slice t lo n else SMap.slice t lo n

/-- The map less every entry whose key satisfies `p`. -/
def SMap.clear {α : Type} (m : SMap α) (p : Nat → Bool) : SMap α :=
  m.filter (fun e => !p e.1)

end Sys2Proof.Machine
end

