-- ==== Sys2Proof/Machine/RegMap.lean ====
section
/-! DEFINITION. Machine/RegMap.lean: the registers of the block, from the spec's register tables: where each stands,
its fields with their access codes (R19) and the ranges outside which a value is a reserved encoding (R11), and what it
holds after reset. Names are the spec's: `LNK_CTRL k` is a register's address, `LNK_CTRL_EN k` a field of it. -/

namespace Sys2Proof.Machine

/-- The access codes of R19. -/
inductive Acc where
  | ro | rw | w1c | w1s | wo | rwb | rwo
deriving DecidableEq, Repr

/-- A field of a register at its address: bits `hi..lo`. -/
structure Fld where
  addr : Nat
  hi : Nat
  lo : Nat
deriving DecidableEq, Repr

/-- A field of a register table: its bits, its access code, and the range outside which a written value is a reserved
encoding. -/
structure RegFld where
  hi : Nat
  lo : Nat
  acc : Acc
  min : Nat
  max : Nat
deriving DecidableEq, Repr

/-- A register (or a family of equal ones): the address of the first, up to two strides with their counts, the word
after reset, and its fields. Bits of no field are reserved (R10). -/
structure RegRow where
  base : Nat
  s1 : Nat
  n1 : Nat
  s2 : Nat
  n2 : Nat
  reset : Nat
  flds : List RegFld
deriving DecidableEq, Repr

/-- A full-range field. -/
def fld (hi lo : Nat) (acc : Acc) : RegFld := ⟨hi, lo, acc, 0, 2 ^ (hi - lo + 1) - 1⟩

/-- A field with a stated range. -/
def fldR (hi lo : Nat) (acc : Acc) (min max : Nat) : RegFld := ⟨hi, lo, acc, min, max⟩


/-! ## SYS registers -/

/-- `SYS_IDENT`, R4. -/
def SYS_IDENT : Nat := 0x40000000
def SYS_IDENT_FAMILY : Fld := ⟨SYS_IDENT, 31, 24⟩
def SYS_IDENT_VARIANT : Fld := ⟨SYS_IDENT, 23, 20⟩
def SYS_IDENT_STEPPING : Fld := ⟨SYS_IDENT, 19, 16⟩
def SYS_IDENT_LINKS : Fld := ⟨SYS_IDENT, 15, 8⟩
def SYS_IDENT_ENGINES_LOG2 : Fld := ⟨SYS_IDENT, 7, 4⟩
def SYS_IDENT_STRINGS_LOG2 : Fld := ⟨SYS_IDENT, 3, 0⟩
def SYS_IDENT_row : RegRow := ⟨0x40000000, 0x4, 1, 0x4, 1, 0x5C010000, [fld 31 24 .ro, fld 23 20 .ro, fld 19 16 .ro, fld 15 8 .ro, fld 7 4 .ro, fld 3 0 .ro]⟩
/-- `SYS_RST_CAUSE`, R472. -/
def SYS_RST_CAUSE : Nat := 0x40000010
def SYS_RST_CAUSE_SUP_ACT : Fld := ⟨SYS_RST_CAUSE, 4, 4⟩
def SYS_RST_CAUSE_WARM_REQ : Fld := ⟨SYS_RST_CAUSE, 3, 3⟩
def SYS_RST_CAUSE_VHOLD : Fld := ⟨SYS_RST_CAUSE, 2, 2⟩
def SYS_RST_CAUSE_SYSREQ : Fld := ⟨SYS_RST_CAUSE, 1, 1⟩
def SYS_RST_CAUSE_POR : Fld := ⟨SYS_RST_CAUSE, 0, 0⟩
def SYS_RST_CAUSE_row : RegRow := ⟨0x40000010, 0x4, 1, 0x4, 1, 0x0, [fld 4 4 .w1c, fld 3 3 .w1c, fld 2 2 .w1c, fld 1 1 .w1c, fld 0 0 .w1c]⟩
/-- `SYS_RST_CTRL`, R472. -/
def SYS_RST_CTRL : Nat := 0x40000014
def SYS_RST_CTRL_KEY : Fld := ⟨SYS_RST_CTRL, 31, 16⟩
def SYS_RST_CTRL_SYSTEM : Fld := ⟨SYS_RST_CTRL, 1, 1⟩
def SYS_RST_CTRL_WARM : Fld := ⟨SYS_RST_CTRL, 0, 0⟩
def SYS_RST_CTRL_row : RegRow := ⟨0x40000014, 0x4, 1, 0x4, 1, 0x0, [fld 31 16 .wo, fld 1 1 .wo, fld 0 0 .wo]⟩
/-- `SYS_STRAP`, R472. -/
def SYS_STRAP : Nat := 0x40000018
def SYS_STRAP_RECOVERY : Fld := ⟨SYS_STRAP, 4, 4⟩
def SYS_STRAP_BOOT_SEL : Fld := ⟨SYS_STRAP, 3, 2⟩
def SYS_STRAP_UNIT_ID : Fld := ⟨SYS_STRAP, 0, 0⟩
def SYS_STRAP_row : RegRow := ⟨0x40000018, 0x4, 1, 0x4, 1, 0x0, [fld 4 4 .ro, fld 3 2 .ro, fld 0 0 .ro]⟩
/-- `SYS_RSTOUT`, R472. -/
def SYS_RSTOUT : Nat := 0x4000001C
def SYS_RSTOUT_RELEASE : Fld := ⟨SYS_RSTOUT, 0, 0⟩
def SYS_RSTOUT_row : RegRow := ⟨0x4000001C, 0x4, 1, 0x4, 1, 0x0, [fld 0 0 .rw]⟩
/-- `SYS_CLKSTAT`, R473. -/
def SYS_CLKSTAT : Nat := 0x40000020
def SYS_CLKSTAT_TCK_KHZ : Fld := ⟨SYS_CLKSTAT, 31, 16⟩
def SYS_CLKSTAT_TCK_SLOW : Fld := ⟨SYS_CLKSTAT, 4, 4⟩
def SYS_CLKSTAT_TWN_LOCK : Fld := ⟨SYS_CLKSTAT, 2, 2⟩
def SYS_CLKSTAT_SYS_LOCK : Fld := ⟨SYS_CLKSTAT, 1, 1⟩
def SYS_CLKSTAT_FRAME_LOCK : Fld := ⟨SYS_CLKSTAT, 0, 0⟩
def SYS_CLKSTAT_row : RegRow := ⟨0x40000020, 0x4, 1, 0x4, 1, 0x10, [fld 31 16 .ro, fld 4 4 .ro, fld 2 2 .ro, fld 1 1 .ro, fld 0 0 .ro]⟩
/-- `SYS_PWRSTAT`, R473. -/
def SYS_PWRSTAT : Nat := 0x40000024
def SYS_PWRSTAT_VPP_OK : Fld := ⟨SYS_PWRSTAT, 2, 2⟩
def SYS_PWRSTAT_PWRGOOD : Fld := ⟨SYS_PWRSTAT, 1, 1⟩
def SYS_PWRSTAT_PFAIL : Fld := ⟨SYS_PWRSTAT, 0, 0⟩
def SYS_PWRSTAT_row : RegRow := ⟨0x40000024, 0x4, 1, 0x4, 1, 0x0, [fld 2 2 .ro, fld 1 1 .ro, fld 0 0 .ro]⟩
/-- `SYS_UPD_LOCK`, R472. -/
def SYS_UPD_LOCK : Nat := 0x40000040
def SYS_UPD_LOCK_LOCK : Fld := ⟨SYS_UPD_LOCK, 0, 0⟩
def SYS_UPD_LOCK_row : RegRow := ⟨0x40000040, 0x4, 1, 0x4, 1, 0x0, [fld 0 0 .rw]⟩

/-! ## RGT registers -/

/-- `RGT_STAT`, R422. -/
def RGT_STAT : Nat := 0x40010000
def RGT_STAT_CHAL_VALID : Fld := ⟨RGT_STAT, 2, 2⟩
def RGT_STAT_BOOT_EXEC : Fld := ⟨RGT_STAT, 1, 1⟩
def RGT_STAT_SEALED : Fld := ⟨RGT_STAT, 0, 0⟩
def RGT_STAT_row : RegRow := ⟨0x40010000, 0x4, 1, 0x4, 1, 0x0, [fld 2 2 .ro, fld 1 1 .ro, fld 0 0 .ro]⟩
/-- `RGT_SEAL`, R422. -/
def RGT_SEAL : Nat := 0x40010004
def RGT_SEAL_KEY : Fld := ⟨RGT_SEAL, 15, 0⟩
def RGT_SEAL_row : RegRow := ⟨0x40010004, 0x4, 1, 0x4, 1, 0x0, [fld 15 0 .rwo]⟩
/-- `RGT_ROLE_SUP`, R422. -/
def RGT_ROLE_SUP : Nat := 0x40010008
def RGT_ROLE_SUP_ROLE : Fld := ⟨RGT_ROLE_SUP, 2, 0⟩
def RGT_ROLE_SUP_row : RegRow := ⟨0x40010008, 0x4, 1, 0x4, 1, 0x0, [fldR 2 0 .rw 0 3]⟩
/-- `RGT_ROLE_DBG`, R422. -/
def RGT_ROLE_DBG : Nat := 0x4001000C
def RGT_ROLE_DBG_ROLE : Fld := ⟨RGT_ROLE_DBG, 2, 0⟩
def RGT_ROLE_DBG_row : RegRow := ⟨0x4001000C, 0x4, 1, 0x4, 1, 0x0, [fldR 2 0 .rw 0 3]⟩
/-- `RGT_DENY_INFO`, R422. -/
def RGT_DENY_INFO : Nat := 0x40010010
def RGT_DENY_INFO_VALID : Fld := ⟨RGT_DENY_INFO, 31, 31⟩
def RGT_DENY_INFO_REQ : Fld := ⟨RGT_DENY_INFO, 9, 9⟩
def RGT_DENY_INFO_WRITE : Fld := ⟨RGT_DENY_INFO, 8, 8⟩
def RGT_DENY_INFO_ROLE : Fld := ⟨RGT_DENY_INFO, 7, 5⟩
def RGT_DENY_INFO_NEED : Fld := ⟨RGT_DENY_INFO, 2, 0⟩
def RGT_DENY_INFO_row : RegRow := ⟨0x40010010, 0x4, 1, 0x4, 1, 0x0, [fld 31 31 .w1c, fld 9 9 .ro, fld 8 8 .ro, fld 7 5 .ro, fld 2 0 .ro]⟩
/-- `RGT_DENY_ADDR`, R422. -/
def RGT_DENY_ADDR : Nat := 0x40010014
def RGT_DENY_ADDR_ADDR : Fld := ⟨RGT_DENY_ADDR, 31, 0⟩
def RGT_DENY_ADDR_row : RegRow := ⟨0x40010014, 0x4, 1, 0x4, 1, 0x0, [fld 31 0 .ro]⟩
/-- `RGT_CNT_DENY`, R422. -/
def RGT_CNT_DENY : Nat := 0x40010018
def RGT_CNT_DENY_COUNT : Fld := ⟨RGT_CNT_DENY, 31, 0⟩
def RGT_CNT_DENY_row : RegRow := ⟨0x40010018, 0x4, 1, 0x4, 1, 0x0, [fld 31 0 .ro]⟩
/-- `RGT_CHAL`, R422. -/
def RGT_CHAL (k : Nat) : Nat := 0x40010020 + 0x4 * k
def RGT_CHAL_CHAL (k : Nat) : Fld := ⟨RGT_CHAL k, 31, 0⟩
def RGT_CHAL_row : RegRow := ⟨0x40010020, 0x4, 8, 0x4, 1, 0x0, [fld 31 0 .ro]⟩
/-- `RGT_PERM`, R415. -/
def RGT_PERM (k : Nat) : Nat := 0x40010400 + 0x4 * k
def RGT_PERM_WR (k : Nat) : Fld := ⟨RGT_PERM k, 6, 4⟩
def RGT_PERM_RD (k : Nat) : Fld := ⟨RGT_PERM k, 2, 0⟩
def RGT_PERM_row : RegRow := ⟨0x40010400, 0x4, 256, 0x4, 1, 0x44, [fldR 6 4 .rwb 0 4, fldR 2 0 .rwb 0 4]⟩

/-! ## EVR registers -/

/-- `EVR_EN`, R408. -/
def EVR_EN (k : Nat) : Nat := 0x40020000 + 0x4 * k
def EVR_EN_EN (k : Nat) : Fld := ⟨EVR_EN k, 31, 0⟩
def EVR_EN_row : RegRow := ⟨0x40020000, 0x4, 16, 0x4, 1, 0x0, [fld 31 0 .rw]⟩
/-- `EVR_PEND`, R408. -/
def EVR_PEND (k : Nat) : Nat := 0x40020040 + 0x4 * k
def EVR_PEND_PEND (k : Nat) : Fld := ⟨EVR_PEND k, 31, 0⟩
def EVR_PEND_row : RegRow := ⟨0x40020040, 0x4, 16, 0x4, 1, 0x0, [fld 31 0 .ro]⟩
/-- `EVR_CLAIM`, R408. -/
def EVR_CLAIM : Nat := 0x40020080
def EVR_CLAIM_VALID : Fld := ⟨EVR_CLAIM, 31, 31⟩
def EVR_CLAIM_COUNT : Fld := ⟨EVR_CLAIM, 30, 23⟩
def EVR_CLAIM_CAUSE : Fld := ⟨EVR_CLAIM, 22, 15⟩
def EVR_CLAIM_SOURCE : Fld := ⟨EVR_CLAIM, 8, 0⟩
def EVR_CLAIM_row : RegRow := ⟨0x40020080, 0x4, 1, 0x4, 1, 0x0, [fld 31 31 .ro, fld 30 23 .ro, fld 22 15 .ro, fld 8 0 .ro]⟩
/-- `EVR_CLAIM_VAL`, R408. -/
def EVR_CLAIM_VAL : Nat := 0x40020084
def EVR_CLAIM_VAL_VALUE : Fld := ⟨EVR_CLAIM_VAL, 31, 0⟩
def EVR_CLAIM_VAL_row : RegRow := ⟨0x40020084, 0x4, 1, 0x4, 1, 0x0, [fld 31 0 .ro]⟩
/-- `EVR_SWVAL`, R408. -/
def EVR_SWVAL : Nat := 0x40020088
def EVR_SWVAL_VALUE : Fld := ⟨EVR_SWVAL, 31, 0⟩
def EVR_SWVAL_row : RegRow := ⟨0x40020088, 0x4, 1, 0x4, 1, 0x0, [fld 31 0 .rw]⟩
/-- `EVR_SWEV`, R408. -/
def EVR_SWEV : Nat := 0x4002008C
def EVR_SWEV_CODE : Fld := ⟨EVR_SWEV, 15, 8⟩
def EVR_SWEV_IDX : Fld := ⟨EVR_SWEV, 6, 0⟩
def EVR_SWEV_row : RegRow := ⟨0x4002008C, 0x4, 1, 0x4, 1, 0x0, [fld 15 8 .wo, fldR 6 0 .wo 0 103]⟩

/-! ## FCU registers -/

/-- `FCU_CTRL`, R378. -/
def FCU_CTRL : Nat := 0x40030000
def FCU_CTRL_ENTER_SAFE : Fld := ⟨FCU_CTRL, 5, 5⟩
def FCU_CTRL_CNT_CLR : Fld := ⟨FCU_CTRL, 4, 4⟩
def FCU_CTRL_FAULT_CLASS : Fld := ⟨FCU_CTRL, 3, 2⟩
def FCU_CTRL_SO_FALLBACK : Fld := ⟨FCU_CTRL, 0, 0⟩
def FCU_CTRL_row : RegRow := ⟨0x40030000, 0x4, 1, 0x4, 1, 0x9, [fld 5 5 .w1s, fld 4 4 .wo, fld 3 2 .rw, fld 0 0 .rw]⟩
/-- `FCU_STAT`, R378. -/
def FCU_STAT : Nat := 0x40030004
def FCU_STAT_SR_CNT : Fld := ⟨FCU_STAT, 27, 24⟩
def FCU_STAT_SAFE_CAUSE : Fld := ⟨FCU_STAT, 23, 16⟩
def FCU_STAT_WORST : Fld := ⟨FCU_STAT, 9, 8⟩
def FCU_STAT_SELF_OK : Fld := ⟨FCU_STAT, 4, 4⟩
def FCU_STAT_TX_OFF : Fld := ⟨FCU_STAT, 3, 3⟩
def FCU_STAT_HOLDING : Fld := ⟨FCU_STAT, 2, 2⟩
def FCU_STAT_HANDED : Fld := ⟨FCU_STAT, 1, 1⟩
def FCU_STAT_SAFE : Fld := ⟨FCU_STAT, 0, 0⟩
def FCU_STAT_row : RegRow := ⟨0x40030004, 0x4, 1, 0x4, 1, 0xFF0000, [fld 27 24 .ro, fld 23 16 .ro, fld 9 8 .ro, fld 4 4 .ro, fld 3 3 .ro, fld 2 2 .ro, fld 1 1 .ro, fld 0 0 .ro]⟩
/-- `FCU_SAFE`, R378. -/
def FCU_SAFE : Nat := 0x40030008
def FCU_SAFE_KEY : Fld := ⟨FCU_SAFE, 15, 0⟩
def FCU_SAFE_row : RegRow := ⟨0x40030008, 0x4, 1, 0x4, 1, 0x0, [fld 15 0 .wo]⟩
/-- `FCU_HOLD`, R378. -/
def FCU_HOLD : Nat := 0x4003000C
def FCU_HOLD_HOLD_MS : Fld := ⟨FCU_HOLD, 9, 0⟩
def FCU_HOLD_row : RegRow := ⟨0x4003000C, 0x4, 1, 0x4, 1, 0x64, [fldR 9 0 .rw 0 1000]⟩
/-- `FCU_FIRST`, R378. -/
def FCU_FIRST : Nat := 0x40030010
def FCU_FIRST_VALID : Fld := ⟨FCU_FIRST, 31, 31⟩
def FCU_FIRST_ACTION : Fld := ⟨FCU_FIRST, 13, 12⟩
def FCU_FIRST_REACT : Fld := ⟨FCU_FIRST, 11, 10⟩
def FCU_FIRST_CLASS : Fld := ⟨FCU_FIRST, 9, 8⟩
def FCU_FIRST_SOURCE : Fld := ⟨FCU_FIRST, 7, 0⟩
def FCU_FIRST_row : RegRow := ⟨0x40030010, 0x4, 1, 0x4, 1, 0x0, [fld 31 31 .w1c, fld 13 12 .ro, fld 11 10 .ro, fld 9 8 .ro, fld 7 0 .ro]⟩
/-- `FCU_FIRST_TLO`, R377. -/
def FCU_FIRST_TLO : Nat := 0x40030014
def FCU_FIRST_TLO_T : Fld := ⟨FCU_FIRST_TLO, 31, 0⟩
def FCU_FIRST_TLO_row : RegRow := ⟨0x40030014, 0x4, 1, 0x4, 1, 0x0, [fld 31 0 .ro]⟩
/-- `FCU_FIRST_THI`, R377. -/
def FCU_FIRST_THI : Nat := 0x40030018
def FCU_FIRST_THI_T : Fld := ⟨FCU_FIRST_THI, 31, 0⟩
def FCU_FIRST_THI_row : RegRow := ⟨0x40030018, 0x4, 1, 0x4, 1, 0x0, [fld 31 0 .ro]⟩
/-- `FCU_ESC_T`, R378. -/
def FCU_ESC_T (k : Nat) : Nat := 0x40030020 + 0x4 * k
def FCU_ESC_T_US (k : Nat) : Fld := ⟨FCU_ESC_T k, 16, 0⟩
def FCU_ESC_T_row : RegRow := ⟨0x40030020, 0x4, 8, 0x4, 1, 0x0, [fldR 16 0 .rw 1 100000]⟩
/-- `FCU_FLAG`, R377. -/
def FCU_FLAG (k : Nat) : Nat := 0x40030040 + 0x4 * k
def FCU_FLAG_FLAG (k : Nat) : Fld := ⟨FCU_FLAG k, 31, 0⟩
def FCU_FLAG_row : RegRow := ⟨0x40030040, 0x4, 6, 0x4, 1, 0x0, [fld 31 0 .w1c]⟩
/-- `FCU_ESCR`, R377. -/
def FCU_ESCR (k : Nat) : Nat := 0x40030060 + 0x4 * k
def FCU_ESCR_ESCR (k : Nat) : Fld := ⟨FCU_ESCR k, 31, 0⟩
def FCU_ESCR_row : RegRow := ⟨0x40030060, 0x4, 6, 0x4, 1, 0x0, [fld 31 0 .ro]⟩
/-- `FCU_SRCTL`, R378. -/
def FCU_SRCTL : Nat := 0x400300A0
def FCU_SRCTL_SR_WIN : Fld := ⟨FCU_SRCTL, 15, 8⟩
def FCU_SRCTL_SR_MAX : Fld := ⟨FCU_SRCTL, 3, 0⟩
def FCU_SRCTL_row : RegRow := ⟨0x400300A0, 0x4, 1, 0x4, 1, 0xA03, [fldR 15 8 .rw 1 255, fld 3 0 .rw]⟩
/-- `FCU_WDOG`, R378. -/
def FCU_WDOG : Nat := 0x400300B0
def FCU_WDOG_KICK : Fld := ⟨FCU_WDOG, 31, 31⟩
def FCU_WDOG_TMO_MS : Fld := ⟨FCU_WDOG, 15, 0⟩
def FCU_WDOG_row : RegRow := ⟨0x400300B0, 0x4, 1, 0x4, 1, 0x0, [fld 31 31 .w1s, fld 15 0 .rw]⟩
/-- `FCU_SCFG`, R378. -/
def FCU_SCFG (k : Nat) : Nat := 0x40030400 + 0x4 * k
def FCU_SCFG_LOCK (k : Nat) : Fld := ⟨FCU_SCFG k, 31, 31⟩
def FCU_SCFG_CLASS (k : Nat) : Fld := ⟨FCU_SCFG k, 17, 16⟩
def FCU_SCFG_REACT (k : Nat) : Fld := ⟨FCU_SCFG k, 15, 14⟩
def FCU_SCFG_ACTION (k : Nat) : Fld := ⟨FCU_SCFG k, 13, 12⟩
def FCU_SCFG_ESC (k : Nat) : Fld := ⟨FCU_SCFG k, 10, 8⟩
def FCU_SCFG_EN (k : Nat) : Fld := ⟨FCU_SCFG k, 0, 0⟩
def FCU_SCFG_row : RegRow := ⟨0x40030400, 0x4, 192, 0x4, 1, 0x1, [fld 31 31 .w1s, fld 17 16 .rw, fld 15 14 .rw, fld 13 12 .rw, fld 10 8 .rw, fld 0 0 .rw]⟩
/-- `FCU_SCNT`, R378. -/
def FCU_SCNT (k : Nat) : Nat := 0x40030800 + 0x4 * k
def FCU_SCNT_COUNT (k : Nat) : Fld := ⟨FCU_SCNT k, 15, 0⟩
def FCU_SCNT_row : RegRow := ⟨0x40030800, 0x4, 192, 0x4, 1, 0x0, [fld 15 0 .ro]⟩
/-- `FCU_INJ`, R378. -/
def FCU_INJ (k : Nat) : Nat := 0x40030C00 + 0x4 * k
def FCU_INJ_ARM (k : Nat) : Fld := ⟨FCU_INJ k, 31, 31⟩
def FCU_INJ_LINK (k : Nat) : Fld := ⟨FCU_INJ k, 29, 23⟩
def FCU_INJ_MASK (k : Nat) : Fld := ⟨FCU_INJ k, 16, 0⟩
def FCU_INJ_row : RegRow := ⟨0x40030C00, 0x4, 78, 0x4, 1, 0x0, [fld 31 31 .w1s, fldR 29 23 .rw 0 95, fld 16 0 .rw]⟩

/-! ## TBS registers -/

/-- `TBS_TIME_LO`, R40. -/
def TBS_TIME_LO : Nat := 0x40040000
def TBS_TIME_LO_T : Fld := ⟨TBS_TIME_LO, 31, 0⟩
def TBS_TIME_LO_row : RegRow := ⟨0x40040000, 0x4, 1, 0x4, 1, 0x0, [fld 31 0 .ro]⟩
/-- `TBS_TIME_HI`, R40. -/
def TBS_TIME_HI : Nat := 0x40040004
def TBS_TIME_HI_T : Fld := ⟨TBS_TIME_HI, 31, 0⟩
def TBS_TIME_HI_row : RegRow := ⟨0x40040004, 0x4, 1, 0x4, 1, 0x0, [fld 31 0 .ro]⟩
/-- `TBS_MFN`, R36. -/
def TBS_MFN : Nat := 0x40040008
def TBS_MFN_MFN : Fld := ⟨TBS_MFN, 31, 0⟩
def TBS_MFN_row : RegRow := ⟨0x40040008, 0x4, 1, 0x4, 1, 0x0, [fld 31 0 .ro]⟩
/-- `TBS_MFOFS`, R41. -/
def TBS_MFOFS : Nat := 0x4004000C
def TBS_MFOFS_OFS : Fld := ⟨TBS_MFOFS, 10, 0⟩
def TBS_MFOFS_row : RegRow := ⟨0x4004000C, 0x4, 1, 0x4, 1, 0x0, [fldR 10 0 .rw 0 1919]⟩
/-- `TBS_LOAD_LO`, R40. -/
def TBS_LOAD_LO : Nat := 0x40040010
def TBS_LOAD_LO_T : Fld := ⟨TBS_LOAD_LO, 31, 0⟩
def TBS_LOAD_LO_row : RegRow := ⟨0x40040010, 0x4, 1, 0x4, 1, 0x0, [fld 31 0 .rw]⟩
/-- `TBS_LOAD_HI`, R40. -/
def TBS_LOAD_HI : Nat := 0x40040014
def TBS_LOAD_HI_T : Fld := ⟨TBS_LOAD_HI, 31, 0⟩
def TBS_LOAD_HI_row : RegRow := ⟨0x40040014, 0x4, 1, 0x4, 1, 0x0, [fld 31 0 .rw]⟩
/-- `TBS_CTRL`, R42. -/
def TBS_CTRL : Nat := 0x40040018
def TBS_CTRL_LOAD : Fld := ⟨TBS_CTRL, 0, 0⟩
def TBS_CTRL_row : RegRow := ⟨0x40040018, 0x4, 1, 0x4, 1, 0x0, [fld 0 0 .wo]⟩
/-- `TBS_STATUS`, R43. -/
def TBS_STATUS : Nat := 0x4004001C
def TBS_STATUS_LOAD_PEND : Fld := ⟨TBS_STATUS, 3, 3⟩
def TBS_STATUS_ALIGN_ERR : Fld := ⟨TBS_STATUS, 2, 2⟩
def TBS_STATUS_PLL_LOCK : Fld := ⟨TBS_STATUS, 1, 1⟩
def TBS_STATUS_TORN : Fld := ⟨TBS_STATUS, 0, 0⟩
def TBS_STATUS_row : RegRow := ⟨0x4004001C, 0x4, 1, 0x4, 1, 0x0, [fld 3 3 .ro, fld 2 2 .w1c, fld 1 1 .ro, fld 0 0 .w1c]⟩
/-- `TBS_SYNC_CTRL`, R48. -/
def TBS_SYNC_CTRL : Nat := 0x40040020
def TBS_SYNC_CTRL_DLY : Fld := ⟨TBS_SYNC_CTRL, 17, 8⟩
def TBS_SYNC_CTRL_MODE : Fld := ⟨TBS_SYNC_CTRL, 1, 0⟩
def TBS_SYNC_CTRL_row : RegRow := ⟨0x40040020, 0x4, 1, 0x4, 1, 0x0, [fld 17 8 .rw, fld 1 0 .rw]⟩
/-- `TBS_SYNC_STAT`, R49. -/
def TBS_SYNC_STAT : Nat := 0x40040024
def TBS_SYNC_STAT_ERR : Fld := ⟨TBS_SYNC_STAT, 31, 16⟩
def TBS_SYNC_STAT_SYNC_LOST : Fld := ⟨TBS_SYNC_STAT, 1, 1⟩
def TBS_SYNC_STAT_LOCKED : Fld := ⟨TBS_SYNC_STAT, 0, 0⟩
def TBS_SYNC_STAT_row : RegRow := ⟨0x40040024, 0x4, 1, 0x4, 1, 0x0, [fld 31 16 .ro, fld 1 1 .w1c, fld 0 0 .ro]⟩

/-! ## TMR registers -/

/-- `TMR_CTRL`, R518. -/
def TMR_CTRL (k : Nat) : Nat := 0x40050000 + 0x40 * k
def TMR_CTRL_EN (k : Nat) : Fld := ⟨TMR_CTRL k, 31, 31⟩
def TMR_CTRL_ONESHOT (k : Nat) : Fld := ⟨TMR_CTRL k, 30, 30⟩
def TMR_CTRL_PRELOAD (k : Nat) : Fld := ⟨TMR_CTRL k, 29, 29⟩
def TMR_CTRL_SMODE (k : Nat) : Fld := ⟨TMR_CTRL k, 28, 26⟩
def TMR_CTRL_MEV (k : Nat) : Fld := ⟨TMR_CTRL k, 25, 25⟩
def TMR_CTRL_MASTER (k : Nat) : Fld := ⟨TMR_CTRL k, 24, 20⟩
def TMR_CTRL_OMODE (k : Nat) : Fld := ⟨TMR_CTRL k, 19, 18⟩
def TMR_CTRL_CEDGE (k : Nat) : Fld := ⟨TMR_CTRL k, 17, 16⟩
def TMR_CTRL_CSRC (k : Nat) : Fld := ⟨TMR_CTRL k, 15, 11⟩
def TMR_CTRL_EVEN (k : Nat) : Fld := ⟨TMR_CTRL k, 10, 8⟩
def TMR_CTRL_PRESC (k : Nat) : Fld := ⟨TMR_CTRL k, 7, 0⟩
def TMR_CTRL_row : RegRow := ⟨0x40050000, 0x40, 24, 0x4, 1, 0x0, [fld 31 31 .rw, fld 30 30 .rw, fld 29 29 .rw, fldR 28 26 .rw 0 4, fld 25 25 .rw, fldR 24 20 .rw 0 23, fldR 19 18 .rw 0 2, fld 17 16 .rw, fldR 15 11 .rw 0 23, fld 10 8 .rw, fld 7 0 .rw]⟩
/-- `TMR_CNT`, R518. -/
def TMR_CNT (k : Nat) : Nat := 0x40050004 + 0x40 * k
def TMR_CNT_CNT (k : Nat) : Fld := ⟨TMR_CNT k, 31, 0⟩
def TMR_CNT_row : RegRow := ⟨0x40050004, 0x40, 24, 0x4, 1, 0x0, [fld 31 0 .rw]⟩
/-- `TMR_PER`, R518. -/
def TMR_PER (k : Nat) : Nat := 0x40050008 + 0x40 * k
def TMR_PER_PER (k : Nat) : Fld := ⟨TMR_PER k, 31, 0⟩
def TMR_PER_row : RegRow := ⟨0x40050008, 0x40, 24, 0x4, 1, 0xFFFFFFFF, [fld 31 0 .rw]⟩
/-- `TMR_CMP`, R518. -/
def TMR_CMP (k : Nat) : Nat := 0x4005000C + 0x40 * k
def TMR_CMP_CMP (k : Nat) : Fld := ⟨TMR_CMP k, 31, 0⟩
def TMR_CMP_row : RegRow := ⟨0x4005000C, 0x40, 24, 0x4, 1, 0x0, [fld 31 0 .rw]⟩
/-- `TMR_CAP`, R518. -/
def TMR_CAP (k : Nat) : Nat := 0x40050010 + 0x40 * k
def TMR_CAP_CAP (k : Nat) : Fld := ⟨TMR_CAP k, 31, 0⟩
def TMR_CAP_row : RegRow := ⟨0x40050010, 0x40, 24, 0x4, 1, 0x0, [fld 31 0 .ro]⟩
/-- `TMR_STAT`, R518. -/
def TMR_STAT (k : Nat) : Nat := 0x40050014 + 0x40 * k
def TMR_STAT_LOST (k : Nat) : Fld := ⟨TMR_STAT k, 15, 8⟩
def TMR_STAT_TORN (k : Nat) : Fld := ⟨TMR_STAT k, 4, 4⟩
def TMR_STAT_CMP_LATE (k : Nat) : Fld := ⟨TMR_STAT k, 3, 3⟩
def TMR_STAT_OVR (k : Nat) : Fld := ⟨TMR_STAT k, 2, 2⟩
def TMR_STAT_CAPF (k : Nat) : Fld := ⟨TMR_STAT k, 1, 1⟩
def TMR_STAT_RUN (k : Nat) : Fld := ⟨TMR_STAT k, 0, 0⟩
def TMR_STAT_row : RegRow := ⟨0x40050014, 0x40, 24, 0x4, 1, 0x0, [fld 15 8 .ro, fld 4 4 .w1c, fld 3 3 .w1c, fld 2 2 .w1c, fld 1 1 .ro, fld 0 0 .ro]⟩

/-! ## HKA registers -/

/-- `HKA_CTRL`, R518. -/
def HKA_CTRL : Nat := 0x40060000
def HKA_CTRL_EN : Fld := ⟨HKA_CTRL, 31, 31⟩
def HKA_CTRL_CONT : Fld := ⟨HKA_CTRL, 30, 30⟩
def HKA_CTRL_TRIG_EN : Fld := ⟨HKA_CTRL, 29, 29⟩
def HKA_CTRL_TRIG_SRC : Fld := ⟨HKA_CTRL, 28, 24⟩
def HKA_CTRL_AVG_LOG2 : Fld := ⟨HKA_CTRL, 3, 0⟩
def HKA_CTRL_row : RegRow := ⟨0x40060000, 0x4, 1, 0x4, 1, 0x0, [fld 31 31 .rw, fld 30 30 .rw, fld 29 29 .rw, fldR 28 24 .rw 0 23, fldR 3 0 .rw 0 8]⟩
/-- `HKA_MASK`, R518. -/
def HKA_MASK : Nat := 0x40060004
def HKA_MASK_MASK : Fld := ⟨HKA_MASK, 15, 0⟩
def HKA_MASK_row : RegRow := ⟨0x40060004, 0x4, 1, 0x4, 1, 0x0, [fld 15 0 .rw]⟩
/-- `HKA_STAT`, R518. -/
def HKA_STAT : Nat := 0x40060008
def HKA_STAT_MISSED : Fld := ⟨HKA_STAT, 31, 16⟩
def HKA_STAT_BUSY : Fld := ⟨HKA_STAT, 0, 0⟩
def HKA_STAT_row : RegRow := ⟨0x40060008, 0x4, 1, 0x4, 1, 0x0, [fld 31 16 .ro, fld 0 0 .ro]⟩
/-- `HKA_RES`, R518. -/
def HKA_RES (k : Nat) : Nat := 0x40060100 + 0x4 * k
def HKA_RES_NEW (k : Nat) : Fld := ⟨HKA_RES k, 31, 31⟩
def HKA_RES_CODE (k : Nat) : Fld := ⟨HKA_RES k, 11, 0⟩
def HKA_RES_row : RegRow := ⟨0x40060100, 0x4, 16, 0x4, 1, 0x0, [fld 31 31 .ro, fld 11 0 .ro]⟩
/-- `HKA_WIN`, R518. -/
def HKA_WIN (k : Nat) : Nat := 0x40060200 + 0x4 * k
def HKA_WIN_HYST (k : Nat) : Fld := ⟨HKA_WIN k, 31, 28⟩
def HKA_WIN_HI (k : Nat) : Fld := ⟨HKA_WIN k, 27, 16⟩
def HKA_WIN_LO (k : Nat) : Fld := ⟨HKA_WIN k, 11, 0⟩
def HKA_WIN_row : RegRow := ⟨0x40060200, 0x4, 16, 0x4, 1, 0xFFF0000, [fld 31 28 .rw, fld 27 16 .rw, fld 11 0 .rw]⟩

/-! ## GPIO registers -/

/-- `GPIO_CFG`, R518. -/
def GPIO_CFG (k : Nat) : Nat := 0x40070000 + 0x4 * k
def GPIO_CFG_FILT (k : Nat) : Fld := ⟨GPIO_CFG k, 15, 8⟩
def GPIO_CFG_EDGE (k : Nat) : Fld := ⟨GPIO_CFG k, 7, 6⟩
def GPIO_CFG_PULL (k : Nat) : Fld := ⟨GPIO_CFG k, 5, 4⟩
def GPIO_CFG_OD (k : Nat) : Fld := ⟨GPIO_CFG k, 3, 3⟩
def GPIO_CFG_DIR (k : Nat) : Fld := ⟨GPIO_CFG k, 2, 2⟩
def GPIO_CFG_FUNC (k : Nat) : Fld := ⟨GPIO_CFG k, 1, 0⟩
def GPIO_CFG_row : RegRow := ⟨0x40070000, 0x4, 24, 0x4, 1, 0x0, [fld 15 8 .rw, fld 7 6 .rw, fldR 5 4 .rw 0 2, fld 3 3 .rw, fld 2 2 .rw, fldR 1 0 .rw 0 2]⟩
/-- `GPIO_IN`, R518. -/
def GPIO_IN : Nat := 0x40070080
def GPIO_IN_IN : Fld := ⟨GPIO_IN, 23, 0⟩
def GPIO_IN_row : RegRow := ⟨0x40070080, 0x4, 1, 0x4, 1, 0x0, [fld 23 0 .ro]⟩
/-- `GPIO_OUT`, R518. -/
def GPIO_OUT : Nat := 0x40070084
def GPIO_OUT_OUT : Fld := ⟨GPIO_OUT, 23, 0⟩
def GPIO_OUT_row : RegRow := ⟨0x40070084, 0x4, 1, 0x4, 1, 0x0, [fld 23 0 .rw]⟩
/-- `GPIO_SET`, R518. -/
def GPIO_SET : Nat := 0x40070088
def GPIO_SET_PINS : Fld := ⟨GPIO_SET, 23, 0⟩
def GPIO_SET_row : RegRow := ⟨0x40070088, 0x4, 1, 0x4, 1, 0x0, [fld 23 0 .w1s]⟩
/-- `GPIO_CLR`, R518. -/
def GPIO_CLR : Nat := 0x4007008C
def GPIO_CLR_PINS : Fld := ⟨GPIO_CLR, 23, 0⟩
def GPIO_CLR_row : RegRow := ⟨0x4007008C, 0x4, 1, 0x4, 1, 0x0, [fld 23 0 .w1s]⟩

/-! ## TWB registers -/

/-- `TWB_CFG`, R499. -/
def TWB_CFG (k : Nat) : Nat := 0x40080000 + 0x1000 * k
def TWB_CFG_TMO_MS (k : Nat) : Fld := ⟨TWB_CFG k, 15, 8⟩
def TWB_CFG_RETRY (k : Nat) : Fld := ⟨TWB_CFG k, 7, 4⟩
def TWB_CFG_AUTO_CLR (k : Nat) : Fld := ⟨TWB_CFG k, 3, 3⟩
def TWB_CFG_CNT_CLR (k : Nat) : Fld := ⟨TWB_CFG k, 2, 2⟩
def TWB_CFG_EN (k : Nat) : Fld := ⟨TWB_CFG k, 0, 0⟩
def TWB_CFG_row : RegRow := ⟨0x40080000, 0x1000, 8, 0x4, 1, 0x1E38, [fld 15 8 .rw, fld 7 4 .rw, fld 3 3 .rw, fld 2 2 .wo, fld 0 0 .rw]⟩
/-- `TWB_TIMING`, R499. -/
def TWB_TIMING (k : Nat) : Nat := 0x40080004 + 0x1000 * k
def TWB_TIMING_FILT (k : Nat) : Fld := ⟨TWB_TIMING k, 29, 25⟩
def TWB_TIMING_T_HIGH (k : Nat) : Fld := ⟨TWB_TIMING k, 19, 10⟩
def TWB_TIMING_T_LOW (k : Nat) : Fld := ⟨TWB_TIMING k, 9, 0⟩
def TWB_TIMING_row : RegRow := ⟨0x40080004, 0x1000, 8, 0x4, 1, 0x603E8FA, [fld 29 25 .rw, fldR 19 10 .rw 4 1023, fldR 9 0 .rw 4 1023]⟩
/-- `TWB_CMD`, R499. -/
def TWB_CMD (k : Nat) : Nat := 0x40080008 + 0x1000 * k
def TWB_CMD_GO (k : Nat) : Fld := ⟨TWB_CMD k, 31, 31⟩
def TWB_CMD_NOSTOP (k : Nat) : Fld := ⟨TWB_CMD k, 30, 30⟩
def TWB_CMD_PEC (k : Nat) : Fld := ⟨TWB_CMD k, 29, 29⟩
def TWB_CMD_QRW (k : Nat) : Fld := ⟨TWB_CMD k, 28, 28⟩
def TWB_CMD_TYPE (k : Nat) : Fld := ⟨TWB_CMD k, 27, 24⟩
def TWB_CMD_PLEN (k : Nat) : Fld := ⟨TWB_CMD k, 17, 16⟩
def TWB_CMD_ADDR (k : Nat) : Fld := ⟨TWB_CMD k, 14, 8⟩
def TWB_CMD_row : RegRow := ⟨0x40080008, 0x1000, 8, 0x4, 1, 0x0, [fld 31 31 .w1s, fld 30 30 .rw, fld 29 29 .rw, fld 28 28 .rw, fldR 27 24 .rw 0 8, fldR 17 16 .rw 0 2, fld 14 8 .rw]⟩
/-- `TWB_PTR`, R498. -/
def TWB_PTR (k : Nat) : Nat := 0x4008000C + 0x1000 * k
def TWB_PTR_PTR (k : Nat) : Fld := ⟨TWB_PTR k, 15, 0⟩
def TWB_PTR_row : RegRow := ⟨0x4008000C, 0x1000, 8, 0x4, 1, 0x0, [fld 15 0 .rw]⟩
/-- `TWB_LEN`, R499. -/
def TWB_LEN (k : Nat) : Nat := 0x40080010 + 0x1000 * k
def TWB_LEN_RLEN (k : Nat) : Fld := ⟨TWB_LEN k, 24, 16⟩
def TWB_LEN_WLEN (k : Nat) : Fld := ⟨TWB_LEN k, 8, 0⟩
def TWB_LEN_row : RegRow := ⟨0x40080010, 0x1000, 8, 0x4, 1, 0x0, [fld 24 16 .rw, fld 8 0 .rw]⟩
/-- `TWB_PAGE`, R499. -/
def TWB_PAGE (k : Nat) : Nat := 0x40080014 + 0x1000 * k
def TWB_PAGE_POLL_N (k : Nat) : Fld := ⟨TWB_PAGE k, 31, 24⟩
def TWB_PAGE_POLL_US (k : Nat) : Fld := ⟨TWB_PAGE k, 23, 12⟩
def TWB_PAGE_PAGE_LOG2 (k : Nat) : Fld := ⟨TWB_PAGE k, 3, 0⟩
def TWB_PAGE_row : RegRow := ⟨0x40080014, 0x1000, 8, 0x4, 1, 0x64000, [fld 31 24 .rw, fldR 23 12 .rw 1 4095, fldR 3 0 .rw 0 8]⟩
/-- `TWB_STAT`, R499. -/
def TWB_STAT (k : Nat) : Nat := 0x40080018 + 0x1000 * k
def TWB_STAT_XFER (k : Nat) : Fld := ⟨TWB_STAT k, 24, 16⟩
def TWB_STAT_BCOUNT (k : Nat) : Fld := ⟨TWB_STAT k, 15, 8⟩
def TWB_STAT_PEC_ERR (k : Nat) : Fld := ⟨TWB_STAT k, 6, 6⟩
def TWB_STAT_SCL (k : Nat) : Fld := ⟨TWB_STAT k, 5, 5⟩
def TWB_STAT_SDA (k : Nat) : Fld := ⟨TWB_STAT k, 4, 4⟩
def TWB_STAT_FAIL (k : Nat) : Fld := ⟨TWB_STAT k, 3, 3⟩
def TWB_STAT_DONE (k : Nat) : Fld := ⟨TWB_STAT k, 2, 2⟩
def TWB_STAT_HOLD (k : Nat) : Fld := ⟨TWB_STAT k, 1, 1⟩
def TWB_STAT_BUSY (k : Nat) : Fld := ⟨TWB_STAT k, 0, 0⟩
def TWB_STAT_row : RegRow := ⟨0x40080018, 0x1000, 8, 0x4, 1, 0x30, [fld 24 16 .ro, fld 15 8 .ro, fld 6 6 .w1c, fld 5 5 .ro, fld 4 4 .ro, fld 3 3 .w1c, fld 2 2 .w1c, fld 1 1 .ro, fld 0 0 .ro]⟩
/-- `TWB_ERR`, R499. -/
def TWB_ERR (k : Nat) : Nat := 0x4008001C + 0x1000 * k
def TWB_ERR_VALUE (k : Nat) : Fld := ⟨TWB_ERR k, 31, 16⟩
def TWB_ERR_ERRV (k : Nat) : Fld := ⟨TWB_ERR k, 15, 15⟩
def TWB_ERR_CODE (k : Nat) : Fld := ⟨TWB_ERR k, 3, 0⟩
def TWB_ERR_row : RegRow := ⟨0x4008001C, 0x1000, 8, 0x4, 1, 0x0, [fld 31 16 .ro, fld 15 15 .w1c, fld 3 0 .ro]⟩
/-- `TWB_CNT_ARB`, R498. -/
def TWB_CNT_ARB (k : Nat) : Nat := 0x40080020 + 0x1000 * k
def TWB_CNT_ARB_COUNT (k : Nat) : Fld := ⟨TWB_CNT_ARB k, 31, 0⟩
def TWB_CNT_ARB_row : RegRow := ⟨0x40080020, 0x1000, 8, 0x4, 1, 0x0, [fld 31 0 .ro]⟩
/-- `TWB_CNT_NACK`, R498. -/
def TWB_CNT_NACK (k : Nat) : Nat := 0x40080024 + 0x1000 * k
def TWB_CNT_NACK_COUNT (k : Nat) : Fld := ⟨TWB_CNT_NACK k, 31, 0⟩
def TWB_CNT_NACK_row : RegRow := ⟨0x40080024, 0x1000, 8, 0x4, 1, 0x0, [fld 31 0 .ro]⟩
/-- `TWB_CNT_TMO`, R498. -/
def TWB_CNT_TMO (k : Nat) : Nat := 0x40080028 + 0x1000 * k
def TWB_CNT_TMO_COUNT (k : Nat) : Fld := ⟨TWB_CNT_TMO k, 31, 0⟩
def TWB_CNT_TMO_row : RegRow := ⟨0x40080028, 0x1000, 8, 0x4, 1, 0x0, [fld 31 0 .ro]⟩
/-- `TWB_TXBUF`, R498. -/
def TWB_TXBUF (k : Nat) (j : Nat) : Nat := 0x40080100 + 0x1000 * k + 0x4 * j
def TWB_TXBUF_DATA (k : Nat) (j : Nat) : Fld := ⟨TWB_TXBUF k j, 31, 0⟩
def TWB_TXBUF_row : RegRow := ⟨0x40080100, 0x1000, 8, 0x4, 64, 0x0, [fld 31 0 .rw]⟩
/-- `TWB_RXBUF`, R498. -/
def TWB_RXBUF (k : Nat) (j : Nat) : Nat := 0x40080200 + 0x1000 * k + 0x4 * j
def TWB_RXBUF_DATA (k : Nat) (j : Nat) : Fld := ⟨TWB_RXBUF k j, 31, 0⟩
def TWB_RXBUF_row : RegRow := ⟨0x40080200, 0x1000, 8, 0x4, 64, 0x0, [fld 31 0 .ro]⟩

/-! ## TWT registers -/

/-- `TWT_CFG`, R500. -/
def TWT_CFG : Nat := 0x40088000
def TWT_CFG_TTMO_MS : Fld := ⟨TWT_CFG, 31, 24⟩
def TWT_CFG_ARA_EN : Fld := ⟨TWT_CFG, 12, 12⟩
def TWT_CFG_TPAGE_LOG2 : Fld := ⟨TWT_CFG, 11, 8⟩
def TWT_CFG_TADDR : Fld := ⟨TWT_CFG, 7, 1⟩
def TWT_CFG_EN : Fld := ⟨TWT_CFG, 0, 0⟩
def TWT_CFG_row : RegRow := ⟨0x40088000, 0x4, 1, 0x4, 1, 0x1E001420, [fld 31 24 .rw, fld 12 12 .rw, fldR 11 8 .rw 2 9, fldR 7 1 .rw 16 119, fld 0 0 .rw]⟩
/-- `TWT_WP`, R500. -/
def TWT_WP : Nat := 0x40088004
def TWT_WP_WP : Fld := ⟨TWT_WP, 7, 0⟩
def TWT_WP_row : RegRow := ⟨0x40088004, 0x4, 1, 0x4, 1, 0x0, [fld 7 0 .rw]⟩
/-- `TWT_STAT`, R500. -/
def TWT_STAT : Nat := 0x40088008
def TWT_STAT_PTR : Fld := ⟨TWT_STAT, 24, 16⟩
def TWT_STAT_COLLIDE : Fld := ⟨TWT_STAT, 7, 7⟩
def TWT_STAT_RANGE : Fld := ⟨TWT_STAT, 6, 6⟩
def TWT_STAT_WPV : Fld := ⟨TWT_STAT, 5, 5⟩
def TWT_STAT_TMO : Fld := ⟨TWT_STAT, 4, 4⟩
def TWT_STAT_ACTIVE : Fld := ⟨TWT_STAT, 0, 0⟩
def TWT_STAT_row : RegRow := ⟨0x40088008, 0x4, 1, 0x4, 1, 0x0, [fld 24 16 .ro, fld 7 7 .w1c, fld 6 6 .w1c, fld 5 5 .w1c, fld 4 4 .w1c, fld 0 0 .ro]⟩
/-- `TWT_ATTN`, R500. -/
def TWT_ATTN : Nat := 0x4008800C
def TWT_ATTN_REQ : Fld := ⟨TWT_ATTN, 31, 31⟩
def TWT_ATTN_DONE : Fld := ⟨TWT_ATTN, 30, 30⟩
def TWT_ATTN_TMO : Fld := ⟨TWT_ATTN, 29, 29⟩
def TWT_ATTN_LOST : Fld := ⟨TWT_ATTN, 23, 16⟩
def TWT_ATTN_ATTN_MS : Fld := ⟨TWT_ATTN, 15, 0⟩
def TWT_ATTN_row : RegRow := ⟨0x4008800C, 0x4, 1, 0x4, 1, 0x64, [fld 31 31 .w1s, fld 30 30 .w1c, fld 29 29 .w1c, fld 23 16 .ro, fld 15 0 .rw]⟩
/-- `TWT_LAST`, R500. -/
def TWT_LAST : Nat := 0x40088010
def TWT_LAST_COUNT : Fld := ⟨TWT_LAST, 31, 16⟩
def TWT_LAST_FIRST : Fld := ⟨TWT_LAST, 8, 0⟩
def TWT_LAST_row : RegRow := ⟨0x40088010, 0x4, 1, 0x4, 1, 0x0, [fld 31 16 .ro, fld 8 0 .ro]⟩
/-- `TWT_WIN`, R500. -/
def TWT_WIN (k : Nat) : Nat := 0x40088200 + 0x4 * k
def TWT_WIN_DATA (k : Nat) : Fld := ⟨TWT_WIN k, 31, 0⟩
def TWT_WIN_row : RegRow := ⟨0x40088200, 0x4, 128, 0x4, 1, 0x0, [fld 31 0 .rw]⟩

/-! ## ETH registers -/

/-- `ETH_CTRL`, R518. -/
def ETH_CTRL : Nat := 0x40090000
def ETH_CTRL_EN_TX : Fld := ⟨ETH_CTRL, 31, 31⟩
def ETH_CTRL_EN_RX : Fld := ⟨ETH_CTRL, 30, 30⟩
def ETH_CTRL_SPEED : Fld := ⟨ETH_CTRL, 29, 28⟩
def ETH_CTRL_TXDLY : Fld := ⟨ETH_CTRL, 27, 27⟩
def ETH_CTRL_RXDLY : Fld := ⟨ETH_CTRL, 26, 26⟩
def ETH_CTRL_PROMISC : Fld := ⟨ETH_CTRL, 25, 25⟩
def ETH_CTRL_MCAST : Fld := ⟨ETH_CTRL, 24, 24⟩
def ETH_CTRL_row : RegRow := ⟨0x40090000, 0x4, 1, 0x4, 1, 0x2C000000, [fld 31 31 .rw, fld 30 30 .rw, fldR 29 28 .rw 0 2, fld 27 27 .rw, fld 26 26 .rw, fld 25 25 .rw, fld 24 24 .rw]⟩
/-- `ETH_MAC_LO`, R518. -/
def ETH_MAC_LO : Nat := 0x40090004
def ETH_MAC_LO_MAC : Fld := ⟨ETH_MAC_LO, 31, 0⟩
def ETH_MAC_LO_row : RegRow := ⟨0x40090004, 0x4, 1, 0x4, 1, 0x0, [fld 31 0 .rw]⟩
/-- `ETH_MAC_HI`, R518. -/
def ETH_MAC_HI : Nat := 0x40090008
def ETH_MAC_HI_MAC : Fld := ⟨ETH_MAC_HI, 15, 0⟩
def ETH_MAC_HI_row : RegRow := ⟨0x40090008, 0x4, 1, 0x4, 1, 0x0, [fld 15 0 .rw]⟩
/-- `ETH_TXRING`, R518. -/
def ETH_TXRING : Nat := 0x4009000C
def ETH_TXRING_BASE : Fld := ⟨ETH_TXRING, 31, 8⟩
def ETH_TXRING_COUNT : Fld := ⟨ETH_TXRING, 7, 0⟩
def ETH_TXRING_row : RegRow := ⟨0x4009000C, 0x4, 1, 0x4, 1, 0x0, [fld 31 8 .rw, fld 7 0 .rw]⟩
/-- `ETH_RXRING`, R518. -/
def ETH_RXRING : Nat := 0x40090010
def ETH_RXRING_BASE : Fld := ⟨ETH_RXRING, 31, 8⟩
def ETH_RXRING_COUNT : Fld := ⟨ETH_RXRING, 7, 0⟩
def ETH_RXRING_row : RegRow := ⟨0x40090010, 0x4, 1, 0x4, 1, 0x0, [fld 31 8 .rw, fld 7 0 .rw]⟩
/-- `ETH_TXKICK`, R518. -/
def ETH_TXKICK : Nat := 0x40090014
def ETH_TXKICK_KICK : Fld := ⟨ETH_TXKICK, 31, 0⟩
def ETH_TXKICK_row : RegRow := ⟨0x40090014, 0x4, 1, 0x4, 1, 0x0, [fld 31 0 .wo]⟩
/-- `ETH_MDIO`, R518. -/
def ETH_MDIO : Nat := 0x40090018
def ETH_MDIO_GO : Fld := ⟨ETH_MDIO, 31, 31⟩
def ETH_MDIO_WRITE : Fld := ⟨ETH_MDIO, 30, 30⟩
def ETH_MDIO_PHY : Fld := ⟨ETH_MDIO, 25, 21⟩
def ETH_MDIO_REG : Fld := ⟨ETH_MDIO, 20, 16⟩
def ETH_MDIO_DATA : Fld := ⟨ETH_MDIO, 15, 0⟩
def ETH_MDIO_row : RegRow := ⟨0x40090018, 0x4, 1, 0x4, 1, 0x0, [fld 31 31 .w1s, fld 30 30 .rw, fld 25 21 .rw, fld 20 16 .rw, fld 15 0 .rw]⟩
/-- `ETH_CNT_RXDROP`, R518. -/
def ETH_CNT_RXDROP : Nat := 0x4009001C
def ETH_CNT_RXDROP_COUNT : Fld := ⟨ETH_CNT_RXDROP, 31, 0⟩
def ETH_CNT_RXDROP_row : RegRow := ⟨0x4009001C, 0x4, 1, 0x4, 1, 0x0, [fld 31 0 .ro]⟩

/-! ## XSP registers -/

/-- `XSP_CTRL`, R528. -/
def XSP_CTRL : Nat := 0x400A0000
def XSP_CTRL_CNT_CLR : Fld := ⟨XSP_CTRL, 2, 2⟩
def XSP_CTRL_WIN_EN : Fld := ⟨XSP_CTRL, 1, 1⟩
def XSP_CTRL_RST : Fld := ⟨XSP_CTRL, 0, 0⟩
def XSP_CTRL_row : RegRow := ⟨0x400A0000, 0x4, 1, 0x4, 1, 0x3, [fld 2 2 .wo, fld 1 1 .rw, fld 0 0 .rw]⟩
/-- `XSP_STAT`, R528. -/
def XSP_STAT : Nat := 0x400A0004
def XSP_STAT_PF_OWN : Fld := ⟨XSP_STAT, 5, 5⟩
def XSP_STAT_LDG_BUSY : Fld := ⟨XSP_STAT, 4, 4⟩
def XSP_STAT_WIN_ERR : Fld := ⟨XSP_STAT, 3, 3⟩
def XSP_STAT_FAIL : Fld := ⟨XSP_STAT, 2, 2⟩
def XSP_STAT_DONE : Fld := ⟨XSP_STAT, 1, 1⟩
def XSP_STAT_BUSY : Fld := ⟨XSP_STAT, 0, 0⟩
def XSP_STAT_row : RegRow := ⟨0x400A0004, 0x4, 1, 0x4, 1, 0x0, [fld 5 5 .ro, fld 4 4 .ro, fld 3 3 .w1c, fld 2 2 .w1c, fld 1 1 .w1c, fld 0 0 .ro]⟩
/-- `XSP_ERR`, R528. -/
def XSP_ERR : Nat := 0x400A0008
def XSP_ERR_VALUE : Fld := ⟨XSP_ERR, 31, 16⟩
def XSP_ERR_ERRV : Fld := ⟨XSP_ERR, 15, 15⟩
def XSP_ERR_CODE : Fld := ⟨XSP_ERR, 3, 0⟩
def XSP_ERR_row : RegRow := ⟨0x400A0008, 0x4, 1, 0x4, 1, 0x0, [fld 31 16 .ro, fld 15 15 .w1c, fld 3 0 .ro]⟩
/-- `XSP_CNT_DQS`, R528. -/
def XSP_CNT_DQS : Nat := 0x400A000C
def XSP_CNT_DQS_COUNT : Fld := ⟨XSP_CNT_DQS, 31, 0⟩
def XSP_CNT_DQS_row : RegRow := ⟨0x400A000C, 0x4, 1, 0x4, 1, 0x0, [fld 31 0 .ro]⟩
/-- `XSP_PROF`, R528. -/
def XSP_PROF (k : Nat) : Nat := 0x400A0010 + 0x4 * k
def XSP_PROF_WDUMMY (k : Nat) : Fld := ⟨XSP_PROF k, 28, 24⟩
def XSP_PROF_RDUMMY (k : Nat) : Fld := ⟨XSP_PROF k, 20, 16⟩
def XSP_PROF_CLK (k : Nat) : Fld := ⟨XSP_PROF k, 15, 8⟩
def XSP_PROF_MODE (k : Nat) : Fld := ⟨XSP_PROF k, 7, 0⟩
def XSP_PROF_row : RegRow := ⟨0x400A0010, 0x4, 2, 0x4, 1, 0x80300, [fld 28 24 .rw, fld 20 16 .rw, fldR 15 8 .rw 0 3, fldR 7 0 .rw 0 1]⟩
/-- `XSP_CMDS`, R528. -/
def XSP_CMDS (k : Nat) : Nat := 0x400A0018 + 0x4 * k
def XSP_CMDS_WR_B (k : Nat) : Fld := ⟨XSP_CMDS k, 31, 24⟩
def XSP_CMDS_WR_A (k : Nat) : Fld := ⟨XSP_CMDS k, 23, 16⟩
def XSP_CMDS_RD_B (k : Nat) : Fld := ⟨XSP_CMDS k, 15, 8⟩
def XSP_CMDS_RD_A (k : Nat) : Fld := ⟨XSP_CMDS k, 7, 0⟩
def XSP_CMDS_row : RegRow := ⟨0x400A0018, 0x4, 2, 0x4, 1, 0xC, [fld 31 24 .rw, fld 23 16 .rw, fld 15 8 .rw, fld 7 0 .rw]⟩
/-- `XSP_ICMD`, R528. -/
def XSP_ICMD : Nat := 0x400A0020
def XSP_ICMD_GO : Fld := ⟨XSP_ICMD, 31, 31⟩
def XSP_ICMD_CS : Fld := ⟨XSP_ICMD, 30, 30⟩
def XSP_ICMD_DIR : Fld := ⟨XSP_ICMD, 29, 29⟩
def XSP_ICMD_ADDR_EN : Fld := ⟨XSP_ICMD, 28, 28⟩
def XSP_ICMD_DUMMY : Fld := ⟨XSP_ICMD, 20, 16⟩
def XSP_ICMD_CMD_B : Fld := ⟨XSP_ICMD, 15, 8⟩
def XSP_ICMD_CMD_A : Fld := ⟨XSP_ICMD, 7, 0⟩
def XSP_ICMD_row : RegRow := ⟨0x400A0020, 0x4, 1, 0x4, 1, 0x0, [fld 31 31 .w1s, fld 30 30 .rw, fld 29 29 .rw, fld 28 28 .rw, fld 20 16 .rw, fld 15 8 .rw, fld 7 0 .rw]⟩
/-- `XSP_IADDR`, R528. -/
def XSP_IADDR : Nat := 0x400A0024
def XSP_IADDR_ADDR : Fld := ⟨XSP_IADDR, 31, 0⟩
def XSP_IADDR_row : RegRow := ⟨0x400A0024, 0x4, 1, 0x4, 1, 0x0, [fld 31 0 .rw]⟩
/-- `XSP_ILEN`, R528. -/
def XSP_ILEN : Nat := 0x400A0028
def XSP_ILEN_LEN : Fld := ⟨XSP_ILEN, 8, 0⟩
def XSP_ILEN_row : RegRow := ⟨0x400A0028, 0x4, 1, 0x4, 1, 0x0, [fld 8 0 .rw]⟩
/-- `XSP_IBUF`, R528. -/
def XSP_IBUF (k : Nat) : Nat := 0x400A0100 + 0x4 * k
def XSP_IBUF_DATA (k : Nat) : Fld := ⟨XSP_IBUF k, 31, 0⟩
def XSP_IBUF_row : RegRow := ⟨0x400A0100, 0x4, 64, 0x4, 1, 0x0, [fld 31 0 .rw]⟩

/-! ## VLT registers -/

/-- `VLT_CTRL`, R444. -/
def VLT_CTRL : Nat := 0x400B0000
def VLT_CTRL_GO : Fld := ⟨VLT_CTRL, 31, 31⟩
def VLT_CTRL_CMD : Fld := ⟨VLT_CTRL, 27, 24⟩
def VLT_CTRL_REGION : Fld := ⟨VLT_CTRL, 18, 16⟩
def VLT_CTRL_VALUE : Fld := ⟨VLT_CTRL, 7, 0⟩
def VLT_CTRL_row : RegRow := ⟨0x400B0000, 0x4, 1, 0x4, 1, 0x0, [fld 31 31 .w1s, fldR 27 24 .rw 1 7, fld 18 16 .rw, fld 7 0 .rw]⟩
/-- `VLT_PKEY`, R443. -/
def VLT_PKEY : Nat := 0x400B0004
def VLT_PKEY_KEY : Fld := ⟨VLT_PKEY, 15, 0⟩
def VLT_PKEY_row : RegRow := ⟨0x400B0004, 0x4, 1, 0x4, 1, 0x0, [fld 15 0 .wo]⟩
/-- `VLT_PADDR`, R443. -/
def VLT_PADDR : Nat := 0x400B0008
def VLT_PADDR_WORD : Fld := ⟨VLT_PADDR, 8, 0⟩
def VLT_PADDR_row : RegRow := ⟨0x400B0008, 0x4, 1, 0x4, 1, 0x0, [fld 8 0 .rw]⟩
/-- `VLT_PDATA`, R443. -/
def VLT_PDATA : Nat := 0x400B000C
def VLT_PDATA_DATA : Fld := ⟨VLT_PDATA, 31, 0⟩
def VLT_PDATA_row : RegRow := ⟨0x400B000C, 0x4, 1, 0x4, 1, 0x0, [fld 31 0 .rw]⟩
/-- `VLT_STAT`, R444. -/
def VLT_STAT : Nat := 0x400B0010
def VLT_STAT_RECOV_STRAP : Fld := ⟨VLT_STAT, 6, 6⟩
def VLT_STAT_SCAN_DONE : Fld := ⟨VLT_STAT, 5, 5⟩
def VLT_STAT_VPP_OK : Fld := ⟨VLT_STAT, 4, 4⟩
def VLT_STAT_FAIL : Fld := ⟨VLT_STAT, 2, 2⟩
def VLT_STAT_DONE : Fld := ⟨VLT_STAT, 1, 1⟩
def VLT_STAT_BUSY : Fld := ⟨VLT_STAT, 0, 0⟩
def VLT_STAT_row : RegRow := ⟨0x400B0010, 0x4, 1, 0x4, 1, 0x0, [fld 6 6 .ro, fld 5 5 .ro, fld 4 4 .ro, fld 2 2 .w1c, fld 1 1 .w1c, fld 0 0 .ro]⟩
/-- `VLT_ERR`, R444. -/
def VLT_ERR : Nat := 0x400B0014
def VLT_ERR_VALUE : Fld := ⟨VLT_ERR, 31, 16⟩
def VLT_ERR_ERRV : Fld := ⟨VLT_ERR, 15, 15⟩
def VLT_ERR_CODE : Fld := ⟨VLT_ERR, 3, 0⟩
def VLT_ERR_row : RegRow := ⟨0x400B0014, 0x4, 1, 0x4, 1, 0x0, [fld 31 16 .ro, fld 15 15 .w1c, fld 3 0 .ro]⟩
/-- `VLT_LC`, R444. -/
def VLT_LC : Nat := 0x400B0018
def VLT_LC_RB : Fld := ⟨VLT_LC, 23, 16⟩
def VLT_LC_LC_FUSED : Fld := ⟨VLT_LC, 10, 8⟩
def VLT_LC_LC : Fld := ⟨VLT_LC, 2, 0⟩
def VLT_LC_row : RegRow := ⟨0x400B0018, 0x4, 1, 0x4, 1, 0x0, [fld 23 16 .ro, fld 10 8 .ro, fld 2 0 .ro]⟩
/-- `VLT_CRC`, R443. -/
def VLT_CRC : Nat := 0x400B001C
def VLT_CRC_CRC : Fld := ⟨VLT_CRC, 31, 0⟩
def VLT_CRC_row : RegRow := ⟨0x400B001C, 0x4, 1, 0x4, 1, 0x0, [fld 31 0 .ro]⟩
/-- `VLT_RSTAT`, R444. -/
def VLT_RSTAT (k : Nat) : Nat := 0x400B0020 + 0x4 * k
def VLT_RSTAT_WEAKBITS (k : Nat) : Fld := ⟨VLT_RSTAT k, 31, 16⟩
def VLT_RSTAT_INTEG_FAIL (k : Nat) : Fld := ⟨VLT_RSTAT k, 6, 6⟩
def VLT_RSTAT_STRICT_USED (k : Nat) : Fld := ⟨VLT_RSTAT k, 5, 5⟩
def VLT_RSTAT_CRC_OK (k : Nat) : Fld := ⟨VLT_RSTAT k, 4, 4⟩
def VLT_RSTAT_WEAK (k : Nat) : Fld := ⟨VLT_RSTAT k, 3, 3⟩
def VLT_RSTAT_OVR (k : Nat) : Fld := ⟨VLT_RSTAT k, 2, 2⟩
def VLT_RSTAT_RLOCK (k : Nat) : Fld := ⟨VLT_RSTAT k, 1, 1⟩
def VLT_RSTAT_WLOCK (k : Nat) : Fld := ⟨VLT_RSTAT k, 0, 0⟩
def VLT_RSTAT_row : RegRow := ⟨0x400B0020, 0x4, 8, 0x4, 1, 0x0, [fld 31 16 .ro, fld 6 6 .ro, fld 5 5 .ro, fld 4 4 .ro, fld 3 3 .w1c, fld 2 2 .ro, fld 1 1 .ro, fld 0 0 .ro]⟩
/-- `VLT_OVR`, R443. -/
def VLT_OVR : Nat := 0x400B0040
def VLT_OVR_OVR : Fld := ⟨VLT_OVR, 7, 0⟩
def VLT_OVR_row : RegRow := ⟨0x400B0040, 0x4, 1, 0x4, 1, 0x0, [fld 7 0 .rw]⟩
/-- `VLT_SHADR`, R443. -/
def VLT_SHADR : Nat := 0x400B0044
def VLT_SHADR_ADDR : Fld := ⟨VLT_SHADR, 8, 0⟩
def VLT_SHADR_row : RegRow := ⟨0x400B0044, 0x4, 1, 0x4, 1, 0x0, [fld 8 0 .rw]⟩
/-- `VLT_SHDAT`, R443. -/
def VLT_SHDAT : Nat := 0x400B0048
def VLT_SHDAT_DATA : Fld := ⟨VLT_SHDAT, 31, 0⟩
def VLT_SHDAT_row : RegRow := ⟨0x400B0048, 0x4, 1, 0x4, 1, 0x0, [fld 31 0 .rw]⟩

/-! ## TWN registers -/

/-- `TWN_CTRL`, R358. -/
def TWN_CTRL : Nat := 0x400C0000
def TWN_CTRL_CLAIM : Fld := ⟨TWN_CTRL, 31, 31⟩
def TWN_CTRL_HANDOVER : Fld := ⟨TWN_CTRL, 30, 30⟩
def TWN_CTRL_TALIGN : Fld := ⟨TWN_CTRL, 29, 29⟩
def TWN_CTRL_CNT_CLR : Fld := ⟨TWN_CTRL, 4, 4⟩
def TWN_CTRL_CMP_EN : Fld := ⟨TWN_CTRL, 3, 3⟩
def TWN_CTRL_LANE_EN : Fld := ⟨TWN_CTRL, 2, 2⟩
def TWN_CTRL_HB_EN : Fld := ⟨TWN_CTRL, 1, 1⟩
def TWN_CTRL_EN : Fld := ⟨TWN_CTRL, 0, 0⟩
def TWN_CTRL_row : RegRow := ⟨0x400C0000, 0x4, 1, 0x4, 1, 0x8, [fld 31 31 .w1s, fld 30 30 .w1s, fld 29 29 .w1s, fld 4 4 .wo, fld 3 3 .rw, fld 2 2 .rw, fld 1 1 .rw, fld 0 0 .rw]⟩
/-- `TWN_CFG`, R358. -/
def TWN_CFG : Nat := 0x400C0004
def TWN_CFG_TAKEOVER : Fld := ⟨TWN_CFG, 31, 30⟩
def TWN_CFG_RESEIZE_EN : Fld := ⟨TWN_CFG, 29, 29⟩
def TWN_CFG_XFER_SERVE : Fld := ⟨TWN_CFG, 28, 28⟩
def TWN_CFG_MISS_N : Fld := ⟨TWN_CFG, 27, 24⟩
def TWN_CFG_DIG_OK_N : Fld := ⟨TWN_CFG, 23, 16⟩
def TWN_CFG_ECHO_LIM : Fld := ⟨TWN_CFG, 15, 8⟩
def TWN_CFG_row : RegRow := ⟨0x400C0004, 0x4, 1, 0x4, 1, 0x74100400, [fldR 31 30 .rw 0 2, fld 29 29 .rw, fld 28 28 .rw, fldR 27 24 .rw 2 8, fldR 23 16 .rw 1 255, fldR 15 8 .rw 1 255]⟩
/-- `TWN_STAT`, R358. -/
def TWN_STAT : Nat := 0x400C0008
def TWN_STAT_HOLDER : Fld := ⟨TWN_STAT, 31, 31⟩
def TWN_STAT_PEER_HOLDER : Fld := ⟨TWN_STAT, 30, 30⟩
def TWN_STAT_READY : Fld := ⟨TWN_STAT, 29, 29⟩
def TWN_STAT_PEER_READY : Fld := ⟨TWN_STAT, 28, 28⟩
def TWN_STAT_SHADOW_OK : Fld := ⟨TWN_STAT, 27, 27⟩
def TWN_STAT_LINK_UP : Fld := ⟨TWN_STAT, 26, 26⟩
def TWN_STAT_LANE_UP : Fld := ⟨TWN_STAT, 25, 24⟩
def TWN_STAT_HB_OK : Fld := ⟨TWN_STAT, 23, 23⟩
def TWN_STAT_AUTH_IN : Fld := ⟨TWN_STAT, 22, 22⟩
def TWN_STAT_NO_CLAIM : Fld := ⟨TWN_STAT, 21, 21⟩
def TWN_STAT_CLASH : Fld := ⟨TWN_STAT, 20, 20⟩
def TWN_STAT_MFN_OK : Fld := ⟨TWN_STAT, 19, 19⟩
def TWN_STAT_NOT_READY : Fld := ⟨TWN_STAT, 18, 18⟩
def TWN_STAT_MISS : Fld := ⟨TWN_STAT, 3, 0⟩
def TWN_STAT_row : RegRow := ⟨0x400C0008, 0x4, 1, 0x4, 1, 0x40000, [fld 31 31 .ro, fld 30 30 .ro, fld 29 29 .ro, fld 28 28 .ro, fld 27 27 .ro, fld 26 26 .ro, fld 25 24 .ro, fld 23 23 .ro, fld 22 22 .ro, fld 21 21 .ro, fld 20 20 .w1c, fld 19 19 .ro, fld 18 18 .ro, fld 3 0 .ro]⟩
/-- `TWN_PEER`, R358. -/
def TWN_PEER : Nat := 0x400C000C
def TWN_PEER_VALID : Fld := ⟨TWN_PEER, 31, 31⟩
def TWN_PEER_HOLDER : Fld := ⟨TWN_PEER, 30, 30⟩
def TWN_PEER_READY : Fld := ⟨TWN_PEER, 29, 29⟩
def TWN_PEER_COUNTER : Fld := ⟨TWN_PEER, 15, 1⟩
def TWN_PEER_UNIT : Fld := ⟨TWN_PEER, 0, 0⟩
def TWN_PEER_row : RegRow := ⟨0x400C000C, 0x4, 1, 0x4, 1, 0x0, [fld 31 31 .ro, fld 30 30 .ro, fld 29 29 .ro, fld 15 1 .ro, fld 0 0 .ro]⟩
/-- `TWN_HO`, R358. -/
def TWN_HO : Nat := 0x400C0010
def TWN_HO_FRAME : Fld := ⟨TWN_HO, 4, 0⟩
def TWN_HO_row : RegRow := ⟨0x400C0010, 0x4, 1, 0x4, 1, 0x0, [fld 4 0 .rw]⟩
/-- `TWN_HO_MFN`, R358. -/
def TWN_HO_MFN : Nat := 0x400C0014
def TWN_HO_MFN_MFN : Fld := ⟨TWN_HO_MFN, 31, 0⟩
def TWN_HO_MFN_row : RegRow := ⟨0x400C0014, 0x4, 1, 0x4, 1, 0x0, [fld 31 0 .rw]⟩
/-- `TWN_CSEED`, R358. -/
def TWN_CSEED : Nat := 0x400C0018
def TWN_CSEED_SEED : Fld := ⟨TWN_CSEED, 14, 0⟩
def TWN_CSEED_row : RegRow := ⟨0x400C0018, 0x4, 1, 0x4, 1, 0x0, [fld 14 0 .rw]⟩
/-- `TWN_BUILD`, R358. -/
def TWN_BUILD : Nat := 0x400C001C
def TWN_BUILD_BUILD_ID : Fld := ⟨TWN_BUILD, 31, 0⟩
def TWN_BUILD_row : RegRow := ⟨0x400C001C, 0x4, 1, 0x4, 1, 0x0, [fld 31 0 .rw]⟩
/-- `TWN_DIGX`, R358. -/
def TWN_DIGX : Nat := 0x400C0020
def TWN_DIGX_VALID : Fld := ⟨TWN_DIGX, 31, 31⟩
def TWN_DIGX_INDEX : Fld := ⟨TWN_DIGX, 24, 16⟩
def TWN_DIGX_MFN16 : Fld := ⟨TWN_DIGX, 15, 0⟩
def TWN_DIGX_row : RegRow := ⟨0x400C0020, 0x4, 1, 0x4, 1, 0x0, [fld 31 31 .w1c, fld 24 16 .ro, fld 15 0 .ro]⟩
/-- `TWN_ECHOX`, R358. -/
def TWN_ECHOX : Nat := 0x400C0024
def TWN_ECHOX_VALID : Fld := ⟨TWN_ECHOX, 31, 31⟩
def TWN_ECHOX_FIELD : Fld := ⟨TWN_ECHOX, 30, 30⟩
def TWN_ECHOX_LINK : Fld := ⟨TWN_ECHOX, 22, 16⟩
def TWN_ECHOX_ECHO : Fld := ⟨TWN_ECHOX, 15, 0⟩
def TWN_ECHOX_row : RegRow := ⟨0x400C0024, 0x4, 1, 0x4, 1, 0x0, [fld 31 31 .w1c, fld 30 30 .ro, fld 22 16 .ro, fld 15 0 .ro]⟩
/-- `TWN_DIVG`, R358. -/
def TWN_DIVG : Nat := 0x400C0028
def TWN_DIVG_BAT : Fld := ⟨TWN_DIVG, 17, 17⟩
def TWN_DIVG_MNT : Fld := ⟨TWN_DIVG, 16, 16⟩
def TWN_DIVG_ENGINES : Fld := ⟨TWN_DIVG, 15, 0⟩
def TWN_DIVG_row : RegRow := ⟨0x400C0028, 0x4, 1, 0x4, 1, 0x0, [fld 17 17 .ro, fld 16 16 .ro, fld 15 0 .ro]⟩
/-- `TWN_CNT_UE`, R357. -/
def TWN_CNT_UE : Nat := 0x400C0030
def TWN_CNT_UE_COUNT : Fld := ⟨TWN_CNT_UE, 31, 0⟩
def TWN_CNT_UE_row : RegRow := ⟨0x400C0030, 0x4, 1, 0x4, 1, 0x0, [fld 31 0 .ro]⟩
/-- `TWN_CNT_HBMISS`, R357. -/
def TWN_CNT_HBMISS : Nat := 0x400C0034
def TWN_CNT_HBMISS_COUNT : Fld := ⟨TWN_CNT_HBMISS, 31, 0⟩
def TWN_CNT_HBMISS_row : RegRow := ⟨0x400C0034, 0x4, 1, 0x4, 1, 0x0, [fld 31 0 .ro]⟩
/-- `TWN_CNT_DIGX`, R357. -/
def TWN_CNT_DIGX : Nat := 0x400C0038
def TWN_CNT_DIGX_COUNT : Fld := ⟨TWN_CNT_DIGX, 31, 0⟩
def TWN_CNT_DIGX_row : RegRow := ⟨0x400C0038, 0x4, 1, 0x4, 1, 0x0, [fld 31 0 .ro]⟩
/-- `TWN_CNT_ECHOX`, R357. -/
def TWN_CNT_ECHOX : Nat := 0x400C003C
def TWN_CNT_ECHOX_COUNT : Fld := ⟨TWN_CNT_ECHOX, 31, 0⟩
def TWN_CNT_ECHOX_row : RegRow := ⟨0x400C003C, 0x4, 1, 0x4, 1, 0x0, [fld 31 0 .ro]⟩
/-- `TWN_CNT_NACK`, R357. -/
def TWN_CNT_NACK : Nat := 0x400C0040
def TWN_CNT_NACK_COUNT : Fld := ⟨TWN_CNT_NACK, 31, 0⟩
def TWN_CNT_NACK_row : RegRow := ⟨0x400C0040, 0x4, 1, 0x4, 1, 0x0, [fld 31 0 .ro]⟩
/-- `TWN_FWD_TX`, R358. -/
def TWN_FWD_TX : Nat := 0x400C0050
def TWN_FWD_TX_SEND : Fld := ⟨TWN_FWD_TX, 31, 31⟩
def TWN_FWD_TX_TARGET : Fld := ⟨TWN_FWD_TX, 30, 29⟩
def TWN_FWD_TX_LEN : Fld := ⟨TWN_FWD_TX, 21, 16⟩
def TWN_FWD_TX_TAG : Fld := ⟨TWN_FWD_TX, 15, 0⟩
def TWN_FWD_TX_row : RegRow := ⟨0x400C0050, 0x4, 1, 0x4, 1, 0x0, [fld 31 31 .w1s, fld 30 29 .rw, fld 21 16 .rw, fld 15 0 .rw]⟩
/-- `TWN_FWD_TXS`, R358. -/
def TWN_FWD_TXS : Nat := 0x400C0054
def TWN_FWD_TXS_RSP : Fld := ⟨TWN_FWD_TXS, 7, 4⟩
def TWN_FWD_TXS_FAIL : Fld := ⟨TWN_FWD_TXS, 2, 2⟩
def TWN_FWD_TXS_DONE : Fld := ⟨TWN_FWD_TXS, 1, 1⟩
def TWN_FWD_TXS_BUSY : Fld := ⟨TWN_FWD_TXS, 0, 0⟩
def TWN_FWD_TXS_row : RegRow := ⟨0x400C0054, 0x4, 1, 0x4, 1, 0x0, [fld 7 4 .ro, fld 2 2 .w1c, fld 1 1 .w1c, fld 0 0 .ro]⟩
/-- `TWN_FWD_RXS`, R358. -/
def TWN_FWD_RXS : Nat := 0x400C0058
def TWN_FWD_RXS_FULL : Fld := ⟨TWN_FWD_RXS, 31, 31⟩
def TWN_FWD_RXS_TARGET : Fld := ⟨TWN_FWD_RXS, 30, 29⟩
def TWN_FWD_RXS_LEN : Fld := ⟨TWN_FWD_RXS, 21, 16⟩
def TWN_FWD_RXS_TAG : Fld := ⟨TWN_FWD_RXS, 15, 0⟩
def TWN_FWD_RXS_row : RegRow := ⟨0x400C0058, 0x4, 1, 0x4, 1, 0x0, [fld 31 31 .w1c, fld 30 29 .ro, fld 21 16 .ro, fld 15 0 .ro]⟩
/-- `TWN_FWD_RXE`, R358. -/
def TWN_FWD_RXE : Nat := 0x400C005C
def TWN_FWD_RXE_HOLDER : Fld := ⟨TWN_FWD_RXE, 16, 16⟩
def TWN_FWD_RXE_EPOCH : Fld := ⟨TWN_FWD_RXE, 15, 0⟩
def TWN_FWD_RXE_row : RegRow := ⟨0x400C005C, 0x4, 1, 0x4, 1, 0x0, [fld 16 16 .ro, fld 15 0 .ro]⟩
/-- `TWN_XFER_CTRL`, R358. -/
def TWN_XFER_CTRL : Nat := 0x400C0060
def TWN_XFER_CTRL_GO : Fld := ⟨TWN_XFER_CTRL, 31, 31⟩
def TWN_XFER_CTRL_XW : Fld := ⟨TWN_XFER_CTRL, 23, 16⟩
def TWN_XFER_CTRL_SEL : Fld := ⟨TWN_XFER_CTRL, 4, 0⟩
def TWN_XFER_CTRL_row : RegRow := ⟨0x400C0060, 0x4, 1, 0x4, 1, 0x100000, [fld 31 31 .w1s, fldR 23 16 .rw 2 64, fldR 4 0 .rw 0 18]⟩
/-- `TWN_XFER_STAT`, R358. -/
def TWN_XFER_STAT : Nat := 0x400C0064
def TWN_XFER_STAT_ERR : Fld := ⟨TWN_XFER_STAT, 7, 4⟩
def TWN_XFER_STAT_FAIL : Fld := ⟨TWN_XFER_STAT, 3, 3⟩
def TWN_XFER_STAT_DONE : Fld := ⟨TWN_XFER_STAT, 2, 2⟩
def TWN_XFER_STAT_DEFER : Fld := ⟨TWN_XFER_STAT, 1, 1⟩
def TWN_XFER_STAT_BUSY : Fld := ⟨TWN_XFER_STAT, 0, 0⟩
def TWN_XFER_STAT_row : RegRow := ⟨0x400C0064, 0x4, 1, 0x4, 1, 0x0, [fld 7 4 .ro, fld 3 3 .w1c, fld 2 2 .w1c, fld 1 1 .ro, fld 0 0 .ro]⟩
/-- `TWN_FWD_TXBUF`, R357. -/
def TWN_FWD_TXBUF (k : Nat) : Nat := 0x400C0100 + 0x4 * k
def TWN_FWD_TXBUF_DATA (k : Nat) : Fld := ⟨TWN_FWD_TXBUF k, 31, 0⟩
def TWN_FWD_TXBUF_row : RegRow := ⟨0x400C0100, 0x4, 32, 0x4, 1, 0x0, [fld 31 0 .rw]⟩
/-- `TWN_FWD_RXBUF`, R357. -/
def TWN_FWD_RXBUF (k : Nat) : Nat := 0x400C0180 + 0x4 * k
def TWN_FWD_RXBUF_DATA (k : Nat) : Fld := ⟨TWN_FWD_RXBUF k, 31, 0⟩
def TWN_FWD_RXBUF_row : RegRow := ⟨0x400C0180, 0x4, 32, 0x4, 1, 0x0, [fld 31 0 .ro]⟩

/-! ## MNT registers -/

/-- `MNT_CTRL`, R310. -/
def MNT_CTRL : Nat := 0x400D0000
def MNT_CTRL_EN : Fld := ⟨MNT_CTRL, 0, 0⟩
def MNT_CTRL_row : RegRow := ⟨0x400D0000, 0x4, 1, 0x4, 1, 0x0, [fld 0 0 .rw]⟩
/-- `MNT_POLICY`, R310. -/
def MNT_POLICY : Nat := 0x400D0004
def MNT_POLICY_ASK_MIN : Fld := ⟨MNT_POLICY, 15, 8⟩
def MNT_POLICY_GROW : Fld := ⟨MNT_POLICY, 7, 0⟩
def MNT_POLICY_row : RegRow := ⟨0x400D0004, 0x4, 1, 0x4, 1, 0x1420, [fld 15 8 .rw, fld 7 0 .rw]⟩
/-- `MNT_DEBT`, R310. -/
def MNT_DEBT : Nat := 0x400D0008
def MNT_DEBT_BRAKE_EN : Fld := ⟨MNT_DEBT, 31, 31⟩
def MNT_DEBT_CARRY_MAX : Fld := ⟨MNT_DEBT, 30, 16⟩
def MNT_DEBT_DEBT_MAX : Fld := ⟨MNT_DEBT, 15, 0⟩
def MNT_DEBT_row : RegRow := ⟨0x400D0008, 0x4, 1, 0x4, 1, 0x84000200, [fld 31 31 .rw, fld 30 16 .rw, fldR 15 0 .rw 1 65535]⟩
/-- `MNT_RECT`, R310. -/
def MNT_RECT : Nat := 0x400D000C
def MNT_RECT_RECT_W : Fld := ⟨MNT_RECT, 15, 0⟩
def MNT_RECT_row : RegRow := ⟨0x400D000C, 0x4, 1, 0x4, 1, 0x0, [fld 15 0 .rw]⟩
/-- `MNT_RESERVE`, R310. -/
def MNT_RESERVE : Nat := 0x400D0010
def MNT_RESERVE_RES : Fld := ⟨MNT_RESERVE, 19, 0⟩
def MNT_RESERVE_row : RegRow := ⟨0x400D0010, 0x4, 1, 0x4, 1, 0x0, [fld 19 0 .rw]⟩
/-- `MNT_BSHARE`, R310. -/
def MNT_BSHARE : Nat := 0x400D0014
def MNT_BSHARE_BSH_HU : Fld := ⟨MNT_BSHARE, 24, 16⟩
def MNT_BSHARE_BSH_AC : Fld := ⟨MNT_BSHARE, 8, 0⟩
def MNT_BSHARE_row : RegRow := ⟨0x400D0014, 0x4, 1, 0x4, 1, 0x1000000, [fldR 24 16 .rw 0 256, fldR 8 0 .rw 0 256]⟩
/-- `MNT_AC`, R310. -/
def MNT_AC : Nat := 0x400D0018
def MNT_AC_RET_MS : Fld := ⟨MNT_AC, 31, 16⟩
def MNT_AC_AC_N : Fld := ⟨MNT_AC, 6, 0⟩
def MNT_AC_row : RegRow := ⟨0x400D0018, 0x4, 1, 0x4, 1, 0x3E80004, [fld 31 16 .rw, fldR 6 0 .rw 0 96]⟩
/-- `MNT_SHED`, R310. -/
def MNT_SHED : Nat := 0x400D001C
def MNT_SHED_SHED_OFF : Fld := ⟨MNT_SHED, 4, 4⟩
def MNT_SHED_SHED_EN : Fld := ⟨MNT_SHED, 3, 0⟩
def MNT_SHED_row : RegRow := ⟨0x400D001C, 0x4, 1, 0x4, 1, 0x0, [fld 4 4 .rw, fld 3 0 .rw]⟩
/-- `MNT_SHED_T`, R310. -/
def MNT_SHED_T (k : Nat) : Nat := 0x400D0020 + 0x4 * k
def MNT_SHED_T_T (k : Nat) : Fld := ⟨MNT_SHED_T k, 15, 0⟩
def MNT_SHED_T_row : RegRow := ⟨0x400D0020, 0x4, 4, 0x4, 1, 0x0, [fld 15 0 .rw]⟩
/-- `MNT_RMASK`, R310. -/
def MNT_RMASK (k : Nat) : Nat := 0x400D0030 + 0x4 * k
def MNT_RMASK_MASK (k : Nat) : Fld := ⟨MNT_RMASK k, 31, 0⟩
def MNT_RMASK_row : RegRow := ⟨0x400D0030, 0x4, 3, 0x4, 1, 0x0, [fld 31 0 .rw]⟩
/-- `MNT_APPLY`, R310. -/
def MNT_APPLY : Nat := 0x400D0040
def MNT_APPLY_GO : Fld := ⟨MNT_APPLY, 31, 31⟩
def MNT_APPLY_AT : Fld := ⟨MNT_APPLY, 30, 30⟩
def MNT_APPLY_ERR : Fld := ⟨MNT_APPLY, 7, 4⟩
def MNT_APPLY_FAIL : Fld := ⟨MNT_APPLY, 3, 3⟩
def MNT_APPLY_DONE : Fld := ⟨MNT_APPLY, 2, 2⟩
def MNT_APPLY_row : RegRow := ⟨0x400D0040, 0x4, 1, 0x4, 1, 0x0, [fld 31 31 .w1s, fld 30 30 .rw, fld 7 4 .ro, fld 3 3 .w1c, fld 2 2 .w1c]⟩
/-- `MNT_APPLY_MFN`, R310. -/
def MNT_APPLY_MFN : Nat := 0x400D0044
def MNT_APPLY_MFN_MFN : Fld := ⟨MNT_APPLY_MFN, 31, 0⟩
def MNT_APPLY_MFN_row : RegRow := ⟨0x400D0044, 0x4, 1, 0x4, 1, 0x0, [fld 31 0 .rw]⟩
/-- `MNT_HUSW`, R310. -/
def MNT_HUSW (k : Nat) : Nat := 0x400D0060 + 0x4 * k
def MNT_HUSW_EN (k : Nat) : Fld := ⟨MNT_HUSW k, 31, 31⟩
def MNT_HUSW_SET (k : Nat) : Fld := ⟨MNT_HUSW k, 30, 30⟩
def MNT_HUSW_ENGINE (k : Nat) : Fld := ⟨MNT_HUSW k, 19, 16⟩
def MNT_HUSW_ENTRY (k : Nat) : Fld := ⟨MNT_HUSW k, 8, 0⟩
def MNT_HUSW_row : RegRow := ⟨0x400D0060, 0x4, 8, 0x4, 1, 0x0, [fld 31 31 .rw, fld 30 30 .rw, fld 19 16 .rw, fld 8 0 .rw]⟩
/-- `MNT_STAT`, R310. -/
def MNT_STAT : Nat := 0x400D0080
def MNT_STAT_FLOOR_SHORT : Fld := ⟨MNT_STAT, 15, 15⟩
def MNT_STAT_AC_CNT : Fld := ⟨MNT_STAT, 14, 8⟩
def MNT_STAT_EMERG : Fld := ⟨MNT_STAT, 7, 7⟩
def MNT_STAT_PEND : Fld := ⟨MNT_STAT, 5, 5⟩
def MNT_STAT_SHED : Fld := ⟨MNT_STAT, 4, 1⟩
def MNT_STAT_HOLDUP : Fld := ⟨MNT_STAT, 0, 0⟩
def MNT_STAT_row : RegRow := ⟨0x400D0080, 0x4, 1, 0x4, 1, 0x0, [fld 15 15 .w1c, fld 14 8 .ro, fld 7 7 .ro, fld 5 5 .ro, fld 4 1 .ro, fld 0 0 .ro]⟩
/-- `MNT_SRC_R`, R310. -/
def MNT_SRC_R : Nat := 0x400D0084
def MNT_SRC_R_W : Fld := ⟨MNT_SRC_R, 23, 0⟩
def MNT_SRC_R_row : RegRow := ⟨0x400D0084, 0x4, 1, 0x4, 1, 0x0, [fld 23 0 .ro]⟩
/-- `MNT_SRC_B`, R310. -/
def MNT_SRC_B : Nat := 0x400D0088
def MNT_SRC_B_W : Fld := ⟨MNT_SRC_B, 23, 0⟩
def MNT_SRC_B_row : RegRow := ⟨0x400D0088, 0x4, 1, 0x4, 1, 0x0, [fld 23 0 .ro]⟩
/-- `MNT_AVAIL`, R310. -/
def MNT_AVAIL : Nat := 0x400D008C
def MNT_AVAIL_A : Fld := ⟨MNT_AVAIL, 19, 0⟩
def MNT_AVAIL_row : RegRow := ⟨0x400D008C, 0x4, 1, 0x4, 1, 0x0, [fld 19 0 .ro]⟩
/-- `MNT_COINS`, R310. -/
def MNT_COINS : Nat := 0x400D0090
def MNT_COINS_COINS : Fld := ⟨MNT_COINS, 31, 0⟩
def MNT_COINS_row : RegRow := ⟨0x400D0090, 0x4, 1, 0x4, 1, 0x0, [fld 31 0 .ro]⟩
/-- `MNT_UNALLOC`, R310. -/
def MNT_UNALLOC : Nat := 0x400D0094
def MNT_UNALLOC_COINS : Fld := ⟨MNT_UNALLOC, 31, 0⟩
def MNT_UNALLOC_row : RegRow := ⟨0x400D0094, 0x4, 1, 0x4, 1, 0x0, [fld 31 0 .ro]⟩
/-- `MNT_DIGEST`, R310. -/
def MNT_DIGEST : Nat := 0x400D0098
def MNT_DIGEST_DIGEST : Fld := ⟨MNT_DIGEST, 31, 0⟩
def MNT_DIGEST_row : RegRow := ⟨0x400D0098, 0x4, 1, 0x4, 1, 0x0, [fld 31 0 .ro]⟩
/-- `MNT_HU_TIME`, R310. -/
def MNT_HU_TIME : Nat := 0x400D009C
def MNT_HU_TIME_MS : Fld := ⟨MNT_HU_TIME, 31, 0⟩
def MNT_HU_TIME_row : RegRow := ⟨0x400D009C, 0x4, 1, 0x4, 1, 0x0, [fld 31 0 .ro]⟩
/-- `MNT_PCFG`, R310. -/
def MNT_PCFG (k : Nat) : Nat := 0x400D0400 + 0x10 * k
def MNT_PCFG_EN (k : Nat) : Fld := ⟨MNT_PCFG k, 31, 31⟩
def MNT_PCFG_RAMP_BRK (k : Nat) : Fld := ⟨MNT_PCFG k, 30, 30⟩
def MNT_PCFG_CLASS (k : Nat) : Fld := ⟨MNT_PCFG k, 17, 16⟩
def MNT_PCFG_WEIGHT (k : Nat) : Fld := ⟨MNT_PCFG k, 7, 0⟩
def MNT_PCFG_row : RegRow := ⟨0x400D0400, 0x10, 96, 0x4, 1, 0x40030010, [fld 31 31 .rw, fld 30 30 .rw, fld 17 16 .rw, fld 7 0 .rw]⟩
/-- `MNT_PLIM`, R310. -/
def MNT_PLIM (k : Nat) : Nat := 0x400D0404 + 0x10 * k
def MNT_PLIM_CEIL (k : Nat) : Fld := ⟨MNT_PLIM k, 31, 16⟩
def MNT_PLIM_FLOOR (k : Nat) : Fld := ⟨MNT_PLIM k, 15, 0⟩
def MNT_PLIM_row : RegRow := ⟨0x400D0404, 0x10, 96, 0x4, 1, 0x2660000, [fld 31 16 .rw, fld 15 0 .rw]⟩
/-- `MNT_PBAL`, R310. -/
def MNT_PBAL (k : Nat) : Nat := 0x400D0408 + 0x10 * k
def MNT_PBAL_BAL (k : Nat) : Fld := ⟨MNT_PBAL k, 31, 0⟩
def MNT_PBAL_row : RegRow := ⟨0x400D0408, 0x10, 96, 0x4, 1, 0x0, [fld 31 0 .ro]⟩
/-- `MNT_PGRANT`, R310. -/
def MNT_PGRANT (k : Nat) : Nat := 0x400D040C + 0x10 * k
def MNT_PGRANT_OVER (k : Nat) : Fld := ⟨MNT_PGRANT k, 31, 22⟩
def MNT_PGRANT_GRANT (k : Nat) : Fld := ⟨MNT_PGRANT k, 15, 0⟩
def MNT_PGRANT_row : RegRow := ⟨0x400D040C, 0x10, 96, 0x4, 1, 0x0, [fld 31 22 .ro, fld 15 0 .ro]⟩
/-- `MNT_PUSE`, R310. -/
def MNT_PUSE (k : Nat) : Nat := 0x400D0A00 + 0x4 * k
def MNT_PUSE_USE (k : Nat) : Fld := ⟨MNT_PUSE k, 15, 0⟩
def MNT_PUSE_row : RegRow := ⟨0x400D0A00, 0x4, 96, 0x4, 1, 0x0, [fld 15 0 .ro]⟩
/-- `MNT_CAP`, R310. -/
def MNT_CAP : Nat := 0x400D1000
def MNT_CAP_CAP : Fld := ⟨MNT_CAP, 19, 0⟩
def MNT_CAP_row : RegRow := ⟨0x400D1000, 0x4, 1, 0x4, 1, 0xFFFFF, [fld 19 0 .rw]⟩

/-! ## BAT registers -/

/-- `BAT_CTRL`, R334. -/
def BAT_CTRL : Nat := 0x400E0000
def BAT_CTRL_ROT_EN : Fld := ⟨BAT_CTRL, 8, 8⟩
def BAT_CTRL_STR_EN : Fld := ⟨BAT_CTRL, 7, 0⟩
def BAT_CTRL_row : RegRow := ⟨0x400E0000, 0x4, 1, 0x4, 1, 0x0, [fld 8 8 .rw, fld 7 0 .rw]⟩
/-- `BAT_APPLY`, R334. -/
def BAT_APPLY : Nat := 0x400E0004
def BAT_APPLY_GO : Fld := ⟨BAT_APPLY, 31, 31⟩
def BAT_APPLY_AT : Fld := ⟨BAT_APPLY, 30, 30⟩
def BAT_APPLY_ERR : Fld := ⟨BAT_APPLY, 7, 4⟩
def BAT_APPLY_FAIL : Fld := ⟨BAT_APPLY, 3, 3⟩
def BAT_APPLY_DONE : Fld := ⟨BAT_APPLY, 2, 2⟩
def BAT_APPLY_row : RegRow := ⟨0x400E0004, 0x4, 1, 0x4, 1, 0x0, [fld 31 31 .w1s, fld 30 30 .rw, fld 7 4 .ro, fld 3 3 .w1c, fld 2 2 .w1c]⟩
/-- `BAT_APPLY_MFN`, R334. -/
def BAT_APPLY_MFN : Nat := 0x400E0008
def BAT_APPLY_MFN_MFN : Fld := ⟨BAT_APPLY_MFN, 31, 0⟩
def BAT_APPLY_MFN_row : RegRow := ⟨0x400E0008, 0x4, 1, 0x4, 1, 0x0, [fld 31 0 .rw]⟩
/-- `BAT_STAT`, R334. -/
def BAT_STAT : Nat := 0x400E000C
def BAT_STAT_ROT_FAIL : Fld := ⟨BAT_STAT, 31, 24⟩
def BAT_STAT_PART : Fld := ⟨BAT_STAT, 23, 16⟩
def BAT_STAT_ROT_BLOCKED : Fld := ⟨BAT_STAT, 5, 5⟩
def BAT_STAT_ROT_VALID : Fld := ⟨BAT_STAT, 4, 4⟩
def BAT_STAT_RESTING : Fld := ⟨BAT_STAT, 3, 3⟩
def BAT_STAT_ROT_STR : Fld := ⟨BAT_STAT, 2, 0⟩
def BAT_STAT_row : RegRow := ⟨0x400E000C, 0x4, 1, 0x4, 1, 0x0, [fld 31 24 .ro, fld 23 16 .ro, fld 5 5 .w1c, fld 4 4 .ro, fld 3 3 .ro, fld 2 0 .ro]⟩
/-- `BAT_ROT_MFN`, R333. -/
def BAT_ROT_MFN : Nat := 0x400E0010
def BAT_ROT_MFN_MFN : Fld := ⟨BAT_ROT_MFN, 31, 0⟩
def BAT_ROT_MFN_row : RegRow := ⟨0x400E0010, 0x4, 1, 0x4, 1, 0x0, [fld 31 0 .ro]⟩
/-- `BAT_ALLOW`, R333. -/
def BAT_ALLOW : Nat := 0x400E0014
def BAT_ALLOW_W : Fld := ⟨BAT_ALLOW, 23, 0⟩
def BAT_ALLOW_row : RegRow := ⟨0x400E0014, 0x4, 1, 0x4, 1, 0x0, [fld 23 0 .ro]⟩
/-- `BAT_AGG`, R333. -/
def BAT_AGG : Nat := 0x400E0018
def BAT_AGG_SOC : Fld := ⟨BAT_AGG, 9, 0⟩
def BAT_AGG_row : RegRow := ⟨0x400E0018, 0x4, 1, 0x4, 1, 0x0, [fld 9 0 .ro]⟩
/-- `BAT_DIGEST`, R333. -/
def BAT_DIGEST : Nat := 0x400E001C
def BAT_DIGEST_DIGEST : Fld := ⟨BAT_DIGEST, 31, 0⟩
def BAT_DIGEST_row : RegRow := ⟨0x400E001C, 0x4, 1, 0x4, 1, 0x0, [fld 31 0 .ro]⟩
/-- `BAT_ROT`, R334. -/
def BAT_ROT : Nat := 0x400E0020
def BAT_ROT_LEAD : Fld := ⟨BAT_ROT, 31, 20⟩
def BAT_ROT_W_S : Fld := ⟨BAT_ROT, 11, 0⟩
def BAT_ROT_row : RegRow := ⟨0x400E0020, 0x4, 1, 0x4, 1, 0x8000078, [fldR 31 20 .rw 1 4095, fldR 11 0 .rw 1 4095]⟩
/-- `BAT_SMOOTH`, R334. -/
def BAT_SMOOTH : Nat := 0x400E0024
def BAT_SMOOTH_P_SMOOTH : Fld := ⟨BAT_SMOOTH, 23, 0⟩
def BAT_SMOOTH_row : RegRow := ⟨0x400E0024, 0x4, 1, 0x4, 1, 0x27100, [fld 23 0 .rw]⟩
/-- `BAT_POLICY`, R334. -/
def BAT_POLICY : Nat := 0x400E0028
def BAT_POLICY_TAPER : Fld := ⟨BAT_POLICY, 25, 16⟩
def BAT_POLICY_RES_SOC : Fld := ⟨BAT_POLICY, 9, 0⟩
def BAT_POLICY_row : RegRow := ⟨0x400E0028, 0x4, 1, 0x4, 1, 0xC80032, [fldR 25 16 .rw 1 1000, fldR 9 0 .rw 0 999]⟩
/-- `BAT_REST`, R334. -/
def BAT_REST : Nat := 0x400E002C
def BAT_REST_DIR_S : Fld := ⟨BAT_REST, 31, 20⟩
def BAT_REST_EXT_S : Fld := ⟨BAT_REST, 19, 8⟩
def BAT_REST_REST_I : Fld := ⟨BAT_REST, 7, 0⟩
def BAT_REST_row : RegRow := ⟨0x400E002C, 0x4, 1, 0x4, 1, 0x25805A14, [fldR 31 20 .rw 2 4095, fldR 19 8 .rw 1 4094, fldR 7 0 .rw 1 255]⟩
/-- `BAT_READ`, R334. -/
def BAT_READ : Nat := 0x400E0030
def BAT_READ_BLEND : Fld := ⟨BAT_READ, 31, 24⟩
def BAT_READ_EXT_MAX : Fld := ⟨BAT_READ, 15, 0⟩
def BAT_READ_row : RegRow := ⟨0x400E0030, 0x4, 1, 0x4, 1, 0x50000C8, [fldR 31 24 .rw 1 255, fldR 15 0 .rw 1 65535]⟩
/-- `BAT_UNC`, R334. -/
def BAT_UNC : Nat := 0x400E0034
def BAT_UNC_UNC_LIM : Fld := ⟨BAT_UNC, 31, 24⟩
def BAT_UNC_DRIFT : Fld := ⟨BAT_UNC, 23, 16⟩
def BAT_UNC_TPUT : Fld := ⟨BAT_UNC, 15, 0⟩
def BAT_UNC_row : RegRow := ⟨0x400E0034, 0x4, 1, 0x4, 1, 0x32010040, [fldR 31 24 .rw 1 255, fld 23 16 .rw, fld 15 0 .rw]⟩
/-- `BAT_ACC`, R334. -/
def BAT_ACC : Nat := 0x400E0038
def BAT_ACC_INIT_UNC : Fld := ⟨BAT_ACC, 31, 24⟩
def BAT_ACC_EXT_UNC : Fld := ⟨BAT_ACC, 23, 16⟩
def BAT_ACC_DIR_UNC : Fld := ⟨BAT_ACC, 15, 8⟩
def BAT_ACC_row : RegRow := ⟨0x400E0038, 0x4, 1, 0x4, 1, 0x640A0300, [fldR 31 24 .rw 1 255, fld 23 16 .rw, fld 15 8 .rw]⟩
/-- `BAT_DIS`, R334. -/
def BAT_DIS : Nat := 0x400E003C
def BAT_DIS_DIS_N : Fld := ⟨BAT_DIS, 31, 16⟩
def BAT_DIS_DIS_TH : Fld := ⟨BAT_DIS, 9, 0⟩
def BAT_DIS_row : RegRow := ⟨0x400E003C, 0x4, 1, 0x4, 1, 0xCB740032, [fldR 31 16 .rw 1 65535, fldR 9 0 .rw 1 1000]⟩
/-- `BAT_CUT`, R334. -/
def BAT_CUT : Nat := 0x400E0040
def BAT_CUT_VCUT : Fld := ⟨BAT_CUT, 31, 16⟩
def BAT_CUT_CUT_HYST : Fld := ⟨BAT_CUT, 15, 8⟩
def BAT_CUT_CUT_N : Fld := ⟨BAT_CUT, 7, 0⟩
def BAT_CUT_row : RegRow := ⟨0x400E0040, 0x4, 1, 0x4, 1, 0x75306402, [fldR 31 16 .rw 1 65535, fldR 15 8 .rw 1 255, fldR 7 0 .rw 1 255]⟩
/-- `BAT_SUB`, R334. -/
def BAT_SUB : Nat := 0x400E0044
def BAT_SUB_SUB_LIM : Fld := ⟨BAT_SUB, 15, 0⟩
def BAT_SUB_row : RegRow := ⟨0x400E0044, 0x4, 1, 0x4, 1, 0xD06, [fldR 15 0 .rw 1 65535]⟩
/-- `BAT_SOH`, R334. -/
def BAT_SOH : Nat := 0x400E0048
def BAT_SOH_DSOC : Fld := ⟨BAT_SOH, 9, 0⟩
def BAT_SOH_row : RegRow := ⟨0x400E0048, 0x4, 1, 0x4, 1, 0x12C, [fldR 9 0 .rw 1 1000]⟩
/-- `BAT_SCFG`, R335. -/
def BAT_SCFG (k : Nat) : Nat := 0x400E0400 + 0x40 * k
def BAT_SCFG_LINK (k : Nat) : Fld := ⟨BAT_SCFG k, 30, 24⟩
def BAT_SCFG_RATED_MAH (k : Nat) : Fld := ⟨BAT_SCFG k, 15, 0⟩
def BAT_SCFG_row : RegRow := ⟨0x400E0400, 0x40, 8, 0x4, 1, 0x2710, [fldR 30 24 .rw 0 95, fldR 15 0 .rw 1 65535]⟩
/-- `BAT_SCFG2`, R335. -/
def BAT_SCFG2 (k : Nat) : Nat := 0x400E0404 + 0x40 * k
def BAT_SCFG2_PSTR (k : Nat) : Fld := ⟨BAT_SCFG2 k, 31, 16⟩
def BAT_SCFG2_RINT (k : Nat) : Fld := ⟨BAT_SCFG2 k, 15, 0⟩
def BAT_SCFG2_row : RegRow := ⟨0x400E0404, 0x40, 8, 0x4, 1, 0x7A120460, [fld 31 16 .rw, fld 15 0 .rw]⟩
/-- `BAT_SSEED`, R335. -/
def BAT_SSEED (k : Nat) : Nat := 0x400E0408 + 0x40 * k
def BAT_SSEED_VALID (k : Nat) : Fld := ⟨BAT_SSEED k, 31, 31⟩
def BAT_SSEED_UNC (k : Nat) : Fld := ⟨BAT_SSEED k, 27, 18⟩
def BAT_SSEED_SOC (k : Nat) : Fld := ⟨BAT_SSEED k, 9, 0⟩
def BAT_SSEED_row : RegRow := ⟨0x400E0408, 0x40, 8, 0x4, 1, 0x0, [fld 31 31 .rw, fldR 27 18 .rw 0 1000, fldR 9 0 .rw 0 1000]⟩
/-- `BAT_SCAPSEED`, R335. -/
def BAT_SCAPSEED (k : Nat) : Nat := 0x400E040C + 0x40 * k
def BAT_SCAPSEED_CAP_MAH (k : Nat) : Fld := ⟨BAT_SCAPSEED k, 15, 0⟩
def BAT_SCAPSEED_row : RegRow := ⟨0x400E040C, 0x40, 8, 0x4, 1, 0x0, [fld 15 0 .rw]⟩
/-- `BAT_SOC`, R335. -/
def BAT_SOC (k : Nat) : Nat := 0x400E0410 + 0x40 * k
def BAT_SOC_UNC (k : Nat) : Fld := ⟨BAT_SOC k, 31, 22⟩
def BAT_SOC_CNT (k : Nat) : Fld := ⟨BAT_SOC k, 21, 12⟩
def BAT_SOC_SOC (k : Nat) : Fld := ⟨BAT_SOC k, 9, 0⟩
def BAT_SOC_row : RegRow := ⟨0x400E0410, 0x40, 8, 0x4, 1, 0x0, [fld 31 22 .ro, fld 21 12 .ro, fld 9 0 .ro]⟩
/-- `BAT_SFLAG`, R335. -/
def BAT_SFLAG (k : Nat) : Nat := 0x400E0414 + 0x40 * k
def BAT_SFLAG_SOC_D (k : Nat) : Fld := ⟨BAT_SFLAG k, 25, 16⟩
def BAT_SFLAG_TORN (k : Nat) : Fld := ⟨BAT_SFLAG k, 15, 15⟩
def BAT_SFLAG_COUNT_NEG (k : Nat) : Fld := ⟨BAT_SFLAG k, 14, 14⟩
def BAT_SFLAG_RESERVE (k : Nat) : Fld := ⟨BAT_SFLAG k, 13, 13⟩
def BAT_SFLAG_DIS_HI (k : Nat) : Fld := ⟨BAT_SFLAG k, 12, 12⟩
def BAT_SFLAG_DIS_LO (k : Nat) : Fld := ⟨BAT_SFLAG k, 11, 11⟩
def BAT_SFLAG_CUTOFF (k : Nat) : Fld := ⟨BAT_SFLAG k, 10, 10⟩
def BAT_SFLAG_LINK (k : Nat) : Fld := ⟨BAT_SFLAG k, 9, 9⟩
def BAT_SFLAG_UNCERTAIN (k : Nat) : Fld := ⟨BAT_SFLAG k, 8, 8⟩
def BAT_SFLAG_AT_REST (k : Nat) : Fld := ⟨BAT_SFLAG k, 7, 7⟩
def BAT_SFLAG_BLENDING (k : Nat) : Fld := ⟨BAT_SFLAG k, 6, 6⟩
def BAT_SFLAG_LAST_READ (k : Nat) : Fld := ⟨BAT_SFLAG k, 1, 0⟩
def BAT_SFLAG_row : RegRow := ⟨0x400E0414, 0x40, 8, 0x4, 1, 0x0, [fld 25 16 .ro, fld 15 15 .w1c, fld 14 14 .ro, fld 13 13 .ro, fld 12 12 .ro, fld 11 11 .ro, fld 10 10 .ro, fld 9 9 .ro, fld 8 8 .ro, fld 7 7 .ro, fld 6 6 .ro, fld 1 0 .ro]⟩
/-- `BAT_TALLY_LO`, R335. -/
def BAT_TALLY_LO (k : Nat) : Nat := 0x400E0418 + 0x40 * k
def BAT_TALLY_LO_T_LO (k : Nat) : Fld := ⟨BAT_TALLY_LO k, 31, 0⟩
def BAT_TALLY_LO_row : RegRow := ⟨0x400E0418, 0x40, 8, 0x4, 1, 0x0, [fld 31 0 .ro]⟩
/-- `BAT_TALLY_HI`, R335. -/
def BAT_TALLY_HI (k : Nat) : Nat := 0x400E041C + 0x40 * k
def BAT_TALLY_HI_T_HI (k : Nat) : Fld := ⟨BAT_TALLY_HI k, 31, 0⟩
def BAT_TALLY_HI_row : RegRow := ⟨0x400E041C, 0x40, 8, 0x4, 1, 0x0, [fld 31 0 .ro]⟩
/-- `BAT_SCAP`, R335. -/
def BAT_SCAP (k : Nat) : Nat := 0x400E0420 + 0x40 * k
def BAT_SCAP_CAP_MAH (k : Nat) : Fld := ⟨BAT_SCAP k, 31, 16⟩
def BAT_SCAP_SOH (k : Nat) : Fld := ⟨BAT_SCAP k, 10, 0⟩
def BAT_SCAP_row : RegRow := ⟨0x400E0420, 0x40, 8, 0x4, 1, 0x0, [fld 31 16 .ro, fld 10 0 .ro]⟩
/-- `BAT_REST_T`, R335. -/
def BAT_REST_T (k : Nat) : Nat := 0x400E0424 + 0x40 * k
def BAT_REST_T_INTERVALS (k : Nat) : Fld := ⟨BAT_REST_T k, 31, 0⟩
def BAT_REST_T_row : RegRow := ⟨0x400E0424, 0x40, 8, 0x4, 1, 0x0, [fld 31 0 .ro]⟩
/-- `BAT_READING`, R335. -/
def BAT_READING (k : Nat) : Nat := 0x400E0428 + 0x40 * k
def BAT_READING_U (k : Nat) : Fld := ⟨BAT_READING k, 31, 16⟩
def BAT_READING_SOC_V (k : Nat) : Fld := ⟨BAT_READING k, 9, 0⟩
def BAT_READING_row : RegRow := ⟨0x400E0428, 0x40, 8, 0x4, 1, 0x0, [fld 31 16 .ro, fld 9 0 .ro]⟩
/-- `BAT_CELLMM`, R335. -/
def BAT_CELLMM (k : Nat) : Nat := 0x400E042C + 0x40 * k
def BAT_CELLMM_MAX (k : Nat) : Fld := ⟨BAT_CELLMM k, 31, 16⟩
def BAT_CELLMM_MIN (k : Nat) : Fld := ⟨BAT_CELLMM k, 15, 0⟩
def BAT_CELLMM_row : RegRow := ⟨0x400E042C, 0x40, 8, 0x4, 1, 0x0, [fld 31 16 .ro, fld 15 0 .ro]⟩
/-- `BAT_SUBST`, R335. -/
def BAT_SUBST (k : Nat) : Nat := 0x400E0430 + 0x40 * k
def BAT_SUBST_TOTAL (k : Nat) : Fld := ⟨BAT_SUBST k, 31, 16⟩
def BAT_SUBST_CONSEC (k : Nat) : Fld := ⟨BAT_SUBST k, 15, 0⟩
def BAT_SUBST_row : RegRow := ⟨0x400E0430, 0x40, 8, 0x4, 1, 0x0, [fld 31 16 .ro, fld 15 0 .ro]⟩
/-- `BAT_OCV_TEMP`, R333. -/
def BAT_OCV_TEMP (k : Nat) (j : Nat) : Nat := 0x400E1000 + 0x10 * k + 0x4 * j
def BAT_OCV_TEMP_TEMP (k : Nat) (j : Nat) : Fld := ⟨BAT_OCV_TEMP k j, 15, 0⟩
def BAT_OCV_TEMP_row : RegRow := ⟨0x400E1000, 0x10, 8, 0x4, 4, 0x0, [fld 15 0 .rw]⟩
/-- `BAT_CELL`, R333. -/
def BAT_CELL (k : Nat) (j : Nat) : Nat := 0x400E1800 + 0x100 * k + 0x4 * j
def BAT_CELL_CELL1 (k : Nat) (j : Nat) : Fld := ⟨BAT_CELL k j, 31, 16⟩
def BAT_CELL_CELL0 (k : Nat) (j : Nat) : Fld := ⟨BAT_CELL k j, 15, 0⟩
def BAT_CELL_row : RegRow := ⟨0x400E1800, 0x100, 8, 0x4, 56, 0x0, [fld 31 16 .ro, fld 15 0 .ro]⟩
/-- `BAT_OCV`, R333. -/
def BAT_OCV (k : Nat) (j : Nat) : Nat := 0x400E2000 + 0x100 * k + 0x4 * j
def BAT_OCV_SOC (k : Nat) (j : Nat) : Fld := ⟨BAT_OCV k j, 25, 16⟩
def BAT_OCV_OCV (k : Nat) (j : Nat) : Fld := ⟨BAT_OCV k j, 15, 0⟩
def BAT_OCV_row : RegRow := ⟨0x400E2000, 0x100, 32, 0x4, 64, 0x0, [fld 25 16 .rw, fld 15 0 .rw]⟩

/-! ## FRA registers -/

/-- `FRA_CTRL`, R251. -/
def FRA_CTRL : Nat := 0x400F0000
def FRA_CTRL_GO : Fld := ⟨FRA_CTRL, 31, 31⟩
def FRA_CTRL_STOP : Fld := ⟨FRA_CTRL, 30, 30⟩
def FRA_CTRL_AT : Fld := ⟨FRA_CTRL, 29, 29⟩
def FRA_CTRL_PRBS : Fld := ⟨FRA_CTRL, 25, 24⟩
def FRA_CTRL_LAST : Fld := ⟨FRA_CTRL, 20, 16⟩
def FRA_CTRL_ENGINE : Fld := ⟨FRA_CTRL, 15, 12⟩
def FRA_CTRL_SLOT : Fld := ⟨FRA_CTRL, 11, 8⟩
def FRA_CTRL_MODE : Fld := ⟨FRA_CTRL, 1, 0⟩
def FRA_CTRL_row : RegRow := ⟨0x400F0000, 0x4, 1, 0x4, 1, 0x0, [fld 31 31 .w1s, fld 30 30 .w1s, fld 29 29 .rw, fld 25 24 .rw, fld 20 16 .rw, fld 15 12 .rw, fld 11 8 .rw, fldR 1 0 .rw 0 2]⟩
/-- `FRA_START_MFN`, R250. -/
def FRA_START_MFN : Nat := 0x400F0004
def FRA_START_MFN_MFN : Fld := ⟨FRA_START_MFN, 31, 0⟩
def FRA_START_MFN_row : RegRow := ⟨0x400F0004, 0x4, 1, 0x4, 1, 0x0, [fld 31 0 .rw]⟩
/-- `FRA_TIMING`, R252. -/
def FRA_TIMING : Nat := 0x400F0008
def FRA_TIMING_INTEG : Fld := ⟨FRA_TIMING, 31, 24⟩
def FRA_TIMING_SETTLE : Fld := ⟨FRA_TIMING, 23, 16⟩
def FRA_TIMING_PERIOD : Fld := ⟨FRA_TIMING, 10, 0⟩
def FRA_TIMING_row : RegRow := ⟨0x400F0008, 0x4, 1, 0x4, 1, 0x1000020, [fldR 31 24 .rw 1 255, fld 23 16 .rw, fldR 10 0 .rw 1 1024]⟩
/-- `FRA_AMP`, R250. -/
def FRA_AMP : Nat := 0x400F000C
def FRA_AMP_AMP : Fld := ⟨FRA_AMP, 30, 0⟩
def FRA_AMP_row : RegRow := ⟨0x400F000C, 0x4, 1, 0x4, 1, 0x0, [fld 30 0 .rw]⟩
/-- `FRA_PINC`, R250. -/
def FRA_PINC : Nat := 0x400F0010
def FRA_PINC_PINC : Fld := ⟨FRA_PINC, 31, 0⟩
def FRA_PINC_row : RegRow := ⟨0x400F0010, 0x4, 1, 0x4, 1, 0x0, [fld 31 0 .rw]⟩
/-- `FRA_WORDS`, R253. -/
def FRA_WORDS : Nat := 0x400F0014
def FRA_WORDS_CAP_EN : Fld := ⟨FRA_WORDS, 20, 20⟩
def FRA_WORDS_CAP_CH : Fld := ⟨FRA_WORDS, 19, 16⟩
def FRA_WORDS_WB : Fld := ⟨FRA_WORDS, 14, 8⟩
def FRA_WORDS_WA : Fld := ⟨FRA_WORDS, 6, 0⟩
def FRA_WORDS_row : RegRow := ⟨0x400F0014, 0x4, 1, 0x4, 1, 0x0, [fld 20 20 .rw, fld 19 16 .rw, fld 14 8 .rw, fld 6 0 .rw]⟩
/-- `FRA_STAT`, R254. -/
def FRA_STAT : Nat := 0x400F0018
def FRA_STAT_STEP : Fld := ⟨FRA_STAT, 20, 16⟩
def FRA_STAT_ERR : Fld := ⟨FRA_STAT, 15, 12⟩
def FRA_STAT_CAPFULL : Fld := ⟨FRA_STAT, 4, 4⟩
def FRA_STAT_FAIL : Fld := ⟨FRA_STAT, 3, 3⟩
def FRA_STAT_DONE : Fld := ⟨FRA_STAT, 2, 2⟩
def FRA_STAT_RUN : Fld := ⟨FRA_STAT, 1, 1⟩
def FRA_STAT_ARMED : Fld := ⟨FRA_STAT, 0, 0⟩
def FRA_STAT_row : RegRow := ⟨0x400F0018, 0x4, 1, 0x4, 1, 0x0, [fld 20 16 .ro, fld 15 12 .ro, fld 4 4 .w1c, fld 3 3 .w1c, fld 2 2 .w1c, fld 1 1 .ro, fld 0 0 .ro]⟩
/-- `FRA_SAMPLE`, R250. -/
def FRA_SAMPLE : Nat := 0x400F001C
def FRA_SAMPLE_SAMPLE : Fld := ⟨FRA_SAMPLE, 31, 0⟩
def FRA_SAMPLE_row : RegRow := ⟨0x400F001C, 0x4, 1, 0x4, 1, 0x0, [fld 31 0 .ro]⟩
/-- `FRA_STEP`, R250. -/
def FRA_STEP (k : Nat) : Nat := 0x400F0100 + 0x4 * k
def FRA_STEP_PINC (k : Nat) : Fld := ⟨FRA_STEP k, 31, 0⟩
def FRA_STEP_row : RegRow := ⟨0x400F0100, 0x4, 32, 0x4, 1, 0x0, [fld 31 0 .rw]⟩
/-- `FRA_RES_GAIN`, R250. -/
def FRA_RES_GAIN (k : Nat) : Nat := 0x400F0200 + 0x10 * k
def FRA_RES_GAIN_GAIN (k : Nat) : Fld := ⟨FRA_RES_GAIN k, 31, 0⟩
def FRA_RES_GAIN_row : RegRow := ⟨0x400F0200, 0x10, 32, 0x4, 1, 0x0, [fld 31 0 .ro]⟩
/-- `FRA_RES_PHASE`, R250. -/
def FRA_RES_PHASE (k : Nat) : Nat := 0x400F0204 + 0x10 * k
def FRA_RES_PHASE_PHASE (k : Nat) : Fld := ⟨FRA_RES_PHASE k, 31, 0⟩
def FRA_RES_PHASE_row : RegRow := ⟨0x400F0204, 0x10, 32, 0x4, 1, 0x0, [fld 31 0 .ro]⟩
/-- `FRA_RES_MAGA`, R250. -/
def FRA_RES_MAGA (k : Nat) : Nat := 0x400F0208 + 0x10 * k
def FRA_RES_MAGA_MAGA (k : Nat) : Fld := ⟨FRA_RES_MAGA k, 31, 0⟩
def FRA_RES_MAGA_row : RegRow := ⟨0x400F0208, 0x10, 32, 0x4, 1, 0x0, [fld 31 0 .ro]⟩
/-- `FRA_RES_N`, R250. -/
def FRA_RES_N (k : Nat) : Nat := 0x400F020C + 0x10 * k
def FRA_RES_N_VALID (k : Nat) : Fld := ⟨FRA_RES_N k, 31, 31⟩
def FRA_RES_N_ZERO_A (k : Nat) : Fld := ⟨FRA_RES_N k, 30, 30⟩
def FRA_RES_N_N (k : Nat) : Fld := ⟨FRA_RES_N k, 15, 0⟩
def FRA_RES_N_row : RegRow := ⟨0x400F020C, 0x10, 32, 0x4, 1, 0x0, [fld 31 31 .ro, fld 30 30 .ro, fld 15 0 .ro]⟩
/-- `FRA_AMP_LIM`, R250. -/
def FRA_AMP_LIM : Nat := 0x400F1000
def FRA_AMP_LIM_LIM : Fld := ⟨FRA_AMP_LIM, 30, 0⟩
def FRA_AMP_LIM_row : RegRow := ⟨0x400F1000, 0x4, 1, 0x4, 1, 0x0, [fld 30 0 .rw]⟩

/-! ## LDG registers -/

/-- `LDG_CTRL`, R396. -/
def LDG_CTRL : Nat := 0x40100000
def LDG_CTRL_TRIG_NOW : Fld := ⟨LDG_CTRL, 4, 4⟩
def LDG_CTRL_CNT_CLR : Fld := ⟨LDG_CTRL, 3, 3⟩
def LDG_CTRL_WAVE_AUTO : Fld := ⟨LDG_CTRL, 2, 2⟩
def LDG_CTRL_MIRROR_EN : Fld := ⟨LDG_CTRL, 1, 1⟩
def LDG_CTRL_FLUSH_EN : Fld := ⟨LDG_CTRL, 0, 0⟩
def LDG_CTRL_row : RegRow := ⟨0x40100000, 0x4, 1, 0x4, 1, 0x4, [fld 4 4 .w1s, fld 3 3 .wo, fld 2 2 .rw, fld 1 1 .rw, fld 0 0 .rw]⟩
/-- `LDG_STAT`, R396. -/
def LDG_STAT : Nat := 0x40100004
def LDG_STAT_PF_DONE : Fld := ⟨LDG_STAT, 5, 5⟩
def LDG_STAT_PF_ACTIVE : Fld := ⟨LDG_STAT, 4, 4⟩
def LDG_STAT_BLOCKED : Fld := ⟨LDG_STAT, 3, 3⟩
def LDG_STAT_RD_DONE : Fld := ⟨LDG_STAT, 2, 2⟩
def LDG_STAT_RD_BUSY : Fld := ⟨LDG_STAT, 1, 1⟩
def LDG_STAT_row : RegRow := ⟨0x40100004, 0x4, 1, 0x4, 1, 0x0, [fld 5 5 .w1c, fld 4 4 .ro, fld 3 3 .ro, fld 2 2 .w1c, fld 1 1 .ro]⟩
/-- `LDG_SEQ`, R396. -/
def LDG_SEQ : Nat := 0x40100008
def LDG_SEQ_SEQ : Fld := ⟨LDG_SEQ, 31, 0⟩
def LDG_SEQ_row : RegRow := ⟨0x40100008, 0x4, 1, 0x4, 1, 0x0, [fld 31 0 .ro]⟩
/-- `LDG_SEQ_BASE`, R396. -/
def LDG_SEQ_BASE : Nat := 0x4010000C
def LDG_SEQ_BASE_BASE : Fld := ⟨LDG_SEQ_BASE, 31, 0⟩
def LDG_SEQ_BASE_row : RegRow := ⟨0x4010000C, 0x4, 1, 0x4, 1, 0x0, [fld 31 0 .rw]⟩
/-- `LDG_FSEQ`, R396. -/
def LDG_FSEQ : Nat := 0x40100010
def LDG_FSEQ_SEQ : Fld := ⟨LDG_FSEQ, 31, 0⟩
def LDG_FSEQ_row : RegRow := ⟨0x40100010, 0x4, 1, 0x4, 1, 0x0, [fld 31 0 .ro]⟩
/-- `LDG_MSEQ`, R396. -/
def LDG_MSEQ : Nat := 0x40100014
def LDG_MSEQ_SEQ : Fld := ⟨LDG_MSEQ, 31, 0⟩
def LDG_MSEQ_row : RegRow := ⟨0x40100014, 0x4, 1, 0x4, 1, 0x0, [fld 31 0 .ro]⟩
/-- `LDG_CNT_LOSTF`, R396. -/
def LDG_CNT_LOSTF : Nat := 0x40100018
def LDG_CNT_LOSTF_COUNT : Fld := ⟨LDG_CNT_LOSTF, 31, 0⟩
def LDG_CNT_LOSTF_row : RegRow := ⟨0x40100018, 0x4, 1, 0x4, 1, 0x0, [fld 31 0 .ro]⟩
/-- `LDG_CNT_LOSTM`, R396. -/
def LDG_CNT_LOSTM : Nat := 0x4010001C
def LDG_CNT_LOSTM_COUNT : Fld := ⟨LDG_CNT_LOSTM, 31, 0⟩
def LDG_CNT_LOSTM_row : RegRow := ⟨0x4010001C, 0x4, 1, 0x4, 1, 0x0, [fld 31 0 .ro]⟩
/-- `LDG_CNT_DROP`, R396. -/
def LDG_CNT_DROP : Nat := 0x40100020
def LDG_CNT_DROP_COUNT : Fld := ⟨LDG_CNT_DROP, 31, 0⟩
def LDG_CNT_DROP_row : RegRow := ⟨0x40100020, 0x4, 1, 0x4, 1, 0x0, [fld 31 0 .ro]⟩
/-- `LDG_CNT_MIRX`, R396. -/
def LDG_CNT_MIRX : Nat := 0x40100024
def LDG_CNT_MIRX_COUNT : Fld := ⟨LDG_CNT_MIRX, 31, 0⟩
def LDG_CNT_MIRX_row : RegRow := ⟨0x40100024, 0x4, 1, 0x4, 1, 0x0, [fld 31 0 .ro]⟩
/-- `LDG_MR_OWN`, R396. -/
def LDG_MR_OWN : Nat := 0x40100030
def LDG_MR_OWN_BASE : Fld := ⟨LDG_MR_OWN, 27, 16⟩
def LDG_MR_OWN_LEN : Fld := ⟨LDG_MR_OWN, 11, 0⟩
def LDG_MR_OWN_row : RegRow := ⟨0x40100030, 0x4, 1, 0x4, 1, 0x0, [fld 27 16 .rw, fld 11 0 .rw]⟩
/-- `LDG_MR_PEER`, R396. -/
def LDG_MR_PEER : Nat := 0x40100034
def LDG_MR_PEER_BASE : Fld := ⟨LDG_MR_PEER, 27, 16⟩
def LDG_MR_PEER_LEN : Fld := ⟨LDG_MR_PEER, 11, 0⟩
def LDG_MR_PEER_row : RegRow := ⟨0x40100034, 0x4, 1, 0x4, 1, 0x0, [fld 27 16 .rw, fld 11 0 .rw]⟩
/-- `LDG_MR_WAVE`, R396. -/
def LDG_MR_WAVE : Nat := 0x40100038
def LDG_MR_WAVE_BASE : Fld := ⟨LDG_MR_WAVE, 27, 16⟩
def LDG_MR_WAVE_LEN : Fld := ⟨LDG_MR_WAVE, 11, 0⟩
def LDG_MR_WAVE_row : RegRow := ⟨0x40100038, 0x4, 1, 0x4, 1, 0x0, [fld 27 16 .rw, fld 11 0 .rw]⟩
/-- `LDG_MR_AUTH`, R396. -/
def LDG_MR_AUTH : Nat := 0x4010003C
def LDG_MR_AUTH_BASE : Fld := ⟨LDG_MR_AUTH, 27, 16⟩
def LDG_MR_AUTH_LEN : Fld := ⟨LDG_MR_AUTH, 11, 0⟩
def LDG_MR_AUTH_row : RegRow := ⟨0x4010003C, 0x4, 1, 0x4, 1, 0x0, [fld 27 16 .rw, fld 11 0 .rw]⟩
/-- `LDG_AUTH_WPTR`, R396. -/
def LDG_AUTH_WPTR : Nat := 0x40100040
def LDG_AUTH_WPTR_WPTR : Fld := ⟨LDG_AUTH_WPTR, 23, 0⟩
def LDG_AUTH_WPTR_row : RegRow := ⟨0x40100040, 0x4, 1, 0x4, 1, 0x0, [fld 23 0 .rw]⟩
/-- `LDG_PF`, R396. -/
def LDG_PF : Nat := 0x40100044
def LDG_PF_BUDGET_US : Fld := ⟨LDG_PF, 11, 0⟩
def LDG_PF_row : RegRow := ⟨0x40100044, 0x4, 1, 0x4, 1, 0xED8, [fldR 11 0 .rw 100 3900]⟩
/-- `LDG_ERR`, R396. -/
def LDG_ERR : Nat := 0x40100048
def LDG_ERR_VALUE : Fld := ⟨LDG_ERR, 31, 16⟩
def LDG_ERR_ERRV : Fld := ⟨LDG_ERR, 15, 15⟩
def LDG_ERR_CODE : Fld := ⟨LDG_ERR, 3, 0⟩
def LDG_ERR_row : RegRow := ⟨0x40100048, 0x4, 1, 0x4, 1, 0x0, [fld 31 16 .ro, fld 15 15 .w1c, fld 3 0 .ro]⟩
/-- `LDG_WCH`, R396. -/
def LDG_WCH (k : Nat) : Nat := 0x40100080 + 0x4 * k
def LDG_WCH_ARM (k : Nat) : Fld := ⟨LDG_WCH k, 31, 31⟩
def LDG_WCH_SRC (k : Nat) : Fld := ⟨LDG_WCH k, 9, 8⟩
def LDG_WCH_LINK (k : Nat) : Fld := ⟨LDG_WCH k, 6, 0⟩
def LDG_WCH_row : RegRow := ⟨0x40100080, 0x4, 16, 0x4, 1, 0x0, [fld 31 31 .w1s, fldR 9 8 .rw 0 2, fldR 6 0 .rw 0 95]⟩
/-- `LDG_WST`, R396. -/
def LDG_WST (k : Nat) : Nat := 0x401000C0 + 0x4 * k
def LDG_WST_FROZEN (k : Nat) : Fld := ⟨LDG_WST k, 31, 31⟩
def LDG_WST_SAVED (k : Nat) : Fld := ⟨LDG_WST k, 30, 30⟩
def LDG_WST_FILL (k : Nat) : Fld := ⟨LDG_WST k, 29, 16⟩
def LDG_WST_WIDX (k : Nat) : Fld := ⟨LDG_WST k, 12, 0⟩
def LDG_WST_row : RegRow := ⟨0x401000C0, 0x4, 16, 0x4, 1, 0x0, [fld 31 31 .ro, fld 30 30 .ro, fld 29 16 .ro, fld 12 0 .ro]⟩
/-- `LDG_TRIG`, R396. -/
def LDG_TRIG : Nat := 0x40100100
def LDG_TRIG_EV_EN : Fld := ⟨LDG_TRIG, 31, 31⟩
def LDG_TRIG_TRIP_EN : Fld := ⟨LDG_TRIG, 30, 30⟩
def LDG_TRIG_ANYCAUSE : Fld := ⟨LDG_TRIG, 29, 29⟩
def LDG_TRIG_SRC : Fld := ⟨LDG_TRIG, 16, 8⟩
def LDG_TRIG_CAUSE : Fld := ⟨LDG_TRIG, 7, 0⟩
def LDG_TRIG_row : RegRow := ⟨0x40100100, 0x4, 1, 0x4, 1, 0x0, [fld 31 31 .rw, fld 30 30 .rw, fld 29 29 .rw, fld 16 8 .rw, fld 7 0 .rw]⟩
/-- `LDG_PRE`, R396. -/
def LDG_PRE : Nat := 0x40100104
def LDG_PRE_PRE : Fld := ⟨LDG_PRE, 12, 0⟩
def LDG_PRE_row : RegRow := ⟨0x40100104, 0x4, 1, 0x4, 1, 0x1000, [fld 12 0 .rw]⟩
/-- `LDG_TRIG_STAT`, R396. -/
def LDG_TRIG_STAT : Nat := 0x40100108
def LDG_TRIG_STAT_VALID : Fld := ⟨LDG_TRIG_STAT, 31, 31⟩
def LDG_TRIG_STAT_MISSED : Fld := ⟨LDG_TRIG_STAT, 23, 16⟩
def LDG_TRIG_STAT_TRIG_POS : Fld := ⟨LDG_TRIG_STAT, 12, 0⟩
def LDG_TRIG_STAT_row : RegRow := ⟨0x40100108, 0x4, 1, 0x4, 1, 0x0, [fld 31 31 .w1c, fld 23 16 .ro, fld 12 0 .ro]⟩
/-- `LDG_RD_CTRL`, R396. -/
def LDG_RD_CTRL : Nat := 0x40100140
def LDG_RD_CTRL_GO : Fld := ⟨LDG_RD_CTRL, 31, 31⟩
def LDG_RD_CTRL_RING : Fld := ⟨LDG_RD_CTRL, 30, 30⟩
def LDG_RD_CTRL_CH : Fld := ⟨LDG_RD_CTRL, 23, 20⟩
def LDG_RD_CTRL_COUNT : Fld := ⟨LDG_RD_CTRL, 16, 0⟩
def LDG_RD_CTRL_row : RegRow := ⟨0x40100140, 0x4, 1, 0x4, 1, 0x0, [fld 31 31 .w1s, fld 30 30 .rw, fld 23 20 .rw, fld 16 0 .rw]⟩
/-- `LDG_RD_START`, R396. -/
def LDG_RD_START : Nat := 0x40100144
def LDG_RD_START_START : Fld := ⟨LDG_RD_START, 14, 0⟩
def LDG_RD_START_row : RegRow := ⟨0x40100144, 0x4, 1, 0x4, 1, 0x0, [fld 14 0 .rw]⟩
/-- `LDG_RD_DST`, R396. -/
def LDG_RD_DST : Nat := 0x40100148
def LDG_RD_DST_ADDR : Fld := ⟨LDG_RD_DST, 31, 2⟩
def LDG_RD_DST_row : RegRow := ⟨0x40100148, 0x4, 1, 0x4, 1, 0x0, [fld 31 2 .rw]⟩

/-! ## LNK registers -/

/-- `LNK_CTRL`, R88. -/
def LNK_CTRL (k : Nat) : Nat := 0x41000000 + 0x400 * k
def LNK_CTRL_CNT_CLR (k : Nat) : Fld := ⟨LNK_CTRL k, 15, 15⟩
def LNK_CTRL_ROLE (k : Nat) : Fld := ⟨LNK_CTRL k, 13, 12⟩
def LNK_CTRL_ACT_SRC (k : Nat) : Fld := ⟨LNK_CTRL k, 11, 11⟩
def LNK_CTRL_AUTO_REMEAS (k : Nat) : Fld := ⟨LNK_CTRL k, 10, 10⟩
def LNK_CTRL_AUTO_RETRAIN (k : Nat) : Fld := ⟨LNK_CTRL k, 9, 9⟩
def LNK_CTRL_TRAIN (k : Nat) : Fld := ⟨LNK_CTRL k, 1, 1⟩
def LNK_CTRL_EN (k : Nat) : Fld := ⟨LNK_CTRL k, 0, 0⟩
def LNK_CTRL_row : RegRow := ⟨0x41000000, 0x400, 96, 0x4, 1, 0x600, [fld 15 15 .wo, fld 13 12 .rw, fld 11 11 .rw, fld 10 10 .rw, fld 9 9 .rw, fld 1 1 .w1s, fld 0 0 .rw]⟩
/-- `LNK_STATUS`, R89. -/
def LNK_STATUS (k : Nat) : Nat := 0x41000004 + 0x400 * k
def LNK_STATUS_STALE_CNT (k : Nat) : Fld := ⟨LNK_STATUS k, 31, 24⟩
def LNK_STATUS_IMAGE_VALID (k : Nat) : Fld := ⟨LNK_STATUS k, 15, 15⟩
def LNK_STATUS_ROLE_OK (k : Nat) : Fld := ⟨LNK_STATUS k, 14, 14⟩
def LNK_STATUS_AUTONOMOUS (k : Nat) : Fld := ⟨LNK_STATUS k, 13, 13⟩
def LNK_STATUS_WDOG (k : Nat) : Fld := ⟨LNK_STATUS k, 12, 12⟩
def LNK_STATUS_LOST_EV (k : Nat) : Fld := ⟨LNK_STATUS k, 11, 11⟩
def LNK_STATUS_BOOT (k : Nat) : Fld := ⟨LNK_STATUS k, 7, 4⟩
def LNK_STATUS_STATE (k : Nat) : Fld := ⟨LNK_STATUS k, 3, 0⟩
def LNK_STATUS_row : RegRow := ⟨0x41000004, 0x400, 96, 0x4, 1, 0x0, [fld 31 24 .ro, fld 15 15 .ro, fld 14 14 .ro, fld 13 13 .ro, fld 12 12 .w1c, fld 11 11 .w1c, fld 7 4 .ro, fld 3 0 .ro]⟩
/-- `LNK_ERR`, R90. -/
def LNK_ERR (k : Nat) : Nat := 0x41000008 + 0x400 * k
def LNK_ERR_VALUE (k : Nat) : Fld := ⟨LNK_ERR k, 31, 16⟩
def LNK_ERR_ERRV (k : Nat) : Fld := ⟨LNK_ERR k, 15, 15⟩
def LNK_ERR_CODE (k : Nat) : Fld := ⟨LNK_ERR k, 3, 0⟩
def LNK_ERR_row : RegRow := ⟨0x41000008, 0x400, 96, 0x4, 1, 0x0, [fld 31 16 .ro, fld 15 15 .w1c, fld 3 0 .ro]⟩
/-- `LNK_TIMING`, R91. -/
def LNK_TIMING (k : Nat) : Nat := 0x4100000C + 0x400 * k
def LNK_TIMING_OFS (k : Nat) : Fld := ⟨LNK_TIMING k, 31, 24⟩
def LNK_TIMING_RTT (k : Nat) : Fld := ⟨LNK_TIMING k, 19, 9⟩
def LNK_TIMING_ADV (k : Nat) : Fld := ⟨LNK_TIMING k, 8, 0⟩
def LNK_TIMING_row : RegRow := ⟨0x4100000C, 0x400, 96, 0x4, 1, 0x0, [fld 31 24 .ro, fld 19 9 .ro, fld 8 0 .ro]⟩
/-- `LNK_WDOG`, R92. -/
def LNK_WDOG (k : Nat) : Nat := 0x41000010 + 0x400 * k
def LNK_WDOG_BOOT_TMO (k : Nat) : Fld := ⟨LNK_WDOG k, 27, 16⟩
def LNK_WDOG_CMD_TMO (k : Nat) : Fld := ⟨LNK_WDOG k, 15, 8⟩
def LNK_WDOG_LIMIT (k : Nat) : Fld := ⟨LNK_WDOG k, 7, 0⟩
def LNK_WDOG_row : RegRow := ⟨0x41000010, 0x400, 96, 0x4, 1, 0x1001008, [fldR 27 16 .rw 1 4095, fldR 15 8 .rw 1 255, fld 7 0 .rw]⟩
/-- `LNK_CMD`, R93. -/
def LNK_CMD (k : Nat) : Nat := 0x41000014 + 0x400 * k
def LNK_CMD_ARG (k : Nat) : Fld := ⟨LNK_CMD k, 23, 8⟩
def LNK_CMD_OP (k : Nat) : Fld := ⟨LNK_CMD k, 7, 0⟩
def LNK_CMD_row : RegRow := ⟨0x41000014, 0x400, 96, 0x4, 1, 0x0, [fld 23 8 .rw, fld 7 0 .rw]⟩
/-- `LNK_CMD_STAT`, R94. -/
def LNK_CMD_STAT (k : Nat) : Nat := 0x41000018 + 0x400 * k
def LNK_CMD_STAT_FAIL (k : Nat) : Fld := ⟨LNK_CMD_STAT k, 2, 2⟩
def LNK_CMD_STAT_DONE (k : Nat) : Fld := ⟨LNK_CMD_STAT k, 1, 1⟩
def LNK_CMD_STAT_BUSY (k : Nat) : Fld := ⟨LNK_CMD_STAT k, 0, 0⟩
def LNK_CMD_STAT_row : RegRow := ⟨0x41000018, 0x400, 96, 0x4, 1, 0x0, [fld 2 2 .w1c, fld 1 1 .w1c, fld 0 0 .ro]⟩
/-- `LNK_ACT`, R95. -/
def LNK_ACT (k : Nat) : Nat := 0x4100001C + 0x400 * k
def LNK_ACT_ACTB (k : Nat) : Fld := ⟨LNK_ACT k, 31, 16⟩
def LNK_ACT_ACTA (k : Nat) : Fld := ⟨LNK_ACT k, 15, 0⟩
def LNK_ACT_row : RegRow := ⟨0x4100001C, 0x400, 96, 0x4, 1, 0x0, [fld 31 16 .rw, fld 15 0 .rw]⟩
/-- `LNK_BOOT`, R96. -/
def LNK_BOOT (k : Nat) : Nat := 0x41000020 + 0x400 * k
def LNK_BOOT_DESC (k : Nat) : Fld := ⟨LNK_BOOT k, 29, 28⟩
def LNK_BOOT_EN (k : Nat) : Fld := ⟨LNK_BOOT k, 16, 16⟩
def LNK_BOOT_THOLD_MS (k : Nat) : Fld := ⟨LNK_BOOT k, 13, 0⟩
def LNK_BOOT_row : RegRow := ⟨0x41000020, 0x400, 96, 0x4, 1, 0x64, [fld 29 28 .rw, fld 16 16 .rw, fldR 13 0 .rw 1 10000]⟩
/-- `LNK_CNT_CRC`, R97. -/
def LNK_CNT_CRC (k : Nat) : Nat := 0x41000040 + 0x400 * k
def LNK_CNT_CRC_COUNT (k : Nat) : Fld := ⟨LNK_CNT_CRC k, 31, 0⟩
def LNK_CNT_CRC_row : RegRow := ⟨0x41000040, 0x400, 96, 0x4, 1, 0x0, [fld 31 0 .ro]⟩
/-- `LNK_CNT_CODE`, R97. -/
def LNK_CNT_CODE (k : Nat) : Nat := 0x41000044 + 0x400 * k
def LNK_CNT_CODE_COUNT (k : Nat) : Fld := ⟨LNK_CNT_CODE k, 31, 0⟩
def LNK_CNT_CODE_row : RegRow := ⟨0x41000044, 0x400, 96, 0x4, 1, 0x0, [fld 31 0 .ro]⟩
/-- `LNK_CNT_SEQ`, R97. -/
def LNK_CNT_SEQ (k : Nat) : Nat := 0x41000048 + 0x400 * k
def LNK_CNT_SEQ_COUNT (k : Nat) : Fld := ⟨LNK_CNT_SEQ k, 31, 0⟩
def LNK_CNT_SEQ_row : RegRow := ⟨0x41000048, 0x400, 96, 0x4, 1, 0x0, [fld 31 0 .ro]⟩
/-- `LNK_CNT_TRIPX`, R97. -/
def LNK_CNT_TRIPX (k : Nat) : Nat := 0x4100004C + 0x400 * k
def LNK_CNT_TRIPX_COUNT (k : Nat) : Fld := ⟨LNK_CNT_TRIPX k, 31, 0⟩
def LNK_CNT_TRIPX_row : RegRow := ⟨0x4100004C, 0x400, 96, 0x4, 1, 0x0, [fld 31 0 .ro]⟩
/-- `LNK_CNT_OVF`, R97. -/
def LNK_CNT_OVF (k : Nat) : Nat := 0x41000050 + 0x400 * k
def LNK_CNT_OVF_COUNT (k : Nat) : Fld := ⟨LNK_CNT_OVF k, 31, 0⟩
def LNK_CNT_OVF_row : RegRow := ⟨0x41000050, 0x400, 96, 0x4, 1, 0x0, [fld 31 0 .ro]⟩
/-- `LNK_CNT_LATE`, R97. -/
def LNK_CNT_LATE (k : Nat) : Nat := 0x41000054 + 0x400 * k
def LNK_CNT_LATE_COUNT (k : Nat) : Fld := ⟨LNK_CNT_LATE k, 31, 0⟩
def LNK_CNT_LATE_row : RegRow := ⟨0x41000054, 0x400, 96, 0x4, 1, 0x0, [fld 31 0 .ro]⟩
/-- `LNK_CNT_TRIP`, R97. -/
def LNK_CNT_TRIP (k : Nat) : Nat := 0x41000058 + 0x400 * k
def LNK_CNT_TRIP_COUNT (k : Nat) : Fld := ⟨LNK_CNT_TRIP k, 31, 0⟩
def LNK_CNT_TRIP_row : RegRow := ⟨0x41000058, 0x400, 96, 0x4, 1, 0x0, [fld 31 0 .ro]⟩
/-- `LNK_PROT_CTRL`, R264. -/
def LNK_PROT_CTRL (k : Nat) : Nat := 0x41000100 + 0x400 * k
def LNK_PROT_CTRL_UV_EV (k : Nat) : Fld := ⟨LNK_PROT_CTRL k, 3, 3⟩
def LNK_PROT_CTRL_OV_EV (k : Nat) : Fld := ⟨LNK_PROT_CTRL k, 2, 2⟩
def LNK_PROT_CTRL_UV_ACT (k : Nat) : Fld := ⟨LNK_PROT_CTRL k, 1, 1⟩
def LNK_PROT_CTRL_OV_ACT (k : Nat) : Fld := ⟨LNK_PROT_CTRL k, 0, 0⟩
def LNK_PROT_CTRL_row : RegRow := ⟨0x41000100, 0x400, 96, 0x4, 1, 0x0, [fld 3 3 .w1c, fld 2 2 .w1c, fld 1 1 .rw, fld 0 0 .rw]⟩
/-- `LNK_PROT_ILIM`, R264. -/
def LNK_PROT_ILIM (k : Nat) : Nat := 0x41000104 + 0x400 * k
def LNK_PROT_ILIM_RFT_CEIL (k : Nat) : Fld := ⟨LNK_PROT_ILIM k, 30, 16⟩
def LNK_PROT_ILIM_FT_CEIL (k : Nat) : Fld := ⟨LNK_PROT_ILIM k, 14, 0⟩
def LNK_PROT_ILIM_row : RegRow := ⟨0x41000104, 0x400, 96, 0x4, 1, 0x7FFF7530, [fld 30 16 .rw, fld 14 0 .rw]⟩
/-- `LNK_PROT_VLIM`, R264. -/
def LNK_PROT_VLIM (k : Nat) : Nat := 0x41000108 + 0x400 * k
def LNK_PROT_VLIM_UV_FLOOR (k : Nat) : Fld := ⟨LNK_PROT_VLIM k, 30, 16⟩
def LNK_PROT_VLIM_OV_CEIL (k : Nat) : Fld := ⟨LNK_PROT_VLIM k, 14, 0⟩
def LNK_PROT_VLIM_row : RegRow := ⟨0x41000108, 0x400, 96, 0x4, 1, 0x7FFF, [fld 30 16 .rw, fld 14 0 .rw]⟩
/-- `LNK_PROT_IEFF`, R264. -/
def LNK_PROT_IEFF (k : Nat) : Nat := 0x4100010C + 0x400 * k
def LNK_PROT_IEFF_TRIP_FT (k : Nat) : Fld := ⟨LNK_PROT_IEFF k, 30, 16⟩
def LNK_PROT_IEFF_FT_EFF (k : Nat) : Fld := ⟨LNK_PROT_IEFF k, 14, 0⟩
def LNK_PROT_IEFF_row : RegRow := ⟨0x4100010C, 0x400, 96, 0x4, 1, 0x7FFF7530, [fld 30 16 .ro, fld 14 0 .ro]⟩
/-- `LNK_PROT_VEFF`, R264. -/
def LNK_PROT_VEFF (k : Nat) : Nat := 0x41000110 + 0x400 * k
def LNK_PROT_VEFF_UV_EFF (k : Nat) : Fld := ⟨LNK_PROT_VEFF k, 30, 16⟩
def LNK_PROT_VEFF_OV_EFF (k : Nat) : Fld := ⟨LNK_PROT_VEFF k, 14, 0⟩
def LNK_PROT_VEFF_row : RegRow := ⟨0x41000110, 0x400, 96, 0x4, 1, 0x7FFF, [fld 30 16 .ro, fld 14 0 .ro]⟩

/-! ## LNKG registers -/

/-- `LNK_BIMG_ADDR`, R98. -/
def LNK_BIMG_ADDR (k : Nat) : Nat := 0x41018000 + 0x8 * k
def LNK_BIMG_ADDR_ADDR (k : Nat) : Fld := ⟨LNK_BIMG_ADDR k, 31, 3⟩
def LNK_BIMG_ADDR_row : RegRow := ⟨0x41018000, 0x8, 4, 0x4, 1, 0x0, [fld 31 3 .rw]⟩
/-- `LNK_BIMG_LEN`, R98. -/
def LNK_BIMG_LEN (k : Nat) : Nat := 0x41018004 + 0x8 * k
def LNK_BIMG_LEN_BLOCKS (k : Nat) : Fld := ⟨LNK_BIMG_LEN k, 15, 0⟩
def LNK_BIMG_LEN_row : RegRow := ⟨0x41018004, 0x8, 4, 0x4, 1, 0x0, [fld 15 0 .rw]⟩
/-- `LNK_BGO`, R98. -/
def LNK_BGO : Nat := 0x41018020
def LNK_BGO_GO : Fld := ⟨LNK_BGO, 3, 0⟩
def LNK_BGO_row : RegRow := ⟨0x41018020, 0x4, 1, 0x4, 1, 0x0, [fld 3 0 .w1s]⟩
/-- `LNK_BSTAT`, R98. -/
def LNK_BSTAT : Nat := 0x41018024
def LNK_BSTAT_DONE : Fld := ⟨LNK_BSTAT, 7, 4⟩
def LNK_BSTAT_row : RegRow := ⟨0x41018024, 0x4, 1, 0x4, 1, 0x0, [fld 7 4 .w1c]⟩
/-- `LNK_BERR`, R98. -/
def LNK_BERR : Nat := 0x41018028
def LNK_BERR_VALUE : Fld := ⟨LNK_BERR, 31, 16⟩
def LNK_BERR_ERRV : Fld := ⟨LNK_BERR, 15, 15⟩
def LNK_BERR_CODE : Fld := ⟨LNK_BERR, 3, 0⟩
def LNK_BERR_row : RegRow := ⟨0x41018028, 0x4, 1, 0x4, 1, 0x0, [fld 31 16 .ro, fld 15 15 .w1c, fld 3 0 .ro]⟩
/-- `LNK_EPOCH`, R120. -/
def LNK_EPOCH : Nat := 0x41018040
def LNK_EPOCH_HOLDER : Fld := ⟨LNK_EPOCH, 31, 31⟩
def LNK_EPOCH_COUNTER : Fld := ⟨LNK_EPOCH, 15, 1⟩
def LNK_EPOCH_UNIT : Fld := ⟨LNK_EPOCH, 0, 0⟩
def LNK_EPOCH_row : RegRow := ⟨0x41018040, 0x4, 1, 0x4, 1, 0x0, [fld 31 31 .ro, fld 15 1 .ro, fld 0 0 .ro]⟩
/-- `LNK_RESEIZE`, R119. -/
def LNK_RESEIZE (k : Nat) : Nat := 0x41018050 + 0x4 * k
def LNK_RESEIZE_BITS (k : Nat) : Fld := ⟨LNK_RESEIZE k, 31, 0⟩
def LNK_RESEIZE_row : RegRow := ⟨0x41018050, 0x4, 3, 0x4, 1, 0x0, [fld 31 0 .w1s]⟩
/-- `LNK_SEIZED`, R119. -/
def LNK_SEIZED (k : Nat) : Nat := 0x41018060 + 0x4 * k
def LNK_SEIZED_BITS (k : Nat) : Fld := ⟨LNK_SEIZED k, 31, 0⟩
def LNK_SEIZED_row : RegRow := ⟨0x41018060, 0x4, 3, 0x4, 1, 0x0, [fld 31 0 .ro]⟩
/-- `LNK_AUTHOK`, R119. -/
def LNK_AUTHOK (k : Nat) : Nat := 0x41018070 + 0x4 * k
def LNK_AUTHOK_BITS (k : Nat) : Fld := ⟨LNK_AUTHOK k, 31, 0⟩
def LNK_AUTHOK_row : RegRow := ⟨0x41018070, 0x4, 3, 0x4, 1, 0x0, [fld 31 0 .ro]⟩
/-- `LNK_AUDITOK`, R119. -/
def LNK_AUDITOK (k : Nat) : Nat := 0x41018080 + 0x4 * k
def LNK_AUDITOK_BITS (k : Nat) : Fld := ⟨LNK_AUDITOK k, 31, 0⟩
def LNK_AUDITOK_row : RegRow := ⟨0x41018080, 0x4, 3, 0x4, 1, 0x0, [fld 31 0 .ro]⟩
/-- `LNK_CNT_ROLEX`, R119. -/
def LNK_CNT_ROLEX : Nat := 0x41018090
def LNK_CNT_ROLEX_COUNT : Fld := ⟨LNK_CNT_ROLEX, 31, 0⟩
def LNK_CNT_ROLEX_row : RegRow := ⟨0x41018090, 0x4, 1, 0x4, 1, 0x0, [fld 31 0 .ro]⟩
/-- `LNK_CNT_AUTHX`, R119. -/
def LNK_CNT_AUTHX : Nat := 0x41018094
def LNK_CNT_AUTHX_COUNT : Fld := ⟨LNK_CNT_AUTHX, 31, 0⟩
def LNK_CNT_AUTHX_row : RegRow := ⟨0x41018094, 0x4, 1, 0x4, 1, 0x0, [fld 31 0 .ro]⟩
/-- `LNK_CNT_AUDITX`, R119. -/
def LNK_CNT_AUDITX : Nat := 0x41018098
def LNK_CNT_AUDITX_COUNT : Fld := ⟨LNK_CNT_AUDITX, 31, 0⟩
def LNK_CNT_AUDITX_row : RegRow := ⟨0x41018098, 0x4, 1, 0x4, 1, 0x0, [fld 31 0 .ro]⟩
/-- `LNK_CNT_AUTON`, R119. -/
def LNK_CNT_AUTON : Nat := 0x4101809C
def LNK_CNT_AUTON_COUNT : Fld := ⟨LNK_CNT_AUTON, 31, 0⟩
def LNK_CNT_AUTON_row : RegRow := ⟨0x4101809C, 0x4, 1, 0x4, 1, 0x0, [fld 31 0 .ro]⟩

/-! ## FSM registers -/

/-- `FSM_CTRL`, R286. -/
def FSM_CTRL (k : Nat) : Nat := 0x42000000 + 0x100 * k
def FSM_CTRL_CNT_CLR (k : Nat) : Fld := ⟨FSM_CTRL k, 5, 5⟩
def FSM_CTRL_CLEAR (k : Nat) : Fld := ⟨FSM_CTRL k, 4, 4⟩
def FSM_CTRL_OFF (k : Nat) : Fld := ⟨FSM_CTRL k, 3, 3⟩
def FSM_CTRL_ON (k : Nat) : Fld := ⟨FSM_CTRL k, 2, 2⟩
def FSM_CTRL_ADOPT (k : Nat) : Fld := ⟨FSM_CTRL k, 1, 1⟩
def FSM_CTRL_EN (k : Nat) : Fld := ⟨FSM_CTRL k, 0, 0⟩
def FSM_CTRL_row : RegRow := ⟨0x42000000, 0x100, 96, 0x4, 1, 0x0, [fld 5 5 .wo, fld 4 4 .w1s, fld 3 3 .w1s, fld 2 2 .w1s, fld 1 1 .w1s, fld 0 0 .rw]⟩
/-- `FSM_STATUS`, R286. -/
def FSM_STATUS (k : Nat) : Nat := 0x42000004 + 0x100 * k
def FSM_STATUS_CAUSE (k : Nat) : Fld := ⟨FSM_STATUS k, 31, 28⟩
def FSM_STATUS_N (k : Nat) : Fld := ⟨FSM_STATUS k, 27, 24⟩
def FSM_STATUS_FROZEN (k : Nat) : Fld := ⟨FSM_STATUS k, 23, 23⟩
def FSM_STATUS_PRES (k : Nat) : Fld := ⟨FSM_STATUS k, 22, 22⟩
def FSM_STATUS_BLANK (k : Nat) : Fld := ⟨FSM_STATUS k, 21, 21⟩
def FSM_STATUS_EXPIRED (k : Nat) : Fld := ⟨FSM_STATUS k, 20, 20⟩
def FSM_STATUS_SIDE (k : Nat) : Fld := ⟨FSM_STATUS k, 19, 19⟩
def FSM_STATUS_PHASE (k : Nat) : Fld := ⟨FSM_STATUS k, 18, 18⟩
def FSM_STATUS_STATE (k : Nat) : Fld := ⟨FSM_STATUS k, 3, 0⟩
def FSM_STATUS_row : RegRow := ⟨0x42000004, 0x100, 96, 0x4, 1, 0x0, [fld 31 28 .ro, fld 27 24 .ro, fld 23 23 .ro, fld 22 22 .ro, fld 21 21 .ro, fld 20 20 .ro, fld 19 19 .ro, fld 18 18 .ro, fld 3 0 .ro]⟩
/-- `FSM_CFG`, R286. -/
def FSM_CFG (k : Nat) : Nat := 0x42000008 + 0x100 * k
def FSM_CFG_AUTO (k : Nat) : Fld := ⟨FSM_CFG k, 31, 31⟩
def FSM_CFG_PREF (k : Nat) : Fld := ⟨FSM_CFG k, 30, 30⟩
def FSM_CFG_RET_EN (k : Nat) : Fld := ⟨FSM_CFG k, 29, 29⟩
def FSM_CFG_RMAX (k : Nat) : Fld := ⟨FSM_CFG k, 27, 24⟩
def FSM_CFG_BASE_MS (k : Nat) : Fld := ⟨FSM_CFG k, 13, 0⟩
def FSM_CFG_row : RegRow := ⟨0x42000008, 0x100, 96, 0x4, 1, 0x23000064, [fld 31 31 .rw, fld 30 30 .rw, fld 29 29 .rw, fld 27 24 .rw, fldR 13 0 .rw 10 10000]⟩
/-- `FSM_TIME`, R286. -/
def FSM_TIME (k : Nat) : Nat := 0x4200000C + 0x100 * k
def FSM_TIME_PRE_MS (k : Nat) : Fld := ⟨FSM_TIME k, 29, 20⟩
def FSM_TIME_LIM_MS (k : Nat) : Fld := ⟨FSM_TIME k, 19, 10⟩
def FSM_TIME_RAMP_TMO (k : Nat) : Fld := ⟨FSM_TIME k, 9, 0⟩
def FSM_TIME_row : RegRow := ⟨0x4200000C, 0x100, 96, 0x4, 1, 0xA05064, [fldR 29 20 .rw 1 1000, fldR 19 10 .rw 1 1000, fldR 9 0 .rw 1 1000]⟩
/-- `FSM_PRES`, R286. -/
def FSM_PRES (k : Nat) : Nat := 0x42000010 + 0x100 * k
def FSM_PRES_CLR_S (k : Nat) : Fld := ⟨FSM_PRES k, 31, 20⟩
def FSM_PRES_REINS (k : Nat) : Fld := ⟨FSM_PRES k, 19, 10⟩
def FSM_PRES_DB_MS (k : Nat) : Fld := ⟨FSM_PRES k, 9, 0⟩
def FSM_PRES_row : RegRow := ⟨0x42000010, 0x100, 96, 0x4, 1, 0xA05032, [fldR 31 20 .rw 1 3600, fldR 19 10 .rw 1 600, fldR 9 0 .rw 1 1000]⟩
/-- `FSM_SIDE`, R286. -/
def FSM_SIDE (k : Nat) : Nat := 0x42000014 + 0x100 * k
def FSM_SIDE_RET_S (k : Nat) : Fld := ⟨FSM_SIDE k, 29, 24⟩
def FSM_SIDE_SIDE_T (k : Nat) : Fld := ⟨FSM_SIDE k, 23, 14⟩
def FSM_SIDE_DT (k : Nat) : Fld := ⟨FSM_SIDE k, 6, 0⟩
def FSM_SIDE_row : RegRow := ⟨0x42000014, 0x100, 96, 0x4, 1, 0xA0C800A, [fldR 29 24 .rw 1 60, fldR 23 14 .rw 10 1000, fldR 6 0 .rw 2 100]⟩
/-- `FSM_INWIN`, R286. -/
def FSM_INWIN (k : Nat) : Nat := 0x42000018 + 0x100 * k
def FSM_INWIN_IN_MAX (k : Nat) : Fld := ⟨FSM_INWIN k, 30, 16⟩
def FSM_INWIN_IN_MIN (k : Nat) : Fld := ⟨FSM_INWIN k, 14, 0⟩
def FSM_INWIN_row : RegRow := ⟨0x42000018, 0x100, 96, 0x4, 1, 0x7FFF76C0, [fld 30 16 .rw, fld 14 0 .rw]⟩
/-- `FSM_RAMPCK`, R286. -/
def FSM_RAMPCK (k : Nat) : Nat := 0x4200001C + 0x100 * k
def FSM_RAMPCK_SOA (k : Nat) : Fld := ⟨FSM_RAMPCK k, 31, 20⟩
def FSM_RAMPCK_RS_V (k : Nat) : Fld := ⟨FSM_RAMPCK k, 19, 10⟩
def FSM_RAMPCK_DONE_DV (k : Nat) : Fld := ⟨FSM_RAMPCK k, 9, 0⟩
def FSM_RAMPCK_row : RegRow := ⟨0x4200001C, 0x100, 96, 0x4, 1, 0xFA05004, [fldR 31 20 .rw 1 4095, fldR 19 10 .rw 1 819, fldR 9 0 .rw 1 819]⟩
/-- `FSM_SHORT`, R286. -/
def FSM_SHORT (k : Nat) : Nat := 0x42000020 + 0x100 * k
def FSM_SHORT_RS_T (k : Nat) : Fld := ⟨FSM_SHORT k, 31, 22⟩
def FSM_SHORT_RS_I (k : Nat) : Fld := ⟨FSM_SHORT k, 21, 14⟩
def FSM_SHORT_row : RegRow := ⟨0x42000020, 0x100, 96, 0x4, 1, 0x19050000, [fldR 31 22 .rw 10 1000, fldR 21 14 .rw 1 255]⟩
/-- `FSM_FSHORT`, R286. -/
def FSM_FSHORT (k : Nat) : Nat := 0x42000024 + 0x100 * k
def FSM_FSHORT_FS_T (k : Nat) : Fld := ⟨FSM_FSHORT k, 25, 16⟩
def FSM_FSHORT_FS_V (k : Nat) : Fld := ⟨FSM_FSHORT k, 9, 0⟩
def FSM_FSHORT_row : RegRow := ⟨0x42000024, 0x100, 96, 0x4, 1, 0x140032, [fldR 25 16 .rw 1 1000, fldR 9 0 .rw 1 819]⟩
/-- `FSM_MEAS`, R286. -/
def FSM_MEAS (k : Nat) : Nat := 0x42000028 + 0x100 * k
def FSM_MEAS_V (k : Nat) : Fld := ⟨FSM_MEAS k, 31, 16⟩
def FSM_MEAS_I (k : Nat) : Fld := ⟨FSM_MEAS k, 15, 0⟩
def FSM_MEAS_row : RegRow := ⟨0x42000028, 0x100, 96, 0x4, 1, 0x0, [fld 31 16 .ro, fld 15 0 .ro]⟩
/-- `FSM_PWR`, R286. -/
def FSM_PWR (k : Nat) : Nat := 0x4200002C + 0x100 * k
def FSM_PWR_P (k : Nat) : Fld := ⟨FSM_PWR k, 31, 0⟩
def FSM_PWR_row : RegRow := ⟨0x4200002C, 0x100, 96, 0x4, 1, 0x0, [fld 31 0 .ro]⟩
/-- `FSM_SOA_USED`, R286. -/
def FSM_SOA_USED (k : Nat) : Nat := 0x42000030 + 0x100 * k
def FSM_SOA_USED_USED (k : Nat) : Fld := ⟨FSM_SOA_USED k, 19, 0⟩
def FSM_SOA_USED_row : RegRow := ⟨0x42000030, 0x100, 96, 0x4, 1, 0x0, [fld 19 0 .ro]⟩
/-- `FSM_ENERGY_LO`, R286. -/
def FSM_ENERGY_LO (k : Nat) : Nat := 0x42000034 + 0x100 * k
def FSM_ENERGY_LO_E_LO (k : Nat) : Fld := ⟨FSM_ENERGY_LO k, 31, 0⟩
def FSM_ENERGY_LO_row : RegRow := ⟨0x42000034, 0x100, 96, 0x4, 1, 0x0, [fld 31 0 .ro]⟩
/-- `FSM_ENERGY_HI`, R286. -/
def FSM_ENERGY_HI (k : Nat) : Nat := 0x42000038 + 0x100 * k
def FSM_ENERGY_HI_E_HI (k : Nat) : Fld := ⟨FSM_ENERGY_HI k, 31, 0⟩
def FSM_ENERGY_HI_row : RegRow := ⟨0x42000038, 0x100, 96, 0x4, 1, 0x0, [fld 31 0 .ro]⟩
/-- `FSM_MSTAT`, R286. -/
def FSM_MSTAT (k : Nat) : Nat := 0x4200003C + 0x100 * k
def FSM_MSTAT_SUBST (k : Nat) : Fld := ⟨FSM_MSTAT k, 31, 16⟩
def FSM_MSTAT_TORN (k : Nat) : Fld := ⟨FSM_MSTAT k, 0, 0⟩
def FSM_MSTAT_row : RegRow := ⟨0x4200003C, 0x100, 96, 0x4, 1, 0x0, [fld 31 16 .ro, fld 0 0 .w1c]⟩
/-- `FSM_CNT_TRIP`, R285. -/
def FSM_CNT_TRIP (k : Nat) : Nat := 0x42000040 + 0x100 * k
def FSM_CNT_TRIP_COUNT (k : Nat) : Fld := ⟨FSM_CNT_TRIP k, 31, 0⟩
def FSM_CNT_TRIP_row : RegRow := ⟨0x42000040, 0x100, 96, 0x4, 1, 0x0, [fld 31 0 .ro]⟩
/-- `FSM_CNT_FAIL`, R285. -/
def FSM_CNT_FAIL (k : Nat) : Nat := 0x42000044 + 0x100 * k
def FSM_CNT_FAIL_COUNT (k : Nat) : Fld := ⟨FSM_CNT_FAIL k, 31, 0⟩
def FSM_CNT_FAIL_row : RegRow := ⟨0x42000044, 0x100, 96, 0x4, 1, 0x0, [fld 31 0 .ro]⟩

/-! ## FSMG registers -/

/-- `FSM_GCTRL`, R287. -/
def FSM_GCTRL : Nat := 0x42008000
def FSM_GCTRL_AC_EN : Fld := ⟨FSM_GCTRL, 9, 9⟩
def FSM_GCTRL_BLANK : Fld := ⟨FSM_GCTRL, 8, 8⟩
def FSM_GCTRL_BLANK_T : Fld := ⟨FSM_GCTRL, 7, 0⟩
def FSM_GCTRL_row : RegRow := ⟨0x42008000, 0x4, 1, 0x4, 1, 0x214, [fld 9 9 .rw, fld 8 8 .w1s, fldR 7 0 .rw 0 200]⟩
/-- `FSM_GSTAT`, R287. -/
def FSM_GSTAT : Nat := 0x42008004
def FSM_GSTAT_COUNT : Fld := ⟨FSM_GSTAT, 31, 16⟩
def FSM_GSTAT_ACTIVE : Fld := ⟨FSM_GSTAT, 0, 0⟩
def FSM_GSTAT_row : RegRow := ⟨0x42008004, 0x4, 1, 0x4, 1, 0x0, [fld 31 16 .ro, fld 0 0 .ro]⟩

/-! ## TEL registers -/

/-- `TEL_CTRL`, R150. -/
def TEL_CTRL (k : Nat) : Nat := 0x50018000 + 0x100000 * k
def TEL_CTRL_CNT_CLR (k : Nat) : Fld := ⟨TEL_CTRL k, 5, 5⟩
def TEL_CTRL_SCRUB_EN (k : Nat) : Fld := ⟨TEL_CTRL k, 4, 4⟩
def TEL_CTRL_HALT_ON_UE (k : Nat) : Fld := ⟨TEL_CTRL k, 3, 3⟩
def TEL_CTRL_QUASH_POL (k : Nat) : Fld := ⟨TEL_CTRL k, 2, 2⟩
def TEL_CTRL_STOP (k : Nat) : Fld := ⟨TEL_CTRL k, 1, 1⟩
def TEL_CTRL_RUN (k : Nat) : Fld := ⟨TEL_CTRL k, 0, 0⟩
def TEL_CTRL_row : RegRow := ⟨0x50018000, 0x100000, 16, 0x4, 1, 0x10, [fld 5 5 .wo, fld 4 4 .rw, fld 3 3 .rw, fld 2 2 .rw, fld 1 1 .w1s, fld 0 0 .w1s]⟩
/-- `TEL_STATUS`, R151. -/
def TEL_STATUS (k : Nat) : Nat := 0x50018004 + 0x100000 * k
def TEL_STATUS_PC (k : Nat) : Fld := ⟨TEL_STATUS k, 27, 16⟩
def TEL_STATUS_ENTRY (k : Nat) : Fld := ⟨TEL_STATUS k, 15, 7⟩
def TEL_STATUS_BUSY (k : Nat) : Fld := ⟨TEL_STATUS k, 6, 6⟩
def TEL_STATUS_SAT (k : Nat) : Fld := ⟨TEL_STATUS k, 5, 5⟩
def TEL_STATUS_NOBANK (k : Nat) : Fld := ⟨TEL_STATUS k, 4, 4⟩
def TEL_STATUS_STATE (k : Nat) : Fld := ⟨TEL_STATUS k, 2, 0⟩
def TEL_STATUS_row : RegRow := ⟨0x50018004, 0x100000, 16, 0x4, 1, 0x0, [fld 27 16 .ro, fld 15 7 .ro, fld 6 6 .ro, fld 5 5 .w1c, fld 4 4 .w1c, fld 2 0 .ro]⟩
/-- `TEL_FAULT`, R152. -/
def TEL_FAULT (k : Nat) : Nat := 0x50018008 + 0x100000 * k
def TEL_FAULT_COLLIDE (k : Nat) : Fld := ⟨TEL_FAULT k, 10, 10⟩
def TEL_FAULT_DMEM_CE (k : Nat) : Fld := ⟨TEL_FAULT k, 9, 9⟩
def TEL_FAULT_PMEM_CE (k : Nat) : Fld := ⟨TEL_FAULT k, 8, 8⟩
def TEL_FAULT_SAFE_HALT (k : Nat) : Fld := ⟨TEL_FAULT k, 7, 7⟩
def TEL_FAULT_HDR (k : Nat) : Fld := ⟨TEL_FAULT k, 6, 6⟩
def TEL_FAULT_DRAIN (k : Nat) : Fld := ⟨TEL_FAULT k, 5, 5⟩
def TEL_FAULT_WCONF (k : Nat) : Fld := ⟨TEL_FAULT k, 4, 4⟩
def TEL_FAULT_RANGE (k : Nat) : Fld := ⟨TEL_FAULT k, 3, 3⟩
def TEL_FAULT_DMEM_UE (k : Nat) : Fld := ⟨TEL_FAULT k, 2, 2⟩
def TEL_FAULT_PMEM_UE (k : Nat) : Fld := ⟨TEL_FAULT k, 1, 1⟩
def TEL_FAULT_CONTRACT (k : Nat) : Fld := ⟨TEL_FAULT k, 0, 0⟩
def TEL_FAULT_row : RegRow := ⟨0x50018008, 0x100000, 16, 0x4, 1, 0x0, [fld 10 10 .w1c, fld 9 9 .w1c, fld 8 8 .w1c, fld 7 7 .w1c, fld 6 6 .w1c, fld 5 5 .w1c, fld 4 4 .w1c, fld 3 3 .w1c, fld 2 2 .w1c, fld 1 1 .w1c, fld 0 0 .w1c]⟩
/-- `TEL_FAULT_INFO`, R153. -/
def TEL_FAULT_INFO (k : Nat) : Nat := 0x5001800C + 0x100000 * k
def TEL_FAULT_INFO_VALID (k : Nat) : Fld := ⟨TEL_FAULT_INFO k, 31, 31⟩
def TEL_FAULT_INFO_SLOT (k : Nat) : Fld := ⟨TEL_FAULT_INFO k, 30, 28⟩
def TEL_FAULT_INFO_ADDR (k : Nat) : Fld := ⟨TEL_FAULT_INFO k, 27, 16⟩
def TEL_FAULT_INFO_CODE (k : Nat) : Fld := ⟨TEL_FAULT_INFO k, 15, 12⟩
def TEL_FAULT_INFO_ENTRY (k : Nat) : Fld := ⟨TEL_FAULT_INFO k, 8, 0⟩
def TEL_FAULT_INFO_row : RegRow := ⟨0x5001800C, 0x100000, 16, 0x4, 1, 0x0, [fld 31 31 .w1c, fld 30 28 .ro, fld 27 16 .ro, fld 15 12 .ro, fld 8 0 .ro]⟩
/-- `TEL_FAULT_CYC`, R154. -/
def TEL_FAULT_CYC (k : Nat) : Nat := 0x50018010 + 0x100000 * k
def TEL_FAULT_CYC_MFN (k : Nat) : Fld := ⟨TEL_FAULT_CYC k, 31, 20⟩
def TEL_FAULT_CYC_CYC (k : Nat) : Fld := ⟨TEL_FAULT_CYC k, 11, 0⟩
def TEL_FAULT_CYC_row : RegRow := ⟨0x50018010, 0x100000, 16, 0x4, 1, 0x0, [fld 31 20 .ro, fld 11 0 .ro]⟩
/-- `TEL_CNT_CE`, R155. -/
def TEL_CNT_CE (k : Nat) : Nat := 0x50018014 + 0x100000 * k
def TEL_CNT_CE_COUNT (k : Nat) : Fld := ⟨TEL_CNT_CE k, 31, 0⟩
def TEL_CNT_CE_row : RegRow := ⟨0x50018014, 0x100000, 16, 0x4, 1, 0x0, [fld 31 0 .ro]⟩
/-- `TEL_CNT_QUASH`, R155. -/
def TEL_CNT_QUASH (k : Nat) : Nat := 0x50018018 + 0x100000 * k
def TEL_CNT_QUASH_COUNT (k : Nat) : Fld := ⟨TEL_CNT_QUASH k, 31, 0⟩
def TEL_CNT_QUASH_row : RegRow := ⟨0x50018018, 0x100000, 16, 0x4, 1, 0x0, [fld 31 0 .ro]⟩
/-- `TEL_CNT_WCONF`, R155. -/
def TEL_CNT_WCONF (k : Nat) : Nat := 0x5001801C + 0x100000 * k
def TEL_CNT_WCONF_COUNT (k : Nat) : Fld := ⟨TEL_CNT_WCONF k, 31, 0⟩
def TEL_CNT_WCONF_row : RegRow := ⟨0x5001801C, 0x100000, 16, 0x4, 1, 0x0, [fld 31 0 .ro]⟩
/-- `TEL_CNT_DRAIN`, R155. -/
def TEL_CNT_DRAIN (k : Nat) : Nat := 0x50018020 + 0x100000 * k
def TEL_CNT_DRAIN_COUNT (k : Nat) : Fld := ⟨TEL_CNT_DRAIN k, 31, 0⟩
def TEL_CNT_DRAIN_row : RegRow := ⟨0x50018020, 0x100000, 16, 0x4, 1, 0x0, [fld 31 0 .ro]⟩
/-- `TEL_CNT_COLLIDE`, R155. -/
def TEL_CNT_COLLIDE (k : Nat) : Nat := 0x50018024 + 0x100000 * k
def TEL_CNT_COLLIDE_COUNT (k : Nat) : Fld := ⟨TEL_CNT_COLLIDE k, 31, 0⟩
def TEL_CNT_COLLIDE_row : RegRow := ⟨0x50018024, 0x100000, 16, 0x4, 1, 0x0, [fld 31 0 .ro]⟩
/-- `TEL_DIGEST`, R156. -/
def TEL_DIGEST (k : Nat) (j : Nat) : Nat := 0x50018040 + 0x100000 * k + 0x4 * j
def TEL_DIGEST_DIGEST (k : Nat) (j : Nat) : Fld := ⟨TEL_DIGEST k j, 31, 0⟩
def TEL_DIGEST_row : RegRow := ⟨0x50018040, 0x100000, 16, 0x4, 16, 0x0, [fld 31 0 .ro]⟩
/-- `TEL_DIGQ`, R156. -/
def TEL_DIGQ (k : Nat) : Nat := 0x50018080 + 0x100000 * k
def TEL_DIGQ_QUASHED (k : Nat) : Fld := ⟨TEL_DIGQ k, 15, 0⟩
def TEL_DIGQ_row : RegRow := ⟨0x50018080, 0x100000, 16, 0x4, 1, 0x0, [fld 15 0 .ro]⟩
/-- `TEL_SCH_STAT`, R213. -/
def TEL_SCH_STAT (k : Nat) : Nat := 0x50018100 + 0x100000 * k
def TEL_SCH_STAT_NEN (k : Nat) : Fld := ⟨TEL_SCH_STAT k, 25, 16⟩
def TEL_SCH_STAT_NEXT (k : Nat) : Fld := ⟨TEL_SCH_STAT k, 4, 4⟩
def TEL_SCH_STAT_BANK1 (k : Nat) : Fld := ⟨TEL_SCH_STAT k, 3, 2⟩
def TEL_SCH_STAT_BANK0 (k : Nat) : Fld := ⟨TEL_SCH_STAT k, 1, 0⟩
def TEL_SCH_STAT_row : RegRow := ⟨0x50018100, 0x100000, 16, 0x4, 1, 0x0, [fld 25 16 .ro, fld 4 4 .ro, fld 3 2 .ro, fld 1 0 .ro]⟩
/-- `TEL_SCH_ENSET`, R214. -/
def TEL_SCH_ENSET (k : Nat) : Nat := 0x50018104 + 0x100000 * k
def TEL_SCH_ENSET_ENTRY (k : Nat) : Fld := ⟨TEL_SCH_ENSET k, 8, 0⟩
def TEL_SCH_ENSET_row : RegRow := ⟨0x50018104, 0x100000, 16, 0x4, 1, 0x0, [fld 8 0 .wo]⟩
/-- `TEL_SCH_ENCLR`, R214. -/
def TEL_SCH_ENCLR (k : Nat) : Nat := 0x50018108 + 0x100000 * k
def TEL_SCH_ENCLR_ENTRY (k : Nat) : Fld := ⟨TEL_SCH_ENCLR k, 8, 0⟩
def TEL_SCH_ENCLR_row : RegRow := ⟨0x50018108, 0x100000, 16, 0x4, 1, 0x0, [fld 8 0 .wo]⟩
/-- `TEL_CV_INFO`, R215. -/
def TEL_CV_INFO (k : Nat) : Nat := 0x5001810C + 0x100000 * k
def TEL_CV_INFO_VALID (k : Nat) : Fld := ⟨TEL_CV_INFO k, 31, 31⟩
def TEL_CV_INFO_CAUSE (k : Nat) : Fld := ⟨TEL_CV_INFO k, 30, 28⟩
def TEL_CV_INFO_BIND (k : Nat) : Fld := ⟨TEL_CV_INFO k, 27, 25⟩
def TEL_CV_INFO_ENTRY (k : Nat) : Fld := ⟨TEL_CV_INFO k, 24, 16⟩
def TEL_CV_INFO_CYC (k : Nat) : Fld := ⟨TEL_CV_INFO k, 11, 0⟩
def TEL_CV_INFO_row : RegRow := ⟨0x5001810C, 0x100000, 16, 0x4, 1, 0x0, [fld 31 31 .w1c, fld 30 28 .ro, fld 27 25 .ro, fld 24 16 .ro, fld 11 0 .ro]⟩
/-- `TEL_CNT_CV`, R212. -/
def TEL_CNT_CV (k : Nat) : Nat := 0x50018110 + 0x100000 * k
def TEL_CNT_CV_COUNT (k : Nat) : Fld := ⟨TEL_CNT_CV k, 31, 0⟩
def TEL_CNT_CV_row : RegRow := ⟨0x50018110, 0x100000, 16, 0x4, 1, 0x0, [fld 31 0 .ro]⟩
/-- `TEL_CPROT`, R233. -/
def TEL_CPROT (k : Nat) (j : Nat) : Nat := 0x50018200 + 0x100000 * k + 0x4 * j
def TEL_CPROT_LOCK (k : Nat) (j : Nat) : Fld := ⟨TEL_CPROT k j, 31, 31⟩
def TEL_CPROT_COUNT (k : Nat) (j : Nat) : Fld := ⟨TEL_CPROT k j, 15, 8⟩
def TEL_CPROT_BASE (k : Nat) (j : Nat) : Fld := ⟨TEL_CPROT k j, 6, 0⟩
def TEL_CPROT_row : RegRow := ⟨0x50018200, 0x100000, 16, 0x4, 16, 0x0, [fld 31 31 .w1s, fldR 15 8 .rw 0 128, fld 6 0 .rw]⟩
/-- `TEL_CUPD_BUF`, R232. -/
def TEL_CUPD_BUF (k : Nat) (j : Nat) : Nat := 0x50018240 + 0x100000 * k + 0x4 * j
def TEL_CUPD_BUF_DATA (k : Nat) (j : Nat) : Fld := ⟨TEL_CUPD_BUF k j, 31, 0⟩
def TEL_CUPD_BUF_row : RegRow := ⟨0x50018240, 0x100000, 16, 0x4, 16, 0x0, [fld 31 0 .rw]⟩
/-- `TEL_CUPD_CTRL`, R234. -/
def TEL_CUPD_CTRL (k : Nat) : Nat := 0x50018280 + 0x100000 * k
def TEL_CUPD_CTRL_GO (k : Nat) : Fld := ⟨TEL_CUPD_CTRL k, 31, 31⟩
def TEL_CUPD_CTRL_ABORT (k : Nat) : Fld := ⟨TEL_CUPD_CTRL k, 30, 30⟩
def TEL_CUPD_CTRL_AT (k : Nat) : Fld := ⟨TEL_CUPD_CTRL k, 29, 29⟩
def TEL_CUPD_CTRL_SLOT (k : Nat) : Fld := ⟨TEL_CUPD_CTRL k, 19, 16⟩
def TEL_CUPD_CTRL_LAST (k : Nat) : Fld := ⟨TEL_CUPD_CTRL k, 11, 8⟩
def TEL_CUPD_CTRL_BASE (k : Nat) : Fld := ⟨TEL_CUPD_CTRL k, 6, 0⟩
def TEL_CUPD_CTRL_row : RegRow := ⟨0x50018280, 0x100000, 16, 0x4, 1, 0x0, [fld 31 31 .w1s, fld 30 30 .w1s, fld 29 29 .rw, fld 19 16 .rw, fld 11 8 .rw, fld 6 0 .rw]⟩
/-- `TEL_CUPD_MFN`, R232. -/
def TEL_CUPD_MFN (k : Nat) : Nat := 0x50018284 + 0x100000 * k
def TEL_CUPD_MFN_MFN (k : Nat) : Fld := ⟨TEL_CUPD_MFN k, 31, 0⟩
def TEL_CUPD_MFN_row : RegRow := ⟨0x50018284, 0x100000, 16, 0x4, 1, 0x0, [fld 31 0 .rw]⟩
/-- `TEL_CUPD_STAT`, R235. -/
def TEL_CUPD_STAT (k : Nat) : Nat := 0x50018288 + 0x100000 * k
def TEL_CUPD_STAT_ERR (k : Nat) : Fld := ⟨TEL_CUPD_STAT k, 7, 4⟩
def TEL_CUPD_STAT_COLLIDE (k : Nat) : Fld := ⟨TEL_CUPD_STAT k, 3, 3⟩
def TEL_CUPD_STAT_FAIL (k : Nat) : Fld := ⟨TEL_CUPD_STAT k, 2, 2⟩
def TEL_CUPD_STAT_DONE (k : Nat) : Fld := ⟨TEL_CUPD_STAT k, 1, 1⟩
def TEL_CUPD_STAT_PEND (k : Nat) : Fld := ⟨TEL_CUPD_STAT k, 0, 0⟩
def TEL_CUPD_STAT_row : RegRow := ⟨0x50018288, 0x100000, 16, 0x4, 1, 0x0, [fld 7 4 .ro, fld 3 3 .w1c, fld 2 2 .w1c, fld 1 1 .w1c, fld 0 0 .ro]⟩
/-- `TEL_CUPD_LAST`, R232. -/
def TEL_CUPD_LAST (k : Nat) : Nat := 0x5001828C + 0x100000 * k
def TEL_CUPD_LAST_MFN (k : Nat) : Fld := ⟨TEL_CUPD_LAST k, 31, 0⟩
def TEL_CUPD_LAST_row : RegRow := ⟨0x5001828C, 0x100000, 16, 0x4, 1, 0x0, [fld 31 0 .ro]⟩

/-! ## SCH registers -/

/-- `SCH_CTRL`, R217. -/
def SCH_CTRL : Nat := 0x51000000
def SCH_CTRL_AT : Fld := ⟨SCH_CTRL, 18, 18⟩
def SCH_CTRL_ABORT : Fld := ⟨SCH_CTRL, 17, 17⟩
def SCH_CTRL_COMMIT : Fld := ⟨SCH_CTRL, 16, 16⟩
def SCH_CTRL_MASK : Fld := ⟨SCH_CTRL, 15, 0⟩
def SCH_CTRL_row : RegRow := ⟨0x51000000, 0x4, 1, 0x4, 1, 0x0, [fld 18 18 .rw, fld 17 17 .w1s, fld 16 16 .w1s, fld 15 0 .rw]⟩
/-- `SCH_SWAP_MFN`, R216. -/
def SCH_SWAP_MFN : Nat := 0x51000004
def SCH_SWAP_MFN_MFN : Fld := ⟨SCH_SWAP_MFN, 31, 0⟩
def SCH_SWAP_MFN_row : RegRow := ⟨0x51000004, 0x4, 1, 0x4, 1, 0x0, [fld 31 0 .rw]⟩
/-- `SCH_STAT`, R218. -/
def SCH_STAT : Nat := 0x51000008
def SCH_STAT_DONE : Fld := ⟨SCH_STAT, 5, 5⟩
def SCH_STAT_FAIL : Fld := ⟨SCH_STAT, 4, 4⟩
def SCH_STAT_ABORT_LATE : Fld := ⟨SCH_STAT, 3, 3⟩
def SCH_STAT_STATE : Fld := ⟨SCH_STAT, 1, 0⟩
def SCH_STAT_row : RegRow := ⟨0x51000008, 0x4, 1, 0x4, 1, 0x0, [fld 5 5 .w1c, fld 4 4 .w1c, fld 3 3 .w1c, fld 1 0 .ro]⟩
/-- `SCH_ERR`, R219. -/
def SCH_ERR : Nat := 0x5100000C
def SCH_ERR_ERRV : Fld := ⟨SCH_ERR, 31, 31⟩
def SCH_ERR_ENGINE : Fld := ⟨SCH_ERR, 27, 24⟩
def SCH_ERR_ENTRY : Fld := ⟨SCH_ERR, 20, 12⟩
def SCH_ERR_CODE : Fld := ⟨SCH_ERR, 3, 0⟩
def SCH_ERR_row : RegRow := ⟨0x5100000C, 0x4, 1, 0x4, 1, 0x0, [fld 31 31 .w1c, fld 27 24 .ro, fld 20 12 .ro, fld 3 0 .ro]⟩
/-- `SCH_ERR_VAL`, R216. -/
def SCH_ERR_VAL : Nat := 0x51000010
def SCH_ERR_VAL_VALUE : Fld := ⟨SCH_ERR_VAL, 31, 0⟩
def SCH_ERR_VAL_row : RegRow := ⟨0x51000010, 0x4, 1, 0x4, 1, 0x0, [fld 31 0 .ro]⟩
/-- `SCH_SWAP_LAST`, R216. -/
def SCH_SWAP_LAST : Nat := 0x51000014
def SCH_SWAP_LAST_MFN : Fld := ⟨SCH_SWAP_LAST, 31, 0⟩
def SCH_SWAP_LAST_row : RegRow := ⟨0x51000014, 0x4, 1, 0x4, 1, 0x0, [fld 31 0 .ro]⟩

/-! ## The tables of the blocks -/

/-- The registers of SYS. -/
def regsSys : List RegRow :=
  [SYS_IDENT_row, SYS_RST_CAUSE_row, SYS_RST_CTRL_row, SYS_STRAP_row, SYS_RSTOUT_row, SYS_CLKSTAT_row,
   SYS_PWRSTAT_row, SYS_UPD_LOCK_row]

/-- The registers of RGT. -/
def regsRgt : List RegRow :=
  [RGT_STAT_row, RGT_SEAL_row, RGT_ROLE_SUP_row, RGT_ROLE_DBG_row, RGT_DENY_INFO_row, RGT_DENY_ADDR_row,
   RGT_CNT_DENY_row, RGT_CHAL_row, RGT_PERM_row]

/-- The registers of EVR. -/
def regsEvr : List RegRow :=
  [EVR_EN_row, EVR_PEND_row, EVR_CLAIM_row, EVR_CLAIM_VAL_row, EVR_SWVAL_row, EVR_SWEV_row]

/-- The registers of FCU. -/
def regsFcu : List RegRow :=
  [FCU_CTRL_row, FCU_STAT_row, FCU_SAFE_row, FCU_HOLD_row, FCU_FIRST_row, FCU_FIRST_TLO_row,
   FCU_FIRST_THI_row, FCU_ESC_T_row, FCU_FLAG_row, FCU_ESCR_row, FCU_SRCTL_row, FCU_WDOG_row,
   FCU_SCFG_row, FCU_SCNT_row, FCU_INJ_row]

/-- The registers of TBS. -/
def regsTbs : List RegRow :=
  [TBS_TIME_LO_row, TBS_TIME_HI_row, TBS_MFN_row, TBS_MFOFS_row, TBS_LOAD_LO_row, TBS_LOAD_HI_row,
   TBS_CTRL_row, TBS_STATUS_row, TBS_SYNC_CTRL_row, TBS_SYNC_STAT_row]

/-- The registers of TMR. -/
def regsTmr : List RegRow :=
  [TMR_CTRL_row, TMR_CNT_row, TMR_PER_row, TMR_CMP_row, TMR_CAP_row, TMR_STAT_row]

/-- The registers of HKA. -/
def regsHka : List RegRow :=
  [HKA_CTRL_row, HKA_MASK_row, HKA_STAT_row, HKA_RES_row, HKA_WIN_row]

/-- The registers of GPIO. -/
def regsGpio : List RegRow :=
  [GPIO_CFG_row, GPIO_IN_row, GPIO_OUT_row, GPIO_SET_row, GPIO_CLR_row]

/-- The registers of TWB. -/
def regsTwb : List RegRow :=
  [TWB_CFG_row, TWB_TIMING_row, TWB_CMD_row, TWB_PTR_row, TWB_LEN_row, TWB_PAGE_row,
   TWB_STAT_row, TWB_ERR_row, TWB_CNT_ARB_row, TWB_CNT_NACK_row, TWB_CNT_TMO_row, TWB_TXBUF_row,
   TWB_RXBUF_row]

/-- The registers of TWT. -/
def regsTwt : List RegRow :=
  [TWT_CFG_row, TWT_WP_row, TWT_STAT_row, TWT_ATTN_row, TWT_LAST_row, TWT_WIN_row]

/-- The registers of ETH. -/
def regsEth : List RegRow :=
  [ETH_CTRL_row, ETH_MAC_LO_row, ETH_MAC_HI_row, ETH_TXRING_row, ETH_RXRING_row, ETH_TXKICK_row,
   ETH_MDIO_row, ETH_CNT_RXDROP_row]

/-- The registers of XSP. -/
def regsXsp : List RegRow :=
  [XSP_CTRL_row, XSP_STAT_row, XSP_ERR_row, XSP_CNT_DQS_row, XSP_PROF_row, XSP_CMDS_row,
   XSP_ICMD_row, XSP_IADDR_row, XSP_ILEN_row, XSP_IBUF_row]

/-- The registers of VLT. -/
def regsVlt : List RegRow :=
  [VLT_CTRL_row, VLT_PKEY_row, VLT_PADDR_row, VLT_PDATA_row, VLT_STAT_row, VLT_ERR_row,
   VLT_LC_row, VLT_CRC_row, VLT_RSTAT_row, VLT_OVR_row, VLT_SHADR_row, VLT_SHDAT_row]

/-- The registers of TWN. -/
def regsTwn : List RegRow :=
  [TWN_CTRL_row, TWN_CFG_row, TWN_STAT_row, TWN_PEER_row, TWN_HO_row, TWN_HO_MFN_row,
   TWN_CSEED_row, TWN_BUILD_row, TWN_DIGX_row, TWN_ECHOX_row, TWN_DIVG_row, TWN_CNT_UE_row,
   TWN_CNT_HBMISS_row, TWN_CNT_DIGX_row, TWN_CNT_ECHOX_row, TWN_CNT_NACK_row, TWN_FWD_TX_row, TWN_FWD_TXS_row,
   TWN_FWD_RXS_row, TWN_FWD_RXE_row, TWN_XFER_CTRL_row, TWN_XFER_STAT_row, TWN_FWD_TXBUF_row, TWN_FWD_RXBUF_row]

/-- The registers of MNT. -/
def regsMnt : List RegRow :=
  [MNT_CTRL_row, MNT_POLICY_row, MNT_DEBT_row, MNT_RECT_row, MNT_RESERVE_row, MNT_BSHARE_row,
   MNT_AC_row, MNT_SHED_row, MNT_SHED_T_row, MNT_RMASK_row, MNT_APPLY_row, MNT_APPLY_MFN_row,
   MNT_HUSW_row, MNT_STAT_row, MNT_SRC_R_row, MNT_SRC_B_row, MNT_AVAIL_row, MNT_COINS_row,
   MNT_UNALLOC_row, MNT_DIGEST_row, MNT_HU_TIME_row, MNT_PCFG_row, MNT_PLIM_row, MNT_PBAL_row,
   MNT_PGRANT_row, MNT_PUSE_row, MNT_CAP_row]

/-- The registers of BAT. -/
def regsBat : List RegRow :=
  [BAT_CTRL_row, BAT_APPLY_row, BAT_APPLY_MFN_row, BAT_STAT_row, BAT_ROT_MFN_row, BAT_ALLOW_row,
   BAT_AGG_row, BAT_DIGEST_row, BAT_ROT_row, BAT_SMOOTH_row, BAT_POLICY_row, BAT_REST_row,
   BAT_READ_row, BAT_UNC_row, BAT_ACC_row, BAT_DIS_row, BAT_CUT_row, BAT_SUB_row,
   BAT_SOH_row, BAT_SCFG_row, BAT_SCFG2_row, BAT_SSEED_row, BAT_SCAPSEED_row, BAT_SOC_row,
   BAT_SFLAG_row, BAT_TALLY_LO_row, BAT_TALLY_HI_row, BAT_SCAP_row, BAT_REST_T_row, BAT_READING_row,
   BAT_CELLMM_row, BAT_SUBST_row, BAT_OCV_TEMP_row, BAT_CELL_row, BAT_OCV_row]

/-- The registers of FRA. -/
def regsFra : List RegRow :=
  [FRA_CTRL_row, FRA_START_MFN_row, FRA_TIMING_row, FRA_AMP_row, FRA_PINC_row, FRA_WORDS_row,
   FRA_STAT_row, FRA_SAMPLE_row, FRA_STEP_row, FRA_RES_GAIN_row, FRA_RES_PHASE_row, FRA_RES_MAGA_row,
   FRA_RES_N_row, FRA_AMP_LIM_row]

/-- The registers of LDG. -/
def regsLdg : List RegRow :=
  [LDG_CTRL_row, LDG_STAT_row, LDG_SEQ_row, LDG_SEQ_BASE_row, LDG_FSEQ_row, LDG_MSEQ_row,
   LDG_CNT_LOSTF_row, LDG_CNT_LOSTM_row, LDG_CNT_DROP_row, LDG_CNT_MIRX_row, LDG_MR_OWN_row, LDG_MR_PEER_row,
   LDG_MR_WAVE_row, LDG_MR_AUTH_row, LDG_AUTH_WPTR_row, LDG_PF_row, LDG_ERR_row, LDG_WCH_row,
   LDG_WST_row, LDG_TRIG_row, LDG_PRE_row, LDG_TRIG_STAT_row, LDG_RD_CTRL_row, LDG_RD_START_row,
   LDG_RD_DST_row]

/-- The registers of LNK. -/
def regsLnk : List RegRow :=
  [LNK_CTRL_row, LNK_STATUS_row, LNK_ERR_row, LNK_TIMING_row, LNK_WDOG_row, LNK_CMD_row,
   LNK_CMD_STAT_row, LNK_ACT_row, LNK_BOOT_row, LNK_CNT_CRC_row, LNK_CNT_CODE_row, LNK_CNT_SEQ_row,
   LNK_CNT_TRIPX_row, LNK_CNT_OVF_row, LNK_CNT_LATE_row, LNK_CNT_TRIP_row, LNK_PROT_CTRL_row, LNK_PROT_ILIM_row,
   LNK_PROT_VLIM_row, LNK_PROT_IEFF_row, LNK_PROT_VEFF_row]

/-- The registers of LNKG. -/
def regsLnkg : List RegRow :=
  [LNK_BIMG_ADDR_row, LNK_BIMG_LEN_row, LNK_BGO_row, LNK_BSTAT_row, LNK_BERR_row, LNK_EPOCH_row,
   LNK_RESEIZE_row, LNK_SEIZED_row, LNK_AUTHOK_row, LNK_AUDITOK_row, LNK_CNT_ROLEX_row, LNK_CNT_AUTHX_row,
   LNK_CNT_AUDITX_row, LNK_CNT_AUTON_row]

/-- The registers of FSM. -/
def regsFsm : List RegRow :=
  [FSM_CTRL_row, FSM_STATUS_row, FSM_CFG_row, FSM_TIME_row, FSM_PRES_row, FSM_SIDE_row,
   FSM_INWIN_row, FSM_RAMPCK_row, FSM_SHORT_row, FSM_FSHORT_row, FSM_MEAS_row, FSM_PWR_row,
   FSM_SOA_USED_row, FSM_ENERGY_LO_row, FSM_ENERGY_HI_row, FSM_MSTAT_row, FSM_CNT_TRIP_row, FSM_CNT_FAIL_row]

/-- The registers of FSMG. -/
def regsFsmg : List RegRow :=
  [FSM_GCTRL_row, FSM_GSTAT_row]

/-- The registers of TEL. -/
def regsTel : List RegRow :=
  [TEL_CTRL_row, TEL_STATUS_row, TEL_FAULT_row, TEL_FAULT_INFO_row, TEL_FAULT_CYC_row, TEL_CNT_CE_row,
   TEL_CNT_QUASH_row, TEL_CNT_WCONF_row, TEL_CNT_DRAIN_row, TEL_CNT_COLLIDE_row, TEL_DIGEST_row, TEL_DIGQ_row,
   TEL_SCH_STAT_row, TEL_SCH_ENSET_row, TEL_SCH_ENCLR_row, TEL_CV_INFO_row, TEL_CNT_CV_row, TEL_CPROT_row,
   TEL_CUPD_BUF_row, TEL_CUPD_CTRL_row, TEL_CUPD_MFN_row, TEL_CUPD_STAT_row, TEL_CUPD_LAST_row]

/-- The registers of SCH. -/
def regsSch : List RegRow :=
  [SCH_CTRL_row, SCH_SWAP_MFN_row, SCH_STAT_row, SCH_ERR_row, SCH_ERR_VAL_row, SCH_SWAP_LAST_row]

/-- The register table that a register address may lie in (R400). -/
def tableOf (a : Nat) : List RegRow :=
  if a < 0x40000000 then []
  else if a < 0x40110000 then
    match (a - 0x40000000) / 0x10000 with
    | 0 => regsSys | 1 => regsRgt | 2 => regsEvr | 3 => regsFcu | 4 => regsTbs | 5 => regsTmr | 6 => regsHka
    | 7 => regsGpio | 8 => if a < 0x40088000 then regsTwb else regsTwt | 9 => regsEth | 10 => regsXsp | 11 => regsVlt
    | 12 => regsTwn | 13 => regsMnt | 14 => regsBat | 15 => regsFra | _ => regsLdg
  else if a < 0x41000000 then []
  else if a < 0x41018000 then regsLnk
  else if a < 0x41019000 then regsLnkg
  else if a < 0x42000000 then []
  else if a < 0x42006000 then regsFsm
  else if a < 0x42008000 then []
  else if a < 0x42009000 then regsFsmg
  else if a < 0x50000000 then []
  else if a < 0x51000000 then regsTel
  else if a < 0x51001000 then regsSch
  else []

/-- Whether address `a` is one of the registers of row `r`. -/
def RegRow.has (r : RegRow) (a : Nat) : Bool :=
  decide (r.base ≤ a) && decide ((a - r.base) / r.s1 < r.n1) && decide ((a - r.base) % r.s1 / r.s2 < r.n2)
    && decide ((a - r.base) % r.s1 % r.s2 = 0)

/-- The row of the register at address `a`, if a register stands there. -/
def rowOf (a : Nat) : Option RegRow := (tableOf a).find? (fun r => r.has a)

/-- The reset configuration of fault source `i` (R363): class, reaction, action, escalation preset, enable. -/
def fcuScfgReset (i : Nat) : Nat :=
  let critSafe := 3 * 0x10000 + 3 * 0x4000 + 2 * 0x1000 + 1
  let servIrq := 2 * 0x10000 + 1 * 0x4000 + 1
  let recIrq := 1 * 0x10000 + 1 * 0x4000 + 1
  let info := 1
  let sup := 2 * 0x10000 + 3 * 0x4000 + 3 * 0x1000 + 1
  let escSw := 2 * 0x10000 + 2 * 0x4000 + 1 * 0x1000 + 4 * 0x100 + 1
  if i ≤ 8 then critSafe
  else if i = 9 then servIrq else if i = 10 then recIrq
  else if i ≤ 13 then critSafe
  else if i = 14 then servIrq else if i = 15 then critSafe
  else if i ≤ 18 then sup
  else if i = 19 then info
  else if i ≤ 35 then escSw
  else if i ≤ 51 then recIrq
  else if i = 52 then info
  else if i ≤ 54 then recIrq
  else if i ≤ 57 then servIrq
  else if i = 58 then critSafe
  else if i = 59 then escSw
  else if i = 60 then servIrq
  else if i ≤ 69 then recIrq
  else if i = 70 then info
  else if i = 71 then recIrq
  else if i ≤ 75 then servIrq
  else if i = 76 then recIrq
  else if i ≤ 78 then servIrq
  else if i = 79 then info
  else if i = 80 then servIrq
  else if i = 81 then recIrq
  else if i ≤ 95 then 0
  else if i ≤ 191 then recIrq
  else 0

/-- The escalation presets after reset (R378): 1, 10, 100, 1000, 10000, 100000, 20, 5000 µs. -/
def fcuEscReset (p : Nat) : Nat :=
  match p with
  | 0 => 1 | 1 => 10 | 2 => 100 | 3 => 1000 | 4 => 10000 | 5 => 100000 | 6 => 20 | _ => 5000

/-- What the permission table holds after reset (R415): every entry asks for BOOT, entry 1 is 0. -/
def permReset (e : Nat) : Nat := if e = 1 then 0 else 0x44

/-- What the register at address `a` holds after reset: the word of its table row, but for the four families whose
reset differs from register to register (R335, R363, R378, R415). -/
def resetWord (a : Nat) : BitVec 32 :=
  match rowOf a with
  | none => 0
  | some r =>
    let i := (a - r.base) / r.s1
    BitVec.ofNat 32
      (if r.base = 0x40030400 then fcuScfgReset i
       else if r.base = 0x40030020 then fcuEscReset i
       else if r.base = 0x40010400 then permReset i
       else if r.base = 0x400E0400 then r.reset + (88 + i) * 0x1000000
       else r.reset)

end Sys2Proof.Machine
end

