-- ==== Sys2Proof/Machine/State.lean ====
section
/-! DEFINITION. Machine/State.lean: the whole state of the block as plain data, the reasons a step can stop, and the
state after reset. -/

namespace Sys2Proof.Machine

/-! ## Time (02) -/

/-- The timebase (R35, R36, R40, R45..R47). T at the start of the major frame in progress is `tBase`; T itself is
`tBase` plus 4/5 of the FAB cycle (`State.T`). The registers TBS_* are in `regs`. -/
structure Clk where
  /-- FAB cycles since the release of PORST_N, never moved by a load of T (R35); reset 0. -/
  now : Nat := 0
  /-- FAB cycle c of the major frame, 0..2399 (R35); reset 0. -/
  cyc : Nat := 0
  /-- Part of the FAB cycle whose commands the tick has queued: 4 none and a major frame starts, 3 none of this cycle's
  yet, 5 the frames and the mailboxes, 0 all of its start, 1 the issue of bundles, 2 its end (log entry 1). The model's own
  field. -/
  phase : Nat := 2
  /-- T at the start of the major frame in progress (R36); T is 0 at the release of PORST_N. -/
  tBase : BitVec 64 := 0
  /-- FAB cycle of the last downstream frames (R55): they leave once in a cycle; reset none. The model's own field. -/
  sentAt : Option Nat := none
  /-- MFN that a pending time alignment sets with its load (R353); reset none. -/
  loadMfn : Option (BitVec 32) := none
  /-- Consecutive SYNC_IN pulses within 1 tick in ALIGN (R46); reset 0. -/
  syncGood : Nat := 0
  /-- Consecutive SYNC_IN pulses more than 2 ticks off in FOLLOWER (R47); reset 0. -/
  syncBad : Nat := 0
  /-- SYNC_MISSING was raised and no pulse has arrived since (R47); reset false. -/
  missing : Bool := false
  /-- A measured pulse waits to move the grid at the next major-frame start (R46): its corrected arrival in ticks of T and
  whether it was wide; reset none. -/
  align : Option (Int × Bool) := none
  /-- The last pulse driven on SYNC_OUT (R45): T at its start and its width in ticks; reset none, the pins low (R533). -/
  syncOut : Option (BitVec 64 × Nat) := none
  /-- Monitored clocks whose last window was out of tolerance (R31); reset none. -/
  badWin : List ClkMon := []
  /-- Monitored clocks in fault: the detection is the entry into the condition (R31, R362); reset none. -/
  clkFault : List ClkMon := []
deriving DecidableEq, Repr

/-! ## Events (00, 02, 14, 15) -/

/-- The kinds of ring record (R379). -/
inductive EvKind where
  | event | audit
deriving DecidableEq, Repr

/-- An event on its way to the Ledger and the event router (R16, R50, R379). -/
structure Ev where
  src : Nat
  cause : Nat
  value : BitVec 32
  stamp : BitVec 64
  order : Nat
  ext : BitVec 64 := 0
  kind : EvKind := .event
  notify : Bool := true
  late : Bool := false
  pf : Bool := false
  gap : Bool := false
  /-- T at the entry into the merge (R50). -/
  entered : BitVec 64 := 0
  /-- Error injected into its code word in the merge queue (R361, R371). -/
  ecc : BitVec 17 := 0
deriving DecidableEq, Repr

/-- What the event router keeps for a source beside its pending and enable bits (R403). -/
structure EvrRec where
  cause : Nat := 0
  value : BitVec 32 := 0
  count : Nat := 0
  /-- FAB cycle of the latest event, and the pending bit and the three fields as they stood before it (R405). -/
  since : Option Nat := none
  wasPend : Bool := false
  wasCause : Nat := 0
  wasValue : BitVec 32 := 0
  wasCount : Nat := 0
deriving DecidableEq, Repr

/-- The crossing queues into the event merge, and the merge (R34, R50, R51, R382). -/
structure Merge where
  /-- Events raised and not yet at the merge input, oldest first (R34); reset empty. -/
  inflight : List Ev := []
  /-- Events held in the merge, in key order (R50); reset empty. -/
  held : List Ev := []
  /-- FAB cycle of the last record written, counted from reset (R381); reset none. -/
  wroteAt : Option Nat := none
  /-- Raise-order number of the next event of each source, modulo 256 (R51); reset 0. -/
  order : SMap Nat := []
  /-- Domains whose next record carries GAP (R382); reset none. -/
  gap : List Nat := []
  /-- Domains in a drop episode (R382); reset none. -/
  dropEp : List Nat := []
  /-- Domains of the episodes whose DROP waits for room in the Ledger's own queue (R382); reset none. -/
  dropDue : List Nat := []
  /-- What the router keeps per source (R403); reset 0. -/
  evr : SMap EvrRec := []
deriving DecidableEq, Repr

/-! ## Fault collector (13) -/

/-- What the collector keeps beside its registers (R362, R366, R368..R372). -/
structure Fcu where
  /-- The reset self-check has ended and detections and register accesses are accepted (R370); reset false. -/
  checked : Bool := false
  /-- Detections on their way to the collector, oldest first (R362); reset empty. -/
  detq : List Nat := []
  /-- Instants of the SUPERVISOR_RESET actions in the window (R368); reset none. -/
  srTimes : List Nat := []
  /-- Sources detected in the MON cycle in progress (R366, R20); reset none. -/
  det : List Nat := []
  /-- Actions to take, with the MON cycle they are taken in (R365, R366); reset none. -/
  acts : List (Nat × Nat) := []
  /-- SWITCHOVER actions that R369 watches, oldest first: the end of the limit in FAB cycles since reset, and the source;
  reset none. -/
  soPend : List (Nat × Nat) := []
  /-- The exit was accepted and the transmitters restart at the next major-frame start (R374); reset false. -/
  txRestart : Bool := false
  /-- Where the second copy of a register differs from the first: address and differing bits (R370); reset nowhere. -/
  regDiff : SMap (BitVec 32) := []
  /-- Running escalation timers whose second copy differs: source and the FAB cycle at which the first ends (R370); reset
  none. -/
  timDiff : List (Nat × Nat) := []
deriving DecidableEq, Repr

/-! ## Ledger (14) -/

/-- A waveform channel beside its registers LDG_WCH, LDG_WST (R392, R393). -/
structure Wave where
  /-- Records still to write after a trigger; `some 0` waits for the freeze (R393); reset none. -/
  left : Option Nat := none
  /-- FAB cycle of the ARM write, which takes no trigger of that cycle (R393); reset none. -/
  armedAt : Option Nat := none
  /-- FAB cycle of the trigger that it counts from (R393); reset none. -/
  trigAt : Option Nat := none
deriving DecidableEq, Repr

/-- A mirrored record in assembly on a lane (R391). -/
inductive MirAsm where
  /-- SEQ′ bits 5:0, the part awaited, the bytes so far. -/
  | taking (seq6 next : Nat) (bytes : List Byte)
  /-- The record is discarded and counted; `last` is the part last received of it. -/
  | dropping (last : Nat)
deriving DecidableEq, Repr

/-- A readout in progress, as its GO found the registers (R394). -/
structure Readout where
  ring : Bool
  ch : Nat
  count : Nat
  start : Nat
  dst : Nat
deriving DecidableEq, Repr

/-- A burst of the Ledger on the xSPI bus (R386, R389, R391): records of OWN, PEER or AUTH, a piece of a channel image, the
record of PF_END. -/
inductive Burst where
  | own (n : Nat)
  | peer (n : Nat)
  | auth (n : Nat)
  | image
  | last
deriving DecidableEq, Repr

/-- What the Ledger keeps beside its registers and memories (R381..R394). -/
structure Ldg where
  /-- The burst in progress (R386, R524); reset none. -/
  burst : Option Burst := none
  /-- Mirrored records waiting to be written to PEER (R391); reset none. -/
  peerq : List (List Byte) := []
  /-- Records waiting to be copied to AUTH, 32 bytes each (R385, R386); reset none. -/
  authq : List (List Byte) := []
  /-- Frozen channels waiting to be copied to WAVE, with the next burst of each (R386, R393); reset none. -/
  waveq : List (Nat × Nat) := []
  /-- The next OWN copy carries GAP (R387); reset false. -/
  ownGap : Bool := false
  /-- The next mirrored copy carries GAP (R387); reset false. -/
  mirGap : Bool := false
  /-- Consecutive failed bursts (R388); reset 0. -/
  fails : Nat := 0
  /-- Records lost to the flush since BLOCKED was set (R388); reset 0. -/
  lost : Nat := 0
  /-- The mirrored copy being sent, with its lane and its parts still to send (R390); reset none. -/
  mir : Option (Nat × List (BitVec 128)) := none
  /-- The record being sent carries GAP (R387); reset false. -/
  mirFlag : Bool := false
  /-- The mirrored record in assembly per lane (R391); reset none. -/
  asm : SMap (Option MirAsm) := []
  /-- Records flushed since PF_START (R389); reset 0. -/
  pfCount : Nat := 0
  /-- PF_END was raised: no burst starts but the one with its record (R389); reset false. -/
  pfCut : Bool := false
  /-- SEQ of the PF_END record from its entry into the ring to its flush (R389); reset none. -/
  pfEnd : Option Nat := none
  /-- The power-fail flush took its falling edge and runs only once (R389); reset false. -/
  pfRun : Bool := false
  /-- No further MRAM write until reset (R389); reset false. -/
  pfStop : Bool := false
  /-- Waveform channels (R392, R393), by channel. -/
  waves : SMap Wave := []
  /-- FAB cycle of the last trigger taken (R393); reset none. -/
  trigAt : Option Nat := none
  /-- FAB cycle of the last records of the LINK channels (R392); reset none. -/
  sampledAt : Option Nat := none
  /-- The readout in progress (R394); reset none. -/
  rd : Option Readout := none
deriving DecidableEq, Repr

/-! ## Supervisor port (00, 15) -/

/-- The answer to the last access on the block's register interface. -/
structure BusResp where
  who : Who := .sup false
  data : BitVec 32 := 0
  /-- An access fault or an error status (R401, R414). -/
  err : Bool := false
  /-- It is a load or store address-misaligned exception instead (R397). -/
  mis : Bool := false
deriving DecidableEq, Repr

/-- The supervisor's register interface and its cores' reset (R12..R15, R383, R409, R410). -/
structure Bus where
  /-- The answer to the last access; reset: nothing answered yet. -/
  resp : BusResp := {}
  /-- High words held per path and linked counter (R12, R13); reset none held. -/
  hold : List ((Who × Linked) × BitVec 32) := []
  /-- Audited writes that wait for room in the merge queue (R383); reset none. -/
  waiting : List (Ev × Who × Nat × BitVec 32) := []
  /-- Permission entries and role registers written in this FAB cycle, with the words they held before (R414); reset none. -/
  was : List (Nat × BitVec 32) := []
  /-- The supervisor cores are held in reset (R409, R410, R449); reset true. -/
  coresHeld : Bool := true
deriving DecidableEq, Repr

/-- The core pair's registers of R397 and its halt by the debug port (R409, R412, R413). -/
structure Cores where
  /-- User mode; reset machine mode. -/
  user : Bool := false
  mtvec : BitVec 32 := 0
  mcounteren : BitVec 32 := 0
  /-- `mcycle` at FAB cycle `cycAt`, from which it counts SUP cycles (log entry 91). -/
  mcycle : BitVec 64 := 0
  cycAt : Nat := 0
  minstret : BitVec 64 := 0
  /-- PMP entries 0..15: configuration byte, address register. -/
  pmpCfg : SMap (BitVec 8) := []
  pmpAddr : SMap (BitVec 32) := []
  /-- A halt request held until the first fetch outside the boot ROM, and a halt in force. -/
  haltReq : Bool := false
  halted : Bool := false
deriving DecidableEq, Repr

/-! ## Links (03, 04) -/

/-- An entry of a queue with the error that stands in its code word (R34, R361, R371). -/
structure Entry (α : Type) where
  val : α
  ecc : BitVec 17 := 0
deriving DecidableEq, Repr

/-- The fields of a decoded upstream frame (R56). -/
structure UpData where
  st : BitVec 8 := 0
  i : BitVec 16 := 0
  v : BitVec 16 := 0
  t : BitVec 16 := 0
  x : BitVec 16 := 0
  sq : BitVec 8 := 0
  /-- The frame caused a K23.7 (R22, R392). -/
  trip : Bool := false
deriving DecidableEq, Repr

/-- A mailbox's current buffer (R82). -/
structure Mbox where
  stale : Bool := false
  novalid : Bool := true
  crcf : Bool := false
  strobe : BitVec 5 := 0
  data : UpData := {}
  mfn : BitVec 32 := 0
  /-- AUX0..AUX15 (R82), extended as R67 marks them. -/
  aux : SMap (BitVec 32) := []
deriving DecidableEq, Repr

/-- Who issued the command in progress on a link (R85). -/
inductive CmdOwner where
  | training | bootstrap | remeasure | fsm | supervisor
deriving DecidableEq, Repr

/-- The command in progress on a link's channel (R64). -/
structure Cmd where
  owner : CmdOwner
  op : BitVec 8
  arg : BitVec 16
  /-- Counted frames that carried it (R64), or link frames since the first one for BOOT_DONE. -/
  frames : Nat := 0
  /-- The toggle was seen; the closing NOP frame is due (R64). -/
  acked : Bool := false
  /-- CMD_ACK before the command, as last seen in a valid frame. -/
  base : Bool := false
  /-- A downstream frame has carried it. -/
  sent : Bool := false
  /-- It was requested while a seize was pending, and waits for it (R111). -/
  waits : Bool := false
  /-- FAB cycle of the request, counted from reset, and what LNK_CMD held before it: a hardware requester that takes the
  channel in that cycle has it refused (R85). -/
  askedAt : Nat := 0
  before : BitVec 32 := 0
deriving DecidableEq, Repr

/-- A seize in progress on a link (R111). -/
structure Seize where
  /-- Unpre-empted seize frames still required. -/
  need : Nat := 2
  /-- Seize frames sent. -/
  sent : Nat := 0
  /-- A cut-off has come since the cause: the next frame may be its first seize frame. -/
  ready : Bool := false
deriving DecidableEq, Repr

/-- The values copied for a downstream frame (R84). -/
structure ActCopy where
  acta : BitVec 16 := 0
  actb : BitVec 16 := 0
  bgt : BitVec 8 := 0xFF
deriving DecidableEq, Repr

/-- A bootstrap round's member on a link (R76, R77). -/
structure BootMember where
  round : Nat
  /-- BOOT_START was acknowledged, and its closing NOP frame has left. -/
  acked : Bool := false
  closed : Bool := false
  /-- BOOT_DONE was acknowledged. -/
  done : Bool := false
  /-- Link frames since the BOOT_DONE toggle (R77). -/
  outcome : Nat := 0
  /-- Loader error of slot 4 received in those frames (R77). -/
  loaderErr : Nat := 0
deriving DecidableEq, Repr

/-- What the downstream frame in progress is (R55, R60, R64). -/
inductive FrameKind where
  | none | normal | audit | seize | block
  /-- It carries the command in progress. -/
  | cmd
  /-- The NOP that closes a command. -/
  | close
deriving DecidableEq, Repr

/-- The side conditions of a feed's thresholds (R261): RFT_CEIL applies; the under-voltage comparison is active. -/
structure ProtSel where
  ramp : Bool := false
  uv : Bool := false
deriving DecidableEq, Repr

/-- A link beside its registers (R64, R70..R77, R81..R85, R105, R110..R117, R553). -/
structure LinkSt where
  /-- A frame has ended on the upstream lane since the last consumer cycle (R70). -/
  arrived : Bool := false
  /-- Consecutive expected commas in LOCK or LOST (R70, R75). -/
  commas : Nat := 0
  /-- Link frames spent in LOCK (R72). -/
  lockFrames : Nat := 0
  /-- Consecutive frames without the expected comma while trained (R70). -/
  missed : Nat := 0
  /-- VERIFY has failed once since the last MEASURE entry by training or LOST (R72). -/
  verified : Bool := false
  /-- The VERIFY in progress follows LOST (R75). -/
  recovering : Bool := false
  /-- EN = 0 was written; the link goes OFF in the next link frame (R72). -/
  offPend : Bool := false
  /-- Valid upstream frames waiting for the mailbox, oldest first, at most 4 (R34). -/
  queue : List (Entry UpData) := []
  /-- The frame of the interval that failed its CRC, as decoded (R23, R392). -/
  badFrame : Option UpData := none
  /-- The mailbox's current buffer (R81, R82). -/
  mb : Mbox := {}
  /-- WDOG has been raised in this stale episode (R83). -/
  wdogEp : Bool := false
  /-- The command in progress (R64, R85). -/
  cmd : Option Cmd := none
  /-- CMD_ACK of the last valid upstream frame (R64). -/
  ack : Bool := false
  /-- Copies for the next downstream frames, oldest first, at most 2 (R34, R84). -/
  copies : List (Entry ActCopy) := []
  /-- What the last downstream frame carried in its actuation fields (R84, R373). -/
  last : ActCopy := {}
  /-- Thresholds written by TRIP and not yet latched (R180): fast trip, over-voltage, under-voltage. -/
  tripFt : Option (BitVec 15) := none
  tripOv : Option (BitVec 15) := none
  tripUv : Option (BitVec 15) := none
  /-- Over-voltage and under-voltage values last latched from TRIP (R180, R261); reset 32767 and 0. -/
  latOv : BitVec 15 := 32767
  latUv : BitVec 15 := 0
  /-- Thresholds' side conditions in force now, before, and the FAB cycle of the change, from reset (R261). -/
  prot : ProtSel := {}
  protBase : ProtSel := {}
  protQ : List (Nat × ProtSel) := []
  /-- An over-voltage or under-voltage episode is open (R262, R363 sources 73, 74). -/
  ovEp : Bool := false
  uvEp : Bool := false
  /-- The event of that episode has been raised (R262). -/
  ovRaised : Bool := false
  uvRaised : Bool := false
  /-- Position of the first K23.7 in the downstream frame in progress (R59). -/
  tripPos : Option Nat := none
  /-- The feed state machine asks for K23.7 in the next downstream frame (R263). -/
  tripReq : Bool := false
  /-- The upstream frame in progress caused a K23.7 (R22). -/
  tripped : Bool := false
  /-- S2 or S3 of the upstream frame in progress was bad: no comparison is made on it (R22). -/
  noCmp : Bool := false
  /-- What that frame is. -/
  kind : FrameKind := .none
  /-- The last downstream frame sent, 12 symbols (R55). -/
  down : List LSym := []
  /-- Downstream running disparity, true positive (R52). -/
  rd : Bool := false
  /-- Upstream running disparity, true positive (R52). -/
  rdUp : Bool := false
  /-- Membership of a bootstrap round (R76). -/
  boot : Option BootMember := none
  /-- RAM size of loader slot 1 as last received in a frame of the loader map (R79). -/
  ramKib : Option Nat := none
  /-- An autonomy episode is open (R117). -/
  autonEp : Bool := false
  /-- A role mismatch episode is open (R105). -/
  roleEp : Bool := false
  /-- An AUTH_REJECT episode is open (R113). -/
  authEp : Bool := false
  /-- An AUDIT_FAIL episode is open (R113). -/
  auditEp : Bool := false
  /-- A valid upstream frame has been seen since TRAINED was entered (R111, R117). -/
  firstSeen : Bool := false
  /-- AUTONOMOUS of the last valid upstream frame (R111). -/
  autonLast : Bool := false
  /-- The last valid frame on the seized link, R553 apart, showed AUTH_OK = 0 (R345). -/
  reject : Bool := false
  /-- The seize in progress (R111). -/
  seize : Option Seize := none
  /-- FAB cycle, counted from reset, in which the downstream frame with the last seize frame had left: the upstream frames
  of the four link frames from there on are disregarded for authority (R553). -/
  disregard : Option Nat := none
  /-- Valid upstream frames of the audit cycle (R113). -/
  auditValid : Nat := 0
  /-- One of them showed AUTH_OK = 1. -/
  auditOk : Bool := false
  /-- A downstream frame of the cycle in progress was not an audit frame. -/
  auditNon : Bool := false
  /-- The same for the last whole cycle. -/
  auditBad : Bool := false
  /-- SET_ADVANCE of a measurement or re-measurement waits for its window: the advance (R65, R38). -/
  advPend : Option Nat := none
  /-- SET_ADVANCE was acknowledged with this advance: VERIFY follows at the next frame 0 (R72). -/
  advAcked : Option Nat := none
  /-- Requests of the feed state machine that wait for the command channel, oldest first: opcode, argument (R85, R267). -/
  fsmCmds : List (BitVec 8 × BitVec 16) := []
  /-- Upstream commas all present since the re-measurement began (R38). -/
  remeasOk : Bool := false
  /-- A re-measurement is under way in this major frame (R38). -/
  remeasOn : Bool := false
  /-- ACTA, ACTB of the last downstream frames, newest first, at most 5; none for one that carried K23.7 or no actuation
  (R351). -/
  sentActs : List (Option (BitVec 16 × BitVec 16)) := []
  /-- The mailbox of the interval before, kept while feed state is transferred (R355). -/
  mbPrev : Mbox := {}
  /-- Consecutive failed echo checks of ACTA and ACTB (R351). -/
  echoFailA : Nat := 0
  echoFailB : Nat := 0
  /-- The echo episode of each field is open (R351). -/
  echoEpA : Bool := false
  echoEpB : Bool := false
deriving DecidableEq, Repr

/-- A bootstrap round (R76). -/
inductive RoundStep where
  | idle
  /-- GO was written; the round starts at the next major-frame start. -/
  | requested
  /-- BOOT_START is out. -/
  | starting
  /-- Block `b` is the next to send. -/
  | blocks (b : Nat)
  /-- SET_HOLD and BOOT_DONE are out. -/
  | closing
deriving DecidableEq, Repr

/-- The bootstrap engine's four rounds (R76): step of each descriptor's round. -/
structure Round where
  step : RoundStep := .idle
  /-- Source address and length in blocks, as the descriptor gave them at the start. -/
  addr : Nat := 0
  len : Nat := 0
  /-- The block being sent, which the engine reads once. -/
  data : List Byte := []
deriving DecidableEq, Repr

/-! ## Companions (03, 04, 09) -/

/-- A companion's roles (R99). -/
inductive Role where
  | feed | rect | batt | sens
deriving DecidableEq, Repr

/-- One port of a companion (R100, R104, R107, R108). -/
structure CompPort where
  /-- E_p, cleared on power-up and on entry to the loader (R107). -/
  ep : Option (BitVec 16) := none
  /-- Link frames since the last authority frame, 4 when not live (R107). -/
  age : Nat := 4
  /-- CMD_ACK toggle (R64). -/
  ack : Bool := false
  /-- The last valid frame carried NOP, so the next command executes (R64). -/
  nopSeen : Bool := false
  /-- Role that decided the frame whose command is about to execute, where one is (R101); the inner none is the loader. -/
  ruled : Option (Option Role) := none
  /-- Advance in 0.625 ns units (R65). -/
  adv : Nat := 0
  /-- Advance received and applied at the next strobe 0 (R65). -/
  advNext : Option Nat := none
  /-- Comma lock, and the consecutive link frames with a comma before it and without one after it (R70, R71). -/
  locked : Bool := false
  commas : Nat := 0
  missed : Nat := 0
  /-- Role tag of the last valid frame that carried one (R100). -/
  tag : Option Nat := none
  /-- EPL of the last valid frame in a role image, whether it was an audit frame, whether it passed the EPL check (R108). -/
  epl : Option (BitVec 8) := none
  audit : Bool := false
  passed : Bool := false
deriving DecidableEq, Repr

/-- A companion as its link partner obligations give it (R62..R65, R77..R79, R99..R116, R255..R258). -/
structure Comp where
  /-- None while it runs its loader (R99). -/
  role : Option Role := none
  own : CompPort := {}
  twin : CompPort := {}
  /-- The port it obeys (R107). -/
  obeyed : Option Port := none
  /-- Missing link frames (R114). -/
  miss : Nat := 0
  /-- In hold (R114). -/
  hold : Bool := false
  /-- In autonomy (R115). -/
  autonomous : Bool := false
  /-- t_hold in ms (R103, R114): 100 after power-up or RESET. -/
  tHold : Nat := 100
  /-- t_hold of the hold in progress (R116). -/
  tHoldNow : Nat := 100
  imageValid : Bool := false
  /-- Loader error of slot 4 (R77, R79, R99). -/
  loaderErr : Nat := 0
  /-- Port whose BOOT_START it accepted (R78). -/
  bootPort : Option Port := none
  /-- Blocks announced by BOOT_START and blocks received (R77). -/
  bootLen : Nat := 0
  bootGot : Nat := 0
  /-- Transfer failed: 0 no, 1 invalid block, 2 sequence (R77). -/
  bootFail : Nat := 0
  /-- The image in its RAM, by byte (R77). -/
  ram : SMap Byte := []
  /-- Health bits of ST (R56, R77). -/
  health : BitVec 2 := 0
  /-- Applied ACTA, ACTB, BGT (R62). -/
  acta : BitVec 16 := 0
  actb : BitVec 16 := 0
  bgt : BitVec 8 := 0xFF
  /-- Tray's budget line: the code it carries and the power-brake (R297). -/
  line : BitVec 8 := 0xFF
  brake : Bool := false
  /-- Frames whose ACTA was applied early and taken back (R62). -/
  restored : Nat := 0
  /-- Advance applied last on either port (R348). -/
  advLast : Nat := 0
  /-- Role at S1 of the frame in progress, where it has changed since (R101); the inner none is the loader. -/
  roleAt : Option (Option Role) := none
  /-- A valid NOP frame from the holder has come since the image started (R101). -/
  opened : Bool := false
  /-- Selected side, false A (R257). -/
  side : Bool := false
  /-- LOCAL_TRIP latch (R258), and what set it: K23.7 or the hard limit (R259). -/
  localTrip : Bool := false
  kTrip : Bool := false
  hardTrip : Bool := false
  /-- Hard-limit threshold in mA (R257). -/
  hardLim : BitVec 16 := 45000
  /-- Auxiliary slots 0..3 as the SENS image that runs declares them (R102); reset 0, no image. -/
  decl : BitVec 16 × BitVec 16 × BitVec 16 × BitVec 16 := (0, 0, 0, 0)
deriving DecidableEq, Repr

/-! ## Feed state machines (09) -/

/-- A firmware request of a feed (R269, R286). -/
inductive FeedReq where
  | on | off | clear
deriving DecidableEq, Repr

/-- A feed state machine beside its registers FSM_* (R265..R283). Timers count evaluations, one per link frame (R266): a
timer that runs holds the evaluations still to come. -/
structure Feed where
  /-- Side picked in PRECHECK, false A (R272). -/
  picked : Option Bool := none
  /-- PRECHECK timeout (R269). -/
  preT : Option Nat := none
  /-- Ramp timer of RAMP and MAKE (R269). -/
  rampT : Option Nat := none
  /-- Short timer (R273). -/
  shortT : Option Nat := none
  /-- LIMIT timer (R269). -/
  limT : Option Nat := none
  /-- Retry timer (R274). -/
  retryT : Option Nat := none
  /-- Dead time of a transfer (R278). -/
  deadT : Option Nat := none
  /-- Link frames left for the effect of FEED_CLEAR and of FEED_SIDE (R269). -/
  clrLim : Option Nat := none
  sideLim : Option Nat := none
  /-- Side that FEED_SIDE asked for (R272, R278). -/
  sideReq : Option Bool := none
  /-- FET-short time so far (R277). -/
  fsCnt : Nat := 0
  /-- Debounce: evaluations the raw state still has to differ (R276). -/
  dbT : Option Nat := none
  /-- Evaluations since debounced presence fell (R276). -/
  absent : Option Nat := none
  /-- Evaluations since the selected side's readings fell below IN_MIN (R278). -/
  sideCnt : Option Nat := none
  /-- Evaluations since PREF's readings entered the window (R279). -/
  retCnt : Option Nat := none
  /-- Evaluations in ON or LIMIT without interruption (R275). -/
  stable : Nat := 0
  /-- Consecutive valid frames with health other than 0b10 in LIMIT (R269). -/
  limExit : Nat := 0
  /-- SOA energy of the current or last ramp phase, in 7.5 pJ (R273). -/
  soa : Nat := 0
  /-- A fault episode is open (R275). -/
  episode : Bool := false
  /-- K23.7 was sent since the last FEED_CLEAR (R269). -/
  kSent : Bool := false
  /-- K23.7 was sent since the frame that first carried a FEED_CLEAR of firmware (R269). -/
  kAfter : Bool := false
  /-- A start under AUTO follows in the next evaluation (R276). -/
  autoPend : Bool := false
  /-- Link frames of the adoption still to come (R282). -/
  adopt : Option Nat := none
  /-- Requests not yet taken, in the order written (R271). -/
  reqs : List FeedReq := []
  /-- The 12 bits below the energy accumulator's LSB (R283). -/
  eLow : BitVec 12 := 0
deriving DecidableEq, Repr

/-! ## Tellers and schedules (05, 06, 07) -/

/-- Where an operation's result goes (R128, R131). -/
inductive Dest where
  | reg (r : Reg)
  | pred (p : Pred)
deriving DecidableEq, Repr

/-- A result in flight (R128): it lands at the end of FAB cycle `due`, counted from reset. -/
structure Result where
  due : Nat
  /-- Slot position of the operation that made it (R131). -/
  slot : SlotPos
  dest : Dest
  val : BitVec 32
  /-- A saturation made it (R127). -/
  sat : Bool := false
  /-- FAB cycle of issue, from reset (R131). -/
  issued : Nat
  /-- Bundle address of the operation (R153). -/
  addr : Nat := 0
deriving DecidableEq, Repr

/-- A multiply-accumulate operation on its way to its accumulate stage (R130). -/
structure AccOp where
  due : Nat
  /-- Slot position and bundle address of the operation (R133, R153). -/
  slot : SlotPos
  acc : Acc4
  clear : Bool
  add : Int
  addr : Nat := 0
deriving DecidableEq, Repr

/-- The task running on an engine (R123, R124, R188). -/
structure Task where
  entry : Nat
  /-- a₀. -/
  base : Nat
  /-- L. -/
  len : Nat
  /-- c₀, counted from reset. -/
  c0 : Nat
  slot : Nat
  /-- Descriptors of the bindings it defines, in binding order (R188). -/
  binds : List (BitVec 64)
  /-- Quashed from this FAB cycle on, counted from reset (R142). -/
  quash : Option Nat := none
deriving DecidableEq, Repr

/-- The memories of an engine as the scrub and the write-backs see them (R139, R141). -/
inductive EMem where
  | prog | ctx | scr | bank
deriving DecidableEq, Repr

/-- A Teller engine beside its registers TEL_* and its memories (R122, R128..R148, R204, R236). -/
structure Eng where
  /-- D0..D31 (R122). -/
  d : SMap (BitVec 32) := []
  /-- A0..A3 (R122). -/
  a : SMap (BitVec 64) := []
  /-- P0..P7; bit 0 reads 1 always (R122). -/
  p : BitVec 8 := 0
  task : Option Task := none
  results : List Result := []
  accs : List AccOp := []
  /-- CRC-32 of each slot so far, after the final XOR: 0 without a write (R148). -/
  dig : SMap (BitVec 32) := []
  /-- Quash bits of the major frame in progress (R148). -/
  digq : BitVec 16 := 0
  /-- Staging words 0..2 (R146). -/
  stage : SMap (BitVec 32) := []
  /-- Next code word the scrub reads, per memory (R141). -/
  scrubProg : Nat := 0
  scrubCtx : Nat := 0
  scrubScr : Nat := 0
  scrubBank : Nat := 0
  /-- Last code word whose uncorrectable error the scrub reported, per memory (R141). -/
  ueProg : Option Nat := none
  ueCtx : Option Nat := none
  ueScr : Option Nat := none
  ueBank : Option Nat := none
  /-- Corrected code words waiting to be written back (R141). -/
  wb : List (EMem × Nat) := []
  /-- The FAB cycle of the last access to the memories, counted from reset, and the memories it used (R141). -/
  used : Nat × List EMem := (0, [])
  /-- FAB cycle from which the engine is halted for an uncorrectable load, counted from reset (R139, R144). -/
  haltAt : Option Nat := none
  /-- An uncorrectable load that is known in this FAB cycle, counted from reset: cycle, bundle address, entry (R139). -/
  loadUe : Option (Nat × Nat × Nat) := none
  /-- Admitted entries, keyed by bank · 512 + entry (R201). -/
  admitted : SMap Bool := []
  /-- FAB cycle of the last task store to context or scratch, counted from reset, with its word (R147). -/
  lastStore : Option (Nat × Bool × Nat) := none
  /-- The word that the later of `lastStore` and `lastSup` replaced: a supervisor read in the store's cycle returns it
  (R147). -/
  lastOld : BitVec 32 := 0
  /-- The last supervisor write to context or scratch: FAB cycle, scratch or context, word, and the slot's digest before
  it (R147, R148). -/
  lastSup : Option (Nat × Bool × Nat × BitVec 32) := none
  /-- FAB cycle of the last write to context or scratch, counted from reset (R355). -/
  lastMem : Option Nat := none
  /-- What a timed update feeds to a slot's digest in its target frame (R230). -/
  cupdFeed : Option (Nat × List Byte) := none
  /-- Outbox stores on their way to the other engines: due cycle, scratch word, value (R236). -/
  relay : List (Nat × Nat × BitVec 32) := []
  /-- MFN of the frame that the pending context update targets (R230). -/
  cupdAt : Option (BitVec 32) := none
deriving DecidableEq, Repr

/-- A commit in progress (R197..R203). -/
structure Sch where
  mask : BitVec 16 := 0
  /-- AT of the commit. -/
  at_ : Bool := false
  /-- SWAP_MFN of the commit. -/
  swapMfn : BitVec 32 := 0
  /-- The decision of cycle 2399 was taken: the swap follows at the frame start (R200). -/
  decided : Bool := false
  /-- Pending enable requests in the order made: engine, set or clear, entry (R204). -/
  enReqs : List (Nat × Bool × Nat) := []
  /-- Requests of the hold-up switch (R304), applied after those. -/
  huReqs : List (Nat × Bool × Nat) := []
deriving DecidableEq, Repr

/-! ## Frequency response analyser (08) -/

/-- The analyser beside its registers FRA_* (R243..R247). -/
structure Fra where
  /-- Boundaries passed. -/
  k : Nat := 0
  /-- Phase accumulator φ, and that of the sample in force (R243). -/
  phi : BitVec 32 := 0
  phiOut : BitVec 32 := 0
  /-- The generator's shift register, seeded all ones (R243). -/
  lfsr : BitVec 15 := 0x7FFF
  /-- Samples of the step so far (R243). -/
  n : Nat := 0
  /-- Integration sums A_s, A_c, B_s, B_c (R245). -/
  sums : Int × Int × Int × Int := (0, 0, 0, 0)
  /-- Records captured (R246). -/
  cap : Nat := 0
  /-- Code of the early stop taken at the next boundary (R247, R248, R251). -/
  stop : Option Nat := none
  /-- A run that was stopped at once leaves its sample in force up to the next boundary (R247). -/
  tail : Bool := false
  /-- MFN at GO (R243): without AT the run starts in a later frame. -/
  goMfn : BitVec 32 := 0
  /-- The last step has ended, or the last PRBS sample (R247). -/
  ended : Bool := false
deriving DecidableEq, Repr

/-! ## Mint (10) -/

/-- A purse beside its registers MNT_P* (R288..R290, R295, R296). -/
structure Purse where
  /-- It takes part: its link is FEED and it was enabled at the last latch (R288, R298). -/
  on : Bool := false
  /-- Balance in 10^−8 coin (R288); reset 0 (R298). -/
  bal : Int := 0
  /-- Sum of the debits of the epoch, in the same unit (R290). -/
  used : Nat := 0
  /-- A debit of the epoch was clipped (R289). -/
  clip : Bool := false
  /-- U of the allocation in progress (R290). -/
  u : Nat := 0
  /-- A brake episode is open (R296). -/
  brake : Bool := false
  /-- Balance after the last credit, and the unclipped debits since (R355). -/
  credited : Int := 0
  since : Nat := 0
deriving DecidableEq, Repr

/-- The allocation that becomes visible with the credits (R294, R295). -/
structure Alloc where
  grants : List (Nat × Nat)
  rem : Nat
  short : Bool
  coins : Nat
deriving DecidableEq, Repr

/-- The Mint beside its registers MNT_*, which hold the pending configuration (R288..R307). -/
structure Mint where
  /-- The active configuration, by register address; an unlisted one is at its reset word (R293). -/
  act : SMap (BitVec 32) := []
  purses : SMap Purse := []
  /-- Substitutions in the debits of a link (R23). -/
  subst : SMap Nat := []
  /-- EN was active at the last latch (R298). -/
  run : Bool := false
  /-- The next latch starts every purse as at an enable: the safe state was left (R374). -/
  fresh : Bool := false
  /-- GO is pending: its target MFN, none inside for AT = 0 (R293). -/
  go : Option (Option Nat) := none
  alloc : Option Alloc := none
  /-- The last allocation could not grant every floor (R303). -/
  short : Bool := false
  /-- Instant of the assertion of HOLDUP, in FAB cycles since reset (R303). -/
  huAt : Nat := 0
  /-- Evaluations for which the count has stayed below AC_N (R302). -/
  below : Option Nat := none
  /-- HOLDUP changed: the hold-up switch acts at the next major-frame start (R304). -/
  huSw : Option Bool := none
  /-- MFN of the last allocation (R338). -/
  digMfn : Nat := 0
deriving DecidableEq, Repr


/-! ## Battery estimator (11) -/

/-- A string beside its registers BAT_* (R311..R330). Charge is in Tally counts of 3 nC. -/
structure BStr where
  /-- Seeded since it was enabled (R330). -/
  live : Bool := false
  /-- Last valid I (R311). -/
  iLast : Int := 0
  /-- Tally at the previous update (R315). -/
  prev : Int := 0
  /-- Q_c, Q_r and the uncertainty (R315, R320, R324). -/
  qc : Int := 0
  qr : Int := 0
  u : Nat := 0
  /-- Remainders carried: blend (R320), throughput and drift (R324). -/
  remB : Nat := 0
  remT : Nat := 0
  remD : Nat := 0
  /-- Valid samples of the epoch and their sums of V, I, T (R321). -/
  n : Nat := 0
  sv : Int := 0
  si : Int := 0
  st : Int := 0
  /-- Rest timer (R318). -/
  rest : Nat := 0
  /-- Rest intervals counted in this epoch, and whether the timer restarted in it (R355). -/
  epRest : Nat := 0
  /-- Substituted intervals of this epoch (R331, R355). -/
  epSub : Nat := 0
  epRestart : Bool := false
  /-- V and T of the valid samples of this rest, newest first: the last ones that an average takes, and up to as many
  before them (R318). -/
  hist : List (Int × Int) := []
  /-- S1 and the timer count at which it was stored (R318). -/
  s1 : Option (Nat × Int) := none
  /-- Readings complete and not yet applied: mean cell voltage and sum of T (R318). -/
  ext : Option (Int × Int) := none
  dir : Option (Int × Int) := none
  /-- The previous anchor, a reading: its Tally and its SoC_v (R328). -/
  anchor : Option (Int × Nat) := none
  /-- LINK was set since that anchor (R328). -/
  linkSeen : Bool := false
  /-- Consecutive updates with disagreement (R321). -/
  hiCnt : Nat := 0
  loCnt : Nat := 0
  /-- Auxiliary slot of the last upstream frame, and the slots received in this rotation (R314). -/
  slot : Nat := 15
  seen : BitVec 16 := 0
  /-- Consecutive valid rotations below the cut-off, and above its release (R323). -/
  lowCnt : Nat := 0
  okCnt : Nat := 0
  /-- CUTOFF was set since the last update (R323). -/
  cut : Bool := false
deriving DecidableEq, Repr

/-- When the next rest window is decided (R325, R326). -/
inductive RotPlan where
  | off
  /-- At the next update. -/
  | next
  /-- At the first update with HOLDUP = 0. -/
  | aborted
  /-- For the window that begins at this MFN. -/
  | window (ms : Nat)
deriving DecidableEq, Repr

/-- A rest window announced or running (R325, R326). -/
structure RestWin where
  str : Nat
  ms : Nat
  w : Nat
  /-- A reading was completed in it. -/
  read : Bool := false
deriving DecidableEq, Repr

/-- The estimator beside its registers BAT_*, which hold the pending configuration (R315..R333). -/
structure Bat where
  /-- The active configuration, by register address (R333). -/
  act : SMap (BitVec 32) := []
  strs : SMap BStr := []
  /-- GO is pending: its target MFN, none inside for AT = 0 (R333). -/
  go : Option (Option Nat) := none
  plan : RotPlan := .off
  /-- The window announced and the window running. -/
  ann : List RestWin := []
  run : Option RestWin := none
  /-- String at which the choice starts (R325). -/
  first : Nat := 0
  /-- MFN of the last update (R338). -/
  digMfn : Nat := 0
deriving DecidableEq, Repr


/-! ## Twin link (12) -/

/-- A lane of the twin link (R337, R339). -/
structure Lane where
  /-- Commas seen at 20-symbol spacing, up to the 4 that lock the receiver. -/
  commas : Nat := 0
  /-- Consecutive good and consecutive bad cells. -/
  good : Nat := 0
  bad : Nat := 0
  /-- Lane sequence of the next cell sent, modulo 128 (R337). -/
  seq : Nat := 0
  /-- Running disparity of the lane as it sends and as it receives; `true` positive (R52, R337). -/
  rd : Bool := false
  rdRx : Bool := false
  /-- Lane sequence of the last cell received, none before the first one of a lock (R339). -/
  rxSeq : Option Nat := none
  /-- Symbols C0..C19 of the last cell sent (R337). -/
  out : List LSym := []
deriving DecidableEq, Repr

/-- A handover the holder asked for (R343). -/
structure HoReq where
  mfn : Nat
  frame : Nat
  /-- E′ of the ACK received. -/
  ack : Option Nat := none
  /-- Reason of the NACK received. -/
  nack : Option Nat := none
deriving DecidableEq, Repr

/-- A forwarded command being received (R354). -/
structure FwdRx where
  target : Nat
  len : Nat
  tag : Nat
  epoch : Nat
  /-- Words received, by index. -/
  words : SMap (BitVec 32) := []
  /-- Data cells received, by index. -/
  cells : List Nat := []
deriving DecidableEq, Repr

/-- A state transfer on the standby (R355). -/
structure Xfer where
  sel : Nat
  xw : Nat
  /-- Start frame M. -/
  m : Nat
  accepted : Bool := false
  /-- Snapshot words by address (engines), or cells by arrival (other blocks). -/
  snap : SMap (BitVec 32) := []
  cells : List (BitVec 112) := []
  /-- Writes received after the snapshot, oldest first: address, value. -/
  jr : List (Nat × BitVec 32) := []
  /-- Feeds applied so far (SEL 16), and for each its own state as it would be without the transfer. -/
  fi : Nat := 0
  kept : List (Nat × List Int) := []
  /-- FAB cycle of the last cell of the transfer, counted from reset. -/
  lastAt : Nat := 0
deriving DecidableEq, Repr

/-- A state transfer that the holder serves (R355). -/
structure Serve where
  sel : Nat
  xw : Nat
  m : Nat
  /-- Frame M has started: the state was captured. -/
  started : Bool := false
  /-- Frame F is over: no further write is recorded. -/
  closed : Bool := false
  /-- Feeds captured so far (SEL 16), and feeds to repeat at the end of the pass. -/
  fi : Nat := 0
  again : List Nat := []
  /-- Snapshot cells still to send, as INDEX and payload bits, and writes still to send: MFN16, address, value. -/
  snap : List (BitVec 112) := []
  jr : List (Nat × Nat × BitVec 32) := []
deriving DecidableEq, Repr

/-- The twin link beside its registers TWN_* (R336..R355). -/
structure Twn where
  lanes : SMap Lane := []
  /-- A clash was seen since reset: no claim and no takeover (R336). -/
  clashed : Bool := false
  /-- FAB cycle of the last valid cell, and of the last valid AUTH cell, counted from reset (R344, R358). -/
  lastCell : Option Nat := none
  lastAuth : Option Nat := none
  /-- Highest counter seen in peer AUTH cells (R341). -/
  cPeer : Nat := 0
  /-- MFN of the last AUTH cell that showed HOLDER = 1, and of the last that showed CLAIM pending (R342). -/
  peerHeld : Option Nat := none
  peerClaim : Option Nat := none
  /-- A peer AUTH cell showed RELEASE = 1 and HOLDER = 0; the next evaluation takes it (R344). -/
  peerReleased : Bool := false
  /-- RELEASE in the own AUTH cells (R347). -/
  release : Bool := false
  /-- An AUTH cell is due, and the payload of the last one sent (R339). -/
  authDue : Bool := false
  authSent : BitVec 112 := 0
  timeDue : Bool := false
  /-- HEALTH payload formed at the frame start and not yet sent (R338, R339). -/
  health : Option (BitVec 112) := none
  /-- Next DIGEST cell to send, 90 when all have left (R350). -/
  digNext : Nat := 90
  /-- Forwarding: cells waiting and the lane they use; responses waiting (R339, R354). -/
  fwd : List (BitVec 128) := []
  fwdLane : Option Nat := none
  rsp : List (BitVec 128) := []
  fwdRx : Option FwdRx := none
  /-- Transfer requests and responses waiting, and the lane of the transfer (R339, R355). -/
  xcells : List (BitVec 128) := []
  xLane : Option Nat := none
  xfer : Option Xfer := none
  serve : Option Serve := none
  /-- Major frame in which the transfer of a block, by SEL, last ran (R350, R355). -/
  moved : SMap Nat := []
  /-- TWN_HBI and whether an edge on it has come since the last evaluation; FAB cycle of that evaluation (R340). -/
  hbi : Bool := false
  hbSeen : Bool := false
  hbAt : Option Nat := none
  /-- TWN_HBO (R340); low in reset. -/
  hbo : Bool := false
  /-- PEER_LOST was raised and no heartbeat has come since (R340). -/
  lost : Bool := false
  /-- TWN_AUTH_IN at the last evaluation; that and READY at the first miss (R344). -/
  authPrev : Bool := false
  missAuth : Bool := false
  missReady : Bool := false
  /-- Condition that TAKEOVER_BLOCKED reported last in this episode; EPOCH_EXHAUST was raised in it (R106, R344). -/
  blocked : Option Nat := none
  exhausted : Bool := false
  /-- Handover: the holder's request; the standby's ACK with MFN, frame and E′, or its NACK with the reason (R343). -/
  ho : Option HoReq := none
  hoAck : Option (Nat × Nat × Nat) := none
  /-- An AUTH cell with that ACK has left. -/
  hoSent : Bool := false
  hoNack : Option (Nat × Nat × Nat) := none
  /-- Consecutive link frames in which most seized links reject (R345). -/
  reject : Nat := 0
  /-- Peer digests by DIGEST index, as received (R350). -/
  dig : SMap (BitVec 112) := []
  /-- Payload of the last peer HEALTH cell and the FAB cycle it came, counted from reset (R350, R352). -/
  peerHealth : Option (BitVec 112 × Nat) := none
  /-- Engines RUNNING at the start of the major frame (R350). -/
  ownRun : BitVec 16 := 0
  /-- MFN whose comparison was made last, and the run of equal frames (R350). -/
  compared : Option Nat := none
  digRun : Nat := 0
deriving DecidableEq, Repr



/-! ## Start-up and update (17, 20) -/

/-- What the boot ROM left the cores doing (R449, R455, R458, R459). -/
inductive Rom where
  /-- The cores have not been released since the reset. -/
  | reset
  /-- They run an image. -/
  | image
  /-- No image: they wait for debug. -/
  | debug
  /-- No image: the ROM serves recovery over Ethernet. -/
  | eth
deriving DecidableEq, Repr

/-- Reset, boot and update (R445..R472, R517, R538). -/
structure Boot where
  /-- PORST_N is low (R445); reset false. -/
  porst : Bool := false
  /-- VDD_AON, VDD_CORE or VDD_LNK is below its minimum (R538); reset false. -/
  rail : Bool := false
  /-- Cause that source 33 carries at the next release of the cores (R471): 1 POR, 2 SYSREQ, 3 VHOLD. -/
  cause : Nat := 1
  /-- The straps as PORST_N's last rising edge sampled them, laid out as SYS_STRAP shows them (R446). -/
  straps : BitVec 5 := 0
  /-- Value of the next WARM event (R471): 1 a request, 2 an action. -/
  warm : Nat := 1
  rom : Rom := .reset
  /-- The ROM found no image to start and keeps SAFE_N low (R458). -/
  noImage : Bool := false
  /-- Codes of R454 for slots 0 and 1, 0xFF when not checked (R457). -/
  codes : Nat × Nat := (0xFF, 0xFF)
  /-- IMAGE_LEN of the last BEGIN, none before (R466). -/
  staged : Option Nat := none
  /-- A VERIFY passed after the last WRITE (R466). -/
  verified : Bool := false
  /-- `a0` at the return of the last ROM service (R419, R466). -/
  status : Nat := 0
  /-- IMAGE_LEN of the last BEGIN of the recovery, and its target slot (R517). -/
  ethLen : Option Nat := none
  ethSlot : Nat := 0
  /-- GRANT of MAKER was accepted in this recovery (R459). -/
  ethMaker : Bool := false
  /-- A request has come, so HELLO is no longer sent (R517). -/
  ethHeard : Bool := false
  /-- TAG of the last request received, none before (R517). -/
  ethTag : Option (BitVec 16) := none
  /-- OP, STATUS and payload of the last recovery frame sent, and how many have been sent (R517). -/
  ethOut : Nat × Nat × List Byte := (0, 0, [])
  ethSent : Nat := 0
  /-- The ROM's search for a PHY is at this MDIO address; and the PHY found (R517). -/
  phyAt : Option Nat := none
  phy : Option Nat := none
  /-- Instruction of the test port (R445, R536). -/
  tap : Tap := .idcode
  /-- What the port captured last, bit 0 first, and the boundary-scan register as it was updated last (R536); reset none. -/
  captured : List Bool := []
  scan : List Bool := []
deriving DecidableEq, Repr

/-! ## The Vault (16) -/

/-- A Vault command in progress (R435, R436). -/
structure VltCmd where
  cmd : Nat
  region : Nat
  value : Nat
  addr : Nat
  data : BitVec 32
  /-- Cells it pulses: word, bits of copy a, bits of copy b. -/
  cells : List (Nat × BitVec 32 × BitVec 32)
deriving DecidableEq, Repr

/-- The Vault beside its registers VLT_* (R423..R444). Words 0..511 are the logical words; bit r of word 512 is the
write-lock fuse of region r, and of word 513 its read-lock fuse. -/
structure Vlt where
  /-- Copies a and b of every bit as they read at normal and at strict margin (R426, R427). -/
  aN : SMap (BitVec 32) := []
  aS : SMap (BitVec 32) := []
  bN : SMap (BitVec 32) := []
  bS : SMap (BitVec 32) := []
  /-- Values in use, by word (R430, R441). -/
  val : SMap (BitVec 32) := []
  /-- Shadow words (R440). -/
  shadow : SMap (BitVec 32) := []
  /-- VLT_PKEY was written with its key after the last GO (R435). -/
  pkey : Bool := false
  cmd : Option VltCmd := none
  /-- The device is held in reset for integrity since this FAB cycle, counted from reset (R432). -/
  hold : Option Nat := none
deriving DecidableEq, Repr

/-! ## Two-wire buses (18) -/

/-- A line of a two-wire port on its way through the synchroniser and the glitch filter (R475). -/
structure TwLine where
  /-- Level of the ball, and the two flops behind it. -/
  level : Bool := true
  ff1 : Bool := true
  ff2 : Bool := true
  /-- TWB cycles that the second flop has differed from the filtered level. -/
  run : Nat := 0
  /-- The filtered level, and the FAB cycle since which the line has had it, counted from reset. -/
  out : Bool := true
  at_ : Nat := 0
deriving DecidableEq, Repr

/-- A controller port beside its registers TWB_* (R477..R488). -/
structure Twb where
  /-- TWB_CMD of the command in progress. -/
  cmd : Option (BitVec 32) := none
  /-- Restarts after a lost arbitration or a bus error so far (R482). -/
  tries : Nat := 0
  /-- Segment of a split write, and the data bytes of the segments before it (R485). -/
  seg : Nat := 0
  sent : Nat := 0
  /-- Probes sent since the segment, while the port polls (R485). -/
  probes : Option Nat := none
  /-- The command waits for a free bus; FAB cycle in which its transaction or probe began or begins (R476, R485). -/
  wait : Bool := false
  begun : Nat := 0
  /-- Bytes that the port sends in the transaction or probe in progress, or sent in the last one: address bytes, pointer,
  count, data, PEC (R477, R480, R485). -/
  out : List (BitVec 8) := []
  /-- A CLEAR: clocks given so far, and whether its START and STOP have begun (R487). -/
  clocks : Nat := 0
  ends : Bool := false
  /-- A STOP that the port owes the bus as soon as SCL is high (R483). -/
  owes : Bool := false
  /-- The lines as the other devices hold them; TWB_STAT shows their filtered levels, with SCL low in a HOLD (R475). -/
  scl : TwLine := {}
  sda : TwLine := {}
  /-- A START was seen and no STOP since; FAB cycle since which both filtered lines are high (R476). -/
  taken : Bool := false
  high : Option Nat := some 0
  /-- FAB cycle in which a write that set EN looks at the lines (R488). -/
  look : Option Nat := none
  /-- A GO written while BUSY, until its TWB cycle is over (R486). -/
  late : Option (BitVec 32) := none
deriving DecidableEq, Repr

/-- A transfer of the host in which the target port is addressed (R490..R494). -/
structure TwtHost where
  /-- A read. -/
  read : Bool
  /-- FAB cycle in which it began. -/
  since : Nat
  /-- Pointer bytes of a write so far. -/
  hdr : List (BitVec 8) := []
  /-- Pointer before the first byte, bytes stored or sent, and whether a byte was not acknowledged. -/
  first : Nat := 0
  count : Nat := 0
  refused : Bool := false
  /-- The word copied at the last pointer that was a multiple of 4 (R492). -/
  word : Option (BitVec 32) := none
deriving DecidableEq, Repr

/-- The target port beside its registers TWT_* (R489..R496). -/
structure Twt where
  /-- The transfer in progress; ACTIVE reads 1 meanwhile. -/
  host : Option TwtHost := none
  /-- Its lines as the other devices hold them (R475, R494). -/
  scl : TwLine := {}
  sda : TwLine := {}
  /-- Bytes sent in the last host read (R492). -/
  out : List Byte := []
  /-- ATTN_TMO was raised for the request pending (R496). -/
  tmoRaised : Bool := false
  /-- A TWB cycle, and in it the window bytes that host writes stored and those that register writes named (R492), and
  whether a REQ was written or a request was completed (R496). -/
  cycle : Nat := 0
  hostBytes : List Nat := []
  supBytes : List Nat := []
  asked : Bool := false
  answered : Bool := false
deriving DecidableEq, Repr

/-! ## Timers, housekeeping, GPIO, Ethernet, xSPI (19) -/

/-- A timer channel beside its registers TMR_* (R501..R508). -/
structure Tmr where
  /-- The period in effect, where TMR_PER holds another one that waits for the wrap (R502). -/
  per : Option (BitVec 32) := none
  /-- TBS ticks since the last count tick (R501). -/
  pre : Nat := 0
  /-- Output level (R508). -/
  out : Bool := false
  /-- The period took effect at or below CNT: the next count tick wraps (R503). -/
  short : Bool := false
  /-- A master event of the tick before acts in the next TBS tick (R506). -/
  mev : Bool := false
  /-- T at which TMR_PER was written with PRELOAD = 0, until that write takes effect (R502). -/
  perAt : Option (BitVec 64) := none
  /-- The compare value in effect and T of the write, until a write of TMR_CMP takes effect (R504). -/
  cmp : Option (BitVec 32 × BitVec 64) := none
  /-- TMR_CAP before the last capture, and the T of that capture (R505). -/
  capOld : BitVec 32 := 0
  capAt : Option (BitVec 64) := none
  /-- A capture with CAPF = 1, until its TBS tick is over: a read in it still makes room (R505). -/
  capWait : Option (BitVec 32) := none
deriving DecidableEq, Repr

/-- The housekeeping ADC beside its registers HKA_* (R511, R512). -/
structure Hka where
  /-- Channels of the scan still to convert. -/
  scan : List Nat := []
  /-- Channels in a window episode (R512). -/
  episodes : BitVec 16 := 0
  /-- Channel of the last result, and its HKA cycle (R512). -/
  resAt : Option (Nat × Nat) := none
deriving DecidableEq, Repr

/-- The MAC beside its registers ETH_* (R515, R516). -/
structure Eth where
  /-- Next descriptor of each ring. -/
  txIdx : Nat := 0
  rxIdx : Nat := 0
  /-- ETH_TXKICK was written and owned descriptors are being sent. -/
  sending : Bool := false
  /-- T at the start-of-frame delimiter of the frame being sent (R516). -/
  sfd : BitVec 64 := 0
  /-- The last frame sent, with padding and FCS (R515). -/
  wire : List Byte := []
deriving DecidableEq, Repr

/-- An operation of the xSPI bus (R519, R522). -/
structure XspOp where
  cs : Nat
  /-- 8D-8D-8D, and the clock: 200, 100, 50 or 25 MHz. -/
  ddr : Bool
  clk : Nat
  /-- Command bytes, address, dummy cycles. -/
  cmd : List Byte
  addr : Option (BitVec 32)
  dummy : Nat
  /-- Data phase: to the device, with its bytes, or from it. -/
  write : Bool
  len : Nat
  data : List Byte
deriving DecidableEq, Repr

/-- The xSPI controller beside its registers XSP_* (R520..R525). -/
structure Xsp where
  /-- The last operation that the bus took (R519, R522); reset none. -/
  op : Option XspOp := none
  /-- Window reads that wait for the operation in progress (R524): requester and address; reset none. -/
  waits : List (Who × Nat) := []
  /-- The block buffer of the read window: its block and bytes (R520). -/
  buf : Option (Nat × List Byte) := none
  /-- XSP_ICMD and XSP_ILEN of the indirect command in progress (R522). -/
  icmd : Option (BitVec 32 × Nat) := none
  /-- It runs in 8D-8D-8D, by its profile at GO (R521). -/
  ddr : Bool := false
  /-- The next window read ends as a DQS failure (R525). -/
  dqs : Bool := false
  /-- A GO written while BUSY, until its cycle is over (R523). -/
  late : Option (BitVec 32) := none
deriving DecidableEq, Repr


/-! ## The block -/

/-- The members of the family (R1). -/
inductive Member where
  | sc12 | sc24 | sc48 | ocxieno
deriving DecidableEq, Repr

/-- The whole state of the block. -/
structure State where
  /-- Every register, by address (RegMap.lean); an unlisted one holds its reset word. -/
  regs : SMap (BitVec 32) := []
  /-- The resources enabled (R1, R431): a blank Vault gives those of the Ocxieno (log entry 4). -/
  member : Member := .ocxieno
  clk : Clk := {}
  mrg : Merge := {}
  fcu : Fcu := {}
  ldg : Ldg := {}
  bus : Bus := {}
  cores : Cores := {}
  /-- Links by number. -/
  links : SMap LinkSt := []
  /-- Feed state machines by number. -/
  feeds : SMap Feed := []
  /-- Companions by link number. -/
  comps : SMap Comp := []
  /-- Bootstrap rounds by descriptor (R76). -/
  rounds : SMap Round := []
  /-- Teller engines by number. -/
  engs : SMap Eng := []
  /-- Program memory: bundle a of engine n at n · 4096 + a (R121). -/
  prog : SMap (BitVec 128) := []
  /-- Context memory: word i of slot s of engine n at n · 2048 + 128 · s + i (R121). -/
  ctx : SMap (BitVec 32) := []
  /-- Scratch memory: word i of engine n at n · 2048 + i (R121). -/
  scr : SMap (BitVec 32) := []
  /-- Schedule entries: entry e of bank x of engine n at n · 1024 + 512 · x + e (R186). -/
  ents : SMap (BitVec 64) := []
  /-- Binding descriptors: d of bank x of engine n at n · 512 + 256 · x + d (R186). -/
  binds : SMap (BitVec 64) := []
  /-- Check-bit errors standing in stored code words (R360, R371), by store and word (`eccKey`). -/
  ecc : SMap (BitVec 17) := []
  sch : Sch := {}
  fra : Fra := {}
  mint : Mint := {}
  bat : Bat := {}
  twn : Twn := {}
  /-- Ledger ring, byte offset from 0x4800_0000 (R381). -/
  ring : SMap Byte := []
  /-- Waveform store, byte offset from 0x4810_0000 (R400). -/
  wave : SMap Byte := []
  /-- ITCM, byte offset from 0x1000_0000 (R397). -/
  itcm : SMap Byte := []
  /-- DTCM, byte offset from 0x1800_0000 (R397). -/
  dtcm : SMap Byte := []
  /-- Flash on XSP_CS_N[0], byte offset from 0x2000_0000 (R450). -/
  flash : SMap Byte := []
  /-- MRAM on XSP_CS_N[1], byte address (R385). -/
  mram : SMap Byte := []
  boot : Boot := {}
  vlt : Vlt := {}
  /-- Two-wire controller ports by number. -/
  twbs : SMap Twb := []
  twt : Twt := {}
  /-- Timer channels by number. -/
  tmrs : SMap Tmr := []
  hka : Hka := {}
  /-- GPIO pins in an ALERT episode (R513). -/
  alerts : BitVec 24 := 0
  /-- Levels of the GPIO balls, the two flops behind them, and the TBS ticks that the second has differed from the filtered
  level (R513). -/
  gpioBall : BitVec 24 := 0
  gpioFf1 : BitVec 24 := 0
  gpioFf2 : BitVec 24 := 0
  gpioRun : SMap Nat := []
  /-- An indirect command may have programmed or erased the flash: what the window reads is the device's (R520); reset
  false. -/
  flashOpen : Bool := false
  /-- T of a TBS tick and the pins that GPIO_SET has set in it (R514). -/
  gpioSetAt : BitVec 64 × BitVec 32 := (0, 0)
  eth : Eth := {}
  xsp : Xsp := {}
  /-- W1C bits that the hardware set in the FAB cycle in progress, by register address: a write of 1 in that cycle does not
  clear them (R20). The model's own field; reset empty. -/
  hw : SMap (BitVec 32) := []
  /-- Timers running on the block's clocks: the instant each ends, in FAB cycles since reset, and the command that its end
  is (log entry 6). -/
  alarms : List (Nat × Instr) := []
  /-- The model's own counter of free values drawn so far, no state of the spec (log entry 2). -/
  free : Nat := 0
  /-- Commands waiting, first in, first out. -/
  pending : List Instr := []
deriving DecidableEq, Repr

/-- A step never faults: no rule of the spec stops the block, so this type has no constructor. -/
inductive Fault where
deriving DecidableEq, Repr

/-- Why a command has no meaning. -/
inductive Refusal where
  /-- An arm of the dispatch that is not modelled, by mnemonic. Raised by the dispatch alone; safe. -/
  | notModelled (mnemonic : String)
  /-- A command that is not well formed (WellFormed.lean): an operand no spec value corresponds to, such as a frame that
  has not 12 symbols. Raised by the meaning of that command; safe. -/
  | illFormed (mnemonic : String)
deriving DecidableEq, Repr

/-- The block right after reset: PORST_N has just risen with every strap at 0, and the start-up runs (R445, R449, R472):
the self-check, the two PLLs, the Vault's scan and the release of the supervisor follow at their times. -/
def State.reset : State where
  regs := [(SYS_RST_CAUSE, 1)]
  alarms := [(1600, .selfCheck true), (12500, .pllLock .frame), (12500, .pllLock .system), (50000, .vaultScan),
    (80000, .supervisorRelease)]

end Sys2Proof.Machine
end

