-- ==== Sys2Proof/Machine/Ops.lean ====
section
/-! DEFINITION. Machine/Ops.lean: the named operations every block uses: reading and writing registers and their fields,
the timestamp, raising an event, detecting a fault, the resources a member enables, the units' records. -/

namespace Sys2Proof.Machine

/-! ## Register fields -/

/-- `n` low ones. -/
def ones (n : Nat) : Word := BitVec.ofNat 32 (2 ^ n - 1)

/-- Bits `hi..lo` of a word, as a number. -/
def bitsOf (w : Word) (hi lo : Nat) : Nat := ((w >>> lo) &&& ones (hi + 1 - lo)).toNat

/-- A word with bits `hi..lo` replaced by the low bits of `v`. -/
def setBits (w : Word) (hi lo v : Nat) : Word :=
  (w &&& ~~~(ones (hi + 1 - lo) <<< lo)) ||| ((BitVec.ofNat 32 v &&& ones (hi + 1 - lo)) <<< lo)

/-- The word of the register at address `a`. -/
def State.word (s : State) (a : Nat) : Word := SMap.get resetWord s.regs a

/-- Sets the whole word of the register at address `a`. -/
def State.setWord (s : State) (a : Nat) (w : Word) : State := { s with regs := SMap.set resetWord s.regs a w }

/-- A register field, as a number. -/
def State.get (s : State) (f : Fld) : Nat := bitsOf (s.word f.addr) f.hi f.lo

/-- A one-bit field. -/
def State.bit (s : State) (f : Fld) : Bool := s.get f == 1

/-- Sets a register field to the low bits of `v`. -/
def State.put (s : State) (f : Fld) (v : Nat) : State := s.setWord f.addr (setBits (s.word f.addr) f.hi f.lo v)

/-- Sets a one-bit field. -/
def State.putBit (s : State) (f : Fld) (b : Bool) : State := s.put f (if b then 1 else 0)

/-- W1C bits of the register at `a` that the hardware set in this FAB cycle (R20). -/
def State.hwBits (s : State) (a : Nat) : Word := SMap.get (fun _ => 0) s.hw a

/-- The hardware sets a W1C bit: a software clear in the same FAB cycle loses (R20). -/
def State.hwSet (s : State) (f : Fld) : State :=
  let s := s.putBit f true
  { s with hw := SMap.set (fun _ => 0) s.hw f.addr (setBits (s.hwBits f.addr) f.hi f.lo 1) }

/-- The hardware sets or clears a W1C bit. -/
def State.hwPut (s : State) (f : Fld) (b : Bool) : State := if b then s.hwSet f else s.putBit f false

/-- The largest value of a field. -/
def Fld.max (f : Fld) : Nat := 2 ^ (f.hi + 1 - f.lo) - 1

/-- Counts up by `n`, saturating at the field's largest value (R97). -/
def State.incBy (s : State) (f : Fld) (n : Nat) : State := s.put f (min (s.get f + n) f.max)

/-- SCRAPPED is in force: the engines and the links stay off (R437). -/
def State.scrapped (s : State) : Bool := s.get VLT_LC_LC == 4

/-- `n` FAB cycles from now, to the last one of the TBS tick in which they end (R5). -/
def State.toTickEnd (s : State) (n : Nat) : Nat := if s.clk.cyc % 5 = 0 then n + 1 else n

/-- Counts up by one, saturating (R97). -/
def State.inc (s : State) (f : Fld) : State := s.incBy f 1

/-- A register field taken as two's complement. -/
def State.getInt (s : State) (f : Fld) : Int :=
  if s.get f < 2 ^ (f.hi - f.lo) then (s.get f : Int) else (s.get f : Int) - (2 ^ (f.hi + 1 - f.lo) : Nat)

/-- A number as an `n`-bit two's-complement pattern. -/
def ofInt (n : Nat) (i : Int) : Nat := (i % (2 ^ n : Nat)).toNat

/-- The signed value of a pattern of 16 bits. -/
def s16 (b : BitVec 16) : Int := b.toInt

/-! ## Folding over units -/

/-- Applies `f` for 0, 1, …, n − 1 in order. -/
def State.forN (s : State) (n : Nat) (f : Nat → State → State) : State :=
  (List.range n).foldl (fun t i => f i t) s

/-! ## Resources (R1, R2): a device that the Vault holds in reset enables none -/

/-- Links, feed state machines and purses of a member. -/
def Member.links (m : Member) : Nat := match m with | .sc12 => 12 | .sc24 => 24 | .sc48 => 48 | .ocxieno => 96
/-- Teller engines of a member. -/
def Member.engines (m : Member) : Nat := match m with | .sc12 => 2 | .sc24 => 4 | .sc48 => 8 | .ocxieno => 16
/-- Battery strings of a member. -/
def Member.strings (m : Member) : Nat := match m with | .sc12 => 2 | .sc24 => 4 | .sc48 => 8 | .ocxieno => 8

/-- Links, feed state machines and purses enabled. -/
def State.nLinks (s : State) : Nat := if s.vlt.hold.isSome then 0 else s.member.links

/-- Teller engines enabled. -/
def State.nEngines (s : State) : Nat := if s.vlt.hold.isSome then 0 else s.member.engines

/-- Battery strings enabled. -/
def State.nStrings (s : State) : Nat := if s.vlt.hold.isSome then 0 else s.member.strings

/-! ## Records of the equal units -/

def State.link (s : State) (k : Nat) : LinkSt := SMap.get (fun _ => {}) s.links k
def State.setLink (s : State) (k : Nat) (l : LinkSt) : State := { s with links := SMap.set (fun _ => {}) s.links k l }
def State.modLink (s : State) (k : Nat) (f : LinkSt → LinkSt) : State := s.setLink k (f (s.link k))
def State.comp (s : State) (k : Nat) : Comp := SMap.get (fun _ => {}) s.comps k
def State.setComp (s : State) (k : Nat) (c : Comp) : State := { s with comps := SMap.set (fun _ => {}) s.comps k c }
def State.modComp (s : State) (k : Nat) (f : Comp → Comp) : State := s.setComp k (f (s.comp k))
def State.round (s : State) (n : Nat) : Round := SMap.get (fun _ => {}) s.rounds n
def State.setRound (s : State) (n : Nat) (r : Round) : State := { s with rounds := SMap.set (fun _ => {}) s.rounds n r }
def State.eng (s : State) (n : Nat) : Eng := SMap.get (fun _ => {}) s.engs n
def State.setEng (s : State) (n : Nat) (e : Eng) : State := { s with engs := SMap.set (fun _ => {}) s.engs n e }
def State.modEng (s : State) (n : Nat) (f : Eng → Eng) : State := s.setEng n (f (s.eng n))

/-! ## The timestamp (R35, R36, R39) -/

/-- T: one tick is 5 ns, one FAB cycle 4 ns. -/
def State.T (s : State) : BitVec 64 := s.clk.tBase + BitVec.ofNat 64 (s.clk.cyc * 4 / 5)

/-- Major frame number. -/
def State.mfn (s : State) : Nat := s.get TBS_MFN_MFN

/-- Link frame of the major frame in progress (R35). -/
def State.lf (s : State) : Nat := s.clk.cyc / 75

/-- Clock domains in the order of R30. -/
def domFAB : Nat := 1
def domSUP : Nat := 2
def domLNK : Nat := 3
def domTBS : Nat := 4
def domTWN : Nat := 5
def domTWB : Nat := 6
def domETH : Nat := 7
def domXSP : Nat := 8
def domVLT : Nat := 9
def domAON : Nat := 10
def domJTG : Nat := 11
def domMON : Nat := 12
def domHKA : Nat := 13

/-- The domain that stamps a source (R550). -/
def domainOf (src : Nat) : Nat :=
  if src ≤ 31 then domMON
  else if src = 32 ∨ src = 34 then domMON
  else if src = 33 ∨ src = 36 then domSUP
  else if src = 35 then domVLT
  else if src = 40 then domAON
  else if src = 41 then domTBS
  else if src = 43 then domJTG
  else if src ≤ 62 then domSUP
  else if src = 63 then domFAB
  else if src ≤ 159 then domLNK
  else if src ≤ 303 then domFAB
  else if src ≤ 327 then domTBS
  else if src ≤ 336 then domTWB
  else if src ≤ 352 then domHKA
  else if src = 355 then domTWN
  else if src ≤ 359 then domFAB
  else if src ≤ 363 then domETH
  else if src ≤ 365 then domXSP
  else if src ≤ 367 then domFAB
  else if src ≤ 391 then domTBS
  else if src ≤ 407 then domFAB
  else domSUP

/-- A domain's quantum q in ticks (R39). -/
def quantum (dom : Nat) : Nat :=
  if dom = domTBS ∨ dom = domSUP ∨ dom = domLNK then 1
  else if dom = domTWN ∨ dom = domFAB ∨ dom = domXSP then 2
  else if dom = domETH then 4
  else if dom = domTWB ∨ dom = domHKA then 8
  else if dom = domMON then 16
  else if dom = domJTG then 128
  else if dom = domVLT then 32
  else if dom = domAON then 16384
  else 1

/-- The stamp a domain takes now: ⌊T / q⌋ · q (R39). -/
def State.stamp (s : State) (dom : Nat) : BitVec 64 :=
  BitVec.ofNat 64 (s.T.toNat / quantum dom * quantum dom)

/-! ## Raising events (R16, R34, R51, R382) -/

/-- Depth of a domain's queue into the event merge (R34). -/
def mergeDepth : Nat := 8

/-- Events of a domain on their way to the merge. -/
def State.queued (s : State) (dom : Nat) : Nat :=
  (s.mrg.inflight.filter (fun e => domainOf e.src == dom)).length

/-- The next record of a domain carries GAP (R382). -/
def State.markGap (s : State) (dom : Nat) : State :=
  { s with mrg := { s.mrg with gap := if s.mrg.gap.contains dom then s.mrg.gap else dom :: s.mrg.gap } }

/-- Puts an event into its domain's queue with its stamp and raise order; one that finds the queue full is dropped and
counted, and marks its domain (R382). -/
def State.pushRaw (s : State) (e : Ev) : State :=
  let dom := domainOf e.src
  let ord := SMap.get (fun _ => 0) s.mrg.order e.src
  if s.queued dom < mergeDepth then
    let slow := dom == domJTG && s.bit SYS_CLKSTAT_TCK_SLOW
    let e := { e with stamp := s.stamp dom, order := ord, late := slow, gap := s.mrg.gap.contains dom }
    { s with mrg := { s.mrg with
        inflight := s.mrg.inflight ++ [e]
        gap := s.mrg.gap.filter (· ≠ dom)
        order := SMap.set (fun _ => 0) s.mrg.order e.src ((ord + 1) % 256) } }
  else
    (s.inc LDG_CNT_DROP_COUNT).markGap dom

/-- Puts an event into its queue; the first one of an episode that finds the queue full makes a DROP due (R382). -/
def State.pushOne (s : State) (e : Ev) : State :=
  let dom := domainOf e.src
  let t := s.pushRaw e
  if decide (mergeDepth ≤ s.queued dom) && !s.mrg.dropEp.contains dom then
    { t with mrg := { t.mrg with dropEp := dom :: t.mrg.dropEp, dropDue := t.mrg.dropDue ++ [dom] } }
  else t

/-- The queue's encoder takes an armed injection (R371): INJECT follows behind the event it spoils. -/
def State.pushEv (s : State) (e : Ev) : State :=
  if s.bit (FCU_INJ_ARM 71) && decide (s.queued (domainOf e.src) < mergeDepth) then
    let m := BitVec.ofNat 17 (s.get (FCU_INJ_MASK 71))
    ((s.putBit (FCU_INJ_ARM 71) false).pushOne { e with ecc := m }).pushOne
      { src := 2, cause := 0x02, value := 71, stamp := 0, order := 0 }
  else s.pushOne e

/-- A DROP that is due is raised when the Ledger's own queue has room for it (R382, R395; log entry 75). -/
def State.raiseDrop (s : State) : State :=
  match s.mrg.dropDue with
  | [] => s
  | dom :: t =>
    if s.queued (domainOf 366) < mergeDepth then
      ({ s with mrg := { s.mrg with dropDue := t } }).pushEv
        { src := 366, cause := 0x03, value := BitVec.ofNat 32 dom, stamp := 0, order := 0 }
    else s

/-- Raises an event: where a DROP falls due with it, that follows (R382). -/
def State.raiseEv (s : State) (e : Ev) : State :=
  let t := s.pushEv e
  if s.mrg.dropDue.length < t.mrg.dropDue.length then t.raiseDrop else t

/-- Raises an event of a source with its cause and value. -/
def State.raise (s : State) (src cause : Nat) (value : Word) : State :=
  s.raiseEv { src := src, cause := cause, value := value, stamp := 0, order := 0 }

/-- Raises an event whose value is a number. -/
def State.raiseN (s : State) (src cause value : Nat) : State := s.raise src cause (BitVec.ofNat 32 value)

/-! ## Detecting faults (R2, R362) -/

/-- Fault sources of resources that a fused-down member lacks (R2, R363). -/
def State.srcAbsent (s : State) (i : Nat) : Bool :=
  (decide (20 ≤ i ∧ i ≤ 35) && decide (s.nEngines ≤ i - 20))
    || (decide (36 ≤ i ∧ i ≤ 51) && decide (s.nEngines ≤ i - 36))
    || (decide (62 ≤ i ∧ i ≤ 69) && decide (s.nStrings ≤ i - 62))
    || (decide (82 ≤ i ∧ i ≤ 95))
    || (decide (96 ≤ i ∧ i ≤ 191) && decide (s.nLinks ≤ i - 96))

/-- A detection of fault source `i` sets out for the collector (R362). -/
def State.detect (s : State) (i : Nat) : State :=
  if s.srcAbsent i then s else { s with fcu := { s.fcu with detq := s.fcu.detq ++ [i] } }

/-! ## Durations, in FAB cycles of 4 ns -/

def us (n : Nat) : Nat := 250 * n
def ms (n : Nat) : Nat := 250000 * n
def seconds (n : Nat) : Nat := 250000000 * n

/-! ## Timers that run on the block's clocks -/

/-- Starts (or restarts) the timer whose end is the command `i`, `d` FAB cycles from now. -/
def State.arm (s : State) (d : Nat) (i : Instr) : State :=
  { s with alarms := s.alarms.filter (fun e => e.2 ≠ i) ++ [(s.clk.now + d, i)] }

/-- Stops that timer. -/
def State.disarm (s : State) (i : Instr) : State := { s with alarms := s.alarms.filter (fun e => e.2 ≠ i) }

/-- Whether that timer runs. -/
def State.armed (s : State) (i : Instr) : Bool := s.alarms.any (fun e => e.2 = i)

/-! ## Free values -/

/-- Counts one free value as drawn. -/
def State.drawn (s : State) : State := { s with free := s.free + 1 }

/-! ## Bitmaps of one bit per link or source, 32 to a word -/

def State.bmBit (s : State) (reg : Nat → Nat) (k : Nat) : Bool := s.get ⟨reg (k / 32), k % 32, k % 32⟩ == 1
def State.setBm (s : State) (reg : Nat → Nat) (k : Nat) (b : Bool) : State := s.putBit ⟨reg (k / 32), k % 32, k % 32⟩ b

/-! ## Bytes -/

/-- Byte `i` of a number. -/
def byteOf (v i : Nat) : Byte := BitVec.ofNat 8 (v / 2 ^ (8 * i))

/-- `n` bytes of a number, least significant first. -/
def bytesLE (v n : Nat) : List Byte := (List.range n).map (byteOf v)

/-- The number that bytes spell, least significant first. -/
def natLE (bs : List Byte) : Nat := bs.foldr (fun b a => b.toNat + 256 * a) 0

/-- Reads `n` bytes of a byte store from `a` on. -/
def readBytes (d : Nat → Byte) (m : SMap Byte) (a n : Nat) : List Byte :=
  (List.range n).map (fun i => SMap.get d m (a + i))

/-- Writes bytes to a byte store from `a` on. -/
def writeBytes (d : Nat → Byte) (m : SMap Byte) (a : Nat) (bs : List Byte) : SMap Byte :=
  match bs with
  | [] => m
  | b :: t => writeBytes d (SMap.set d m a b) (a + 1) t

/-- What a byte of the on-chip stores reads as when nothing has written it. -/
def zeroByte : Nat → Byte := fun _ => 0

/-- What a byte of flash or MRAM reads as when nothing has written it: an erased device (log entry 3). -/
def erasedByte : Nat → Byte := fun _ => 0xFF

/-- What every meaning answers. -/
abbrev Out := Host.Outcome State Fault Refusal

/-- The outcome of a command that goes on. -/
def ok (s : State) : Out := .next s

end Sys2Proof.Machine
end

