-- ==== Sys2Proof/Machine/Codes.lean ====
section
/-! DEFINITION. Machine/Codes.lean: the codes of the block: the check bits of a code word (R359) and the errors that stand
in stored words (R360, R371), CRC-8 (R61), CRC-16 (R379), CRC-32 (R77), and the disparity of an 8b/10b symbol (R52). -/

namespace Sys2Proof.Machine

/-! ## CRCs -/

/-- One bit into a CRC register of `w` bits, most significant bit first. -/
def crcBit (w poly c : Nat) (b : Bool) : Nat :=
  let top := (c.testBit (w - 1)) ^^ b
  let s := (c * 2) % 2 ^ w
  if top then s ^^^ poly else s

/-- One byte, most significant bit first. -/
def crcByte (w poly c : Nat) (b : Byte) : Nat :=
  (List.range 8).foldl (fun c i => crcBit w poly c (b.toNat.testBit (7 - i))) c

/-- CRC-8 with polynomial 0x07 from 0 (R61). -/
def crc8 (bs : List Byte) : Nat := bs.foldl (crcByte 8 0x07) 0

/-- CRC-16 with polynomial 0x1021 from 0xFFFF (R379). -/
def crc16 (bs : List Byte) : Nat := bs.foldl (crcByte 16 0x1021) 0xFFFF

/-- One byte into the reflected CRC-32 register of IEEE 802.3, whose reflected polynomial is 0xEDB88320. -/
def crc32Byte (c : Nat) (b : Byte) : Nat :=
  (List.range 8).foldl (fun c _ => if c % 2 = 1 then (c / 2) ^^^ 0xEDB88320 else c / 2) (c ^^^ b.toNat)

/-- The running register of CRC-32, before the final XOR. -/
def crc32Run (c : Nat) (bs : List Byte) : Nat := bs.foldl crc32Byte c

/-- CRC-32 of IEEE 802.3 (R77). -/
def crc32 (bs : List Byte) : Nat := crc32Run 0xFFFFFFFF bs ^^^ 0xFFFFFFFF

/-! ## The error code (R359, R360) -/

/-- g(x) of R359 without its leading term. -/
def bchPoly : Nat := 0x6F63

/-- Bits `n - 1..0` of `d`, highest first, into the remainder r(x). -/
def bchRun (d : Nat) (n c : Nat) : Nat :=
  match n with
  | 0 => c
  | n + 1 => bchRun d n (crcBit 16 bchPoly c (d.testBit n))

/-- Number of ones among bits `n - 1..0`. -/
def weight (v n : Nat) : Nat :=
  match n with
  | 0 => 0
  | n + 1 => weight v n + if v.testBit n then 1 else 0

/-- The 17 check bits of a data word (R359): c[15:0] = d(x)·x^16 mod g(x), c[16] makes the weight even. -/
def eccBits (d : BitVec 128) : BitVec 17 :=
  let r := bchRun d.toNat 128 0
  BitVec.ofNat 17 (r + (if (weight d.toNat 128 + weight r 16) % 2 = 1 then 0x10000 else 0))

/-- The 145 stored bits of a word (R359): data in bits 127:0, c[16:0] in bits 144:128; `m` is the error that stands in
them. The state keeps a code word as the pair of its data and `m`. -/
def codeWord (d : BitVec 128) (m : BitVec 17) : BitVec 145 := (eccBits d ^^^ m) ++ d

/-- How a read of a code word ends (R360). -/
inductive EccRead where
  | clean | corrected | bad
deriving DecidableEq, Repr

/-- A word whose stored check bits are off by `m`. -/
def eccJudge (m : BitVec 17) : EccRead :=
  match weight m.toNat 17 with
  | 0 => .clean
  | 1 | 2 => .corrected
  | _ => .bad

/-- What each stored bit adds to the check when it stands inverted: data bits 127..0 at places 0..127, then c[16:0]. -/
def eccSigns : List (BitVec 17) :=
  (List.range 145).map (fun i => if i < 128 then eccBits (1#128 <<< i) else 1#17 <<< (i - 128))

/-- The places of the one or two inverted bits whose signs add up to `y` (R360). -/
def eccPlaces (y : BitVec 17) : Option (List Nat) :=
  let g := eccSigns.zip (List.range 145)
  match g.find? (fun a => a.1 == y) with
  | some a => some [a.2]
  | none => g.findSome? (fun a => (g.find? (fun b => a.1 ^^^ b.1 == y)).map (fun b => [a.2, b.2]))

/-- The data of a received code word, with one or two inverted bits put right; none where more are detected (R360). -/
def eccDecode (d : BitVec 128) (c : BitVec 17) : Option (BitVec 128) :=
  let y := eccBits d ^^^ c
  if y = 0 then some d else (eccPlaces y).map (fun l => l.foldl (fun d i => d ^^^ (1#128 <<< i)) d)

/-- Key of code word `i` of the store that checker `c` encodes (R371). -/
def eccKey (c i : Nat) : Nat := c * 0x1000000 + i

/-- The error standing in a stored code word. -/
def State.eccErr (s : State) (c i : Nat) : BitVec 17 := SMap.get (fun _ => 0) s.ecc (eccKey c i)

/-- How a read of code word `i` of store `c` ends. -/
def State.eccRead (s : State) (c i : Nat) : EccRead := eccJudge (s.eccErr c i)

/-- Sets the error that stands in a stored code word. -/
def State.setEcc (s : State) (c i : Nat) (m : BitVec 17) : State :=
  { s with ecc := SMap.set (fun _ => 0) s.ecc (eccKey c i) m }

/-- Encodes code word `i` of store `c` (R371): an armed mask is consumed, else the stored check bits are right. -/
def State.encode (s : State) (c i : Nat) : State :=
  if s.bit (FCU_INJ_ARM c) then
    let m := BitVec.ofNat 17 (s.get (FCU_INJ_MASK c))
    ((s.setEcc c i m).putBit (FCU_INJ_ARM c) false).raiseN 2 0x02 c
  else s.setEcc c i 0

/-- The encoders of a link's queues and mailbox take the injection only for the link that FCU_INJ names (R371). -/
def State.encodeLink (s : State) (c k : Nat) : State :=
  if s.get (FCU_INJ_LINK c) = k then s.encode c k else s.setEcc c k 0

/-! ## 8b/10b running disparity (R52) -/

/-- Whether the 6-bit sub-block of value `x` (bits 4..0) of a data symbol has unequal ones and zeros. -/
def code6Odd (x : Nat) : Bool := [0, 1, 2, 4, 8, 15, 16, 23, 24, 27, 29, 30, 31].contains x

/-- Whether the 4-bit sub-block of value `y` (bits 7..5) has. -/
def code4Odd (y : Nat) : Bool := [0, 4, 7].contains y

/-- Whether a symbol turns the running disparity over. Of the five K-symbols of R58, K28.5 does and the K.7 ones do
not. -/
def flipsRd (y : LSym) : Bool :=
  match y with
  | .d b => code6Odd (b.toNat % 32) ^^ code4Odd (b.toNat / 32)
  | .k b => b == 0xBC
  | .bad => false

end Sys2Proof.Machine
end

