-- ==== Sys2Proof/Config.lean ====
section
/-! DEFINITION. Config.lean: what the spec leaves open. Each constant here has no body, so nothing can be proved about
which value it takes: a claim that holds, holds for every value. `State.free` counts the free values drawn, so that two
draws need not agree. -/

namespace Sys2Proof.Config

/-- A value of a register field, a byte or an input that the spec leaves open, by draw. -/
opaque freeNat : Nat → Nat

/-- The cause number of an event the spec names without a number: by 8 times its event source, plus its place among the
unnumbered events of that source. -/
opaque unstatedCause : Nat → Nat

/-- A word of a challenge from the entropy source (R418), by draw. -/
opaque entropy : Nat → BitVec 32

/-- The sample value the sine generator of the analyser deviates by (R245): within the bound the spec states, by phase. -/
opaque sineError : BitVec 32 → Int

/-- Cells of the captured state that a transfer of SEL 16..18 sends (R338: an order private to the silicon stepping). -/
opaque xferCells : Nat → Nat

/-- The payload of those cells (R338): SEL, the captured values, the index of the cell. -/
opaque xferWrite : Nat → List Int → Nat → BitVec 112

/-- What the receiver reads from those cells (R338): SEL, the payloads in order, the index of the value. -/
opaque xferRead : Nat → List (BitVec 112) → Nat → Int

/-- Whether the holder's cycles 2272..2399 of a major frame hold no write to context or scratch of an engine, by engine and
MFN: the spec names no cell that tells the standby so, although the standby applies in that frame (R355). -/
opaque holderQuiet : Nat → Nat → Bool

/-- The local limit of a companion on an applied value (R62, R255): link, 0 for ACTA and 1 for ACTB. -/
opaque localLimit : Nat → Nat → Nat

/-- The Parvethes manufacturer code (R536), which the spec names without its value. -/
opaque manufacturer : BitVec 12

end Sys2Proof.Config
end

