-- ==== Sys2Proof/Machine/Access.lean ====
section
/-! DEFINITION. Machine/Access.lean: the way of every supervisor and debug access to the register interface: the address
map (R400, R401), the permission table (R411..R415), absent resources (R2), the audit record (R383, R420), and the
field-by-field write of a register under its access codes (R11, R19). -/

namespace Sys2Proof.Machine

/-! ## The address map (R400) -/

/-- What stands at an address. -/
inductive Region where
  | none
  | rom
  | itcm
  | dtcm
  /-- A checked range with its permission entry. -/
  | checked (entry : Nat)
deriving DecidableEq, Repr

/-- A Teller's pages: program, context, scratch, banks, control (R400). -/
def regionOfEngine (n o : Nat) : Region :=
  if o < 0x10000 then .checked (64 + 8 * n)
  else if o < 0x12000 then .checked (65 + 8 * n)
  else if o < 0x14000 then .checked (66 + 8 * n)
  else if o < 0x17000 then .checked (67 + 8 * n)
  else if 0x18000 ≤ o ∧ o < 0x19000 then .checked (68 + 8 * n)
  else .none

/-- The peripheral pages from 0x4000_0000 (R400). -/
def regionOfPeripheral (o : Nat) : Region :=
  let b := o / 0x10000
  let p := o % 0x10000 / 0x1000
  if 16 < b then .none
  else if p = 0 then .checked b
  else if b = 8 ∧ p ≤ 8 then .checked (16 + p)
  else if b = 13 ∧ p = 1 then .checked 25
  else if b = 14 ∧ p ≤ 3 then .checked (25 + p)
  else if b = 15 ∧ p = 1 then .checked 29
  else .none

/-- The map of R400. -/
def regionOf (a : Nat) : Region :=
  if a < 0x10000 then .rom
  else if 0x10000000 ≤ a ∧ a < 0x10080000 then .itcm
  else if 0x18000000 ≤ a ∧ a < 0x18040000 then .dtcm
  else if 0x20000000 ≤ a ∧ a < 0x30000000 then .checked 195
  else if 0x40000000 ≤ a ∧ a < 0x40110000 then regionOfPeripheral (a - 0x40000000)
  else if 0x41000000 ≤ a ∧ a < 0x41018000 then .checked (32 + (a - 0x41000000) / 0x1000)
  else if 0x41018000 ≤ a ∧ a < 0x41019000 then .checked 56
  else if 0x42000000 ≤ a ∧ a < 0x42006000 then .checked (57 + (a - 0x42000000) / 0x1000)
  else if 0x42008000 ≤ a ∧ a < 0x42009000 then .checked 63
  else if 0x48000000 ≤ a ∧ a < 0x48200000 then .checked 193
  else if 0x50000000 ≤ a ∧ a < 0x51000000 then regionOfEngine ((a - 0x50000000) / 0x100000) ((a - 0x50000000) % 0x100000)
  else if 0x51000000 ≤ a ∧ a < 0x51001000 then .checked 192
  else if 0x60000000 ≤ a ∧ a < 0x60003000 then .checked 194
  else .none

/-- Whether a range takes writes at all (R401). -/
def Region.writable (r : Region) : Bool :=
  match r with
  | .none | .rom => false
  | .checked e => e != 195 && e != 194
  | .itcm | .dtcm => true

/-- The address lies on the page or window of a link, feed state machine, engine or string that the member lacks (R2). -/
def State.absentAt (s : State) (a : Nat) : Bool :=
  (decide (0x41000000 ≤ a ∧ a < 0x41018000) && decide (s.nLinks ≤ (a - 0x41000000) / 0x400))
    || (decide (0x42000000 ≤ a ∧ a < 0x42006000) && decide (s.nLinks ≤ (a - 0x42000000) / 0x100))
    || (decide (0x50000000 ≤ a ∧ a < 0x51000000) && decide (s.nEngines ≤ (a - 0x50000000) / 0x100000))
    || (decide (0x400E0400 ≤ a ∧ a < 0x400E0600) && decide (s.nStrings ≤ (a - 0x400E0400) / 0x40))
    || (decide (0x400E1000 ≤ a ∧ a < 0x400E1080) && decide (s.nStrings ≤ (a - 0x400E1000) / 0x10))
    || (decide (0x400E1800 ≤ a ∧ a < 0x400E2000) && decide (s.nStrings ≤ (a - 0x400E1800) / 0x100))
    || (decide (0x400E2000 ≤ a ∧ a < 0x400E4000) && decide (s.nStrings ≤ (a - 0x400E2000) / 0x400))
    || (decide (0x60000000 ≤ a ∧ a < 0x60003000) && decide (s.nLinks ≤ (a - 0x60000000) / 0x80))

/-! ## Roles (R411..R415) -/

/-- The word of a permission entry or role register by which an access of this FAB cycle is judged: as it stood before a
write of the same cycle (R414, R417). -/
def State.rgtWord (s : State) (a : Nat) : Word := ((s.bus.was.find? (fun e => e.1 == a)).map (·.2)).getD (s.word a)

/-- Such a word is about to be written. -/
def State.rgtKeep (s : State) (a : Nat) : State :=
  if s.bus.was.any (fun e => e.1 == a) then s else { s with bus := { s.bus with was := s.bus.was ++ [(a, s.word a)] } }

/-- The role in force of a requester path. -/
def State.roleOf (s : State) (who : Who) : Nat :=
  match who with
  | .sup _ => bitsOf (s.rgtWord RGT_ROLE_SUP) 2 0
  | .dbg => bitsOf (s.rgtWord RGT_ROLE_DBG) 2 0
  | .eng _ => 0

/-- Entries that name no page always read 0x44 and entry 1 reads 0 (R415). -/
def permNamesPage (e : Nat) : Bool :=
  decide (e ≤ 29) || (decide (32 ≤ e ∧ e ≤ 63)) || (decide (64 ≤ e ∧ e ≤ 191) && decide (e % 8 ≤ 4)) || decide (192 ≤ e ∧ e ≤ 195)

/-- The entry's word (R415). -/
def State.permWord (s : State) (e : Nat) : Word :=
  if e = 1 then 0 else if permNamesPage e then s.word (RGT_PERM e) else 0x44

/-- The entry's word for the check of an access (R414, R415). -/
def State.permWas (s : State) (e : Nat) : Word :=
  if e = 1 then 0 else if permNamesPage e then s.rgtWord (RGT_PERM e) else 0x44

/-- The role a read or a write needs. -/
def State.needOf (s : State) (e : Nat) (wr : Bool) : Nat :=
  if wr then bitsOf (s.permWas e) 6 4 else bitsOf (s.permWas e) 2 0

/-- Whether a requester meets a requirement (R411, R413). Internal masters are not checked (R412). -/
def State.meets (s : State) (who : Who) (need : Nat) : Bool :=
  match who with
  | .sup true => true
  | .eng _ => true
  | _ => decide (need ≤ 3) && decide (need ≤ s.roleOf who)

/-- Debug accesses to boot ROM, ITCM and DTCM (R412). -/
def State.debugMemOk (s : State) (who : Who) (wr : Bool) : Bool :=
  match who with
  | .dbg => if wr then decide (s.roleOf .dbg = 3) else decide (2 ≤ s.roleOf .dbg)
  | _ => true

/-! ## Physical memory protection (R397, log entry 91) -/

/-- Ones at the low end of `n`, at most `k`. -/
def lowOnes (n k : Nat) : Nat :=
  match k with
  | 0 => 0
  | k + 1 => if n % 2 = 1 then lowOnes (n / 2) k + 1 else 0

def State.pmpCfg (s : State) (i : Nat) : Byte := SMap.get (fun _ => 0) s.cores.pmpCfg i
def State.pmpAddr (s : State) (i : Nat) : Nat := (SMap.get (fun _ => 0) s.cores.pmpAddr i).toNat

/-- First byte of PMP entry `i` and the first one past it, in granules of 32 bytes; it is OFF where they are equal. -/
def State.pmpRange (s : State) (i : Nat) : Nat × Nat :=
  let a := s.pmpAddr i
  match (s.pmpCfg i).toNat / 8 % 4 with
  | 1 => ((if i = 0 then 0 else s.pmpAddr (i - 1) / 8 * 32), a / 8 * 32)
  | 2 => (a / 8 * 32, a / 8 * 32 + 32)
  | 3 => let n := max 32 (2 ^ (lowOnes a 32 + 3)); (4 * a / n * n, 4 * a / n * n + n)
  | _ => (0, 0)

/-- The PMP refuses a core's access: by the lowest entry that matches, which binds machine mode only where it is locked. -/
def State.pmpFaults (s : State) (who : Who) (a : Nat) (wr : Bool) : Bool :=
  match who with
  | .sup _ =>
    match (List.range 16).find? (fun i => decide ((s.pmpRange i).1 ≤ a) && decide (a < (s.pmpRange i).2)) with
    | some i =>
      let c := s.pmpCfg i
      (s.cores.user || c.getLsbD 7) && !(if wr then c.getLsbD 1 else c.getLsbD 0)
    | none => s.cores.user
  | _ => false

/-! ## When a requester issues (R410, R412, R538) -/

/-- The device is held in reset: PORST_N low, a rail below its minimum, or a Vault failure (R432, R445, R538). -/
def State.inReset (s : State) : Bool := s.boot.porst || s.boot.rail || s.vlt.hold.isSome

/-- The cores are held by a warm restart: no new request issues (R410). -/
def State.warmHeld (s : State) : Bool := s.bus.coresHeld && s.boot.rom != .reset

/-- The requester issues requests: nothing does in reset, nor do the cores in a warm restart or in a halt (R410, R412, R538;
log entry 22). -/
def State.issues (s : State) (who : Who) : Bool :=
  !s.inReset && (match who with | .sup _ => !s.warmHeld && !s.cores.halted | _ => true)

/-! ## The answer of an access -/

/-- The access ends with data and status. -/
def State.answer (s : State) (who : Who) (data : Word) (err : Bool) : State :=
  { s with bus := { s.bus with resp := { who := who, data := data, err := err } } }

/-- A load or store address-misaligned exception of the cores: the access has no effect (R397). -/
def State.misaligned (s : State) (who : Who) : State :=
  match who with
  | .sup _ => if s.issues who then { s with bus := { s.bus with resp := { who := who, data := 0, err := true, mis := true } } } else s
  | _ => s

/-- A denied access (R414): captured, counted, detected and reported; the requester takes a fault. -/
def State.deny (s : State) (who : Who) (a : Nat) (wr : Bool) (need : Nat) : State :=
  let isDbg := match who with | .dbg => true | _ => false
  let s := if s.bit RGT_DENY_INFO_VALID then s else
    let s := s.hwSet RGT_DENY_INFO_VALID
    let s := s.putBit RGT_DENY_INFO_REQ isDbg
    let s := s.putBit RGT_DENY_INFO_WRITE wr
    let s := s.put RGT_DENY_INFO_ROLE (s.roleOf who)
    let s := s.put RGT_DENY_INFO_NEED need
    s.put RGT_DENY_ADDR_ADDR a
  let s := s.inc RGT_CNT_DENY_COUNT
  let s := s.detect 81
  let s := s.raiseN 44 0x01 a
  s.answer who 0 true

/-- An access outside the map, or of a kind its range does not take (R401). -/
def State.unmapped (s : State) (who : Who) (a : Nat) : State :=
  (s.raiseN 44 0x03 a).answer who 0 true

/-- How the checks before every register-level rule judge an access (R401, R412, R414, R2). The model takes them in this
order: the map, the permission table, the absent resource (log entry 5). -/
inductive Gate where
  | unmapped
  /-- The core's PMP refuses it (R397). -/
  | pmp
  | deny (need : Nat)
  /-- It passes the table, and no resource stands at the address. -/
  | absent (need : Nat)
  /-- It passes; `need` is the role its page asks for, 0 for a range without an entry. -/
  | pass (need : Nat)
deriving DecidableEq, Repr

/-- The gate of a word access (R397, R400, R401, R412, R414, R2). -/
def State.gate (s : State) (who : Who) (a : Nat) (wr : Bool) : Gate :=
  let r := regionOf a
  if s.pmpFaults who a wr then .pmp else
  match r with
  | .none => .unmapped
  | .checked e =>
    if wr && !r.writable then .unmapped
    else
      let need := s.needOf e wr
      if !s.meets who need then .deny need
      else if s.absentAt a then .absent need
      else .pass need
  | _ =>
    if wr && !r.writable then .unmapped
    else if s.debugMemOk who wr then .pass 0
    else .deny (if wr then 3 else 2)

/-! ## Audit records (R380, R383, R420) -/

/-- The source of a requester's audit records. -/
def auditSrc (who : Who) : Nat := match who with | .dbg => 43 | _ => 42

/-- Whether the merge queue of a requester's audit records is full (R383). -/
def State.auditFull (s : State) (who : Who) : Bool := decide (mergeDepth ≤ s.queued (domainOf (auditSrc who)))

/-- The EXT of an audit record (R380): address, role, the role the page needs. -/
def auditExt (a role need : Nat) : BitVec 64 := BitVec.ofNat 64 (a + role * 0x100000000 + need * 0x10000000000)

/-- The audit record of a write. -/
def auditEv (who : Who) (cause : Nat) (a role need : Nat) (v : Word) : Ev :=
  { src := auditSrc who, cause := cause, value := v, stamp := 0, order := 0, ext := auditExt a role need, kind := .audit }

/-- Whether a page's WR requirement calls for an audit record (R420). -/
def auditedNeed (need : Nat) : Bool := need == 2 || need == 3

/-- Whether an audited write of a requester has to wait: its queue is full, or an earlier write of its own waits (R383). -/
def State.auditWaits (s : State) (who : Who) : Bool :=
  s.auditFull who || s.bus.waiting.any (fun w => auditSrc w.2.1 == auditSrc who)

/-- A write that needs an audit record: it waits while the queue is full, and completes, with its answer, in the same step
as its record enters (R383). -/
def State.audited (s : State) (who : Who) (e : Ev) (a : Nat) (v : Word) (op : State → State) : State :=
  if s.auditWaits who then { s with bus := { s.bus with waiting := s.bus.waiting ++ [(e, who, a, v)] } }
  else op ((s.answer who 0 false).raiseEv e)

/-- A write that has passed the permission table: recorded where its page asks for it (R420). -/
def State.recorded (s : State) (who : Who) (need a : Nat) (v : Word) (op : State → State) : State :=
  if auditedNeed need then s.audited who (auditEv who 0x01 a (s.roleOf who) need v) a v op
  else op (s.answer who 0 false)

/-- A request that issues passes the supervisor's peripheral-bus queue, where it is the supervisor's (R361, R371): whether
it is lost on the way, or does not issue at all. -/
def State.busQueue (s : State) (who : Who) : State × Bool :=
  if !s.issues who then (s, true)
  else
    match who with
    | .sup _ =>
      if s.bit (FCU_INJ_ARM 69) then
        let s := s.encode 69 0
        if s.eccRead 69 0 == .bad then ((s.detect 55).setEcc 69 0 0, true) else (s.setEcc 69 0 0, false)
      else (s, false)
    | _ => (s, false)

/-- The access goes to a block's register interface; boot ROM, ITCM and DTCM are the cores' own (R34, R397). -/
def onBus (a : Nat) : Bool := match regionOf a with | .rom | .itcm | .dtcm => false | _ => true

/-- An access to a register interface goes through that queue; one that does not issue does nothing. -/
def State.throughQueue (s : State) (who : Who) (op : State → State) : State :=
  if s.issues who then
    let q := s.busQueue who
    if q.2 then q.1.answer who 0 false else op q.1
  else s

/-- The way of an access at `a`. -/
def State.issued (s : State) (who : Who) (a : Nat) (op : State → State) : State :=
  if onBus a then s.throughQueue who op else if s.issues who then op s else s

/-- The gate of a write, the audit record, then the register's own operation. -/
def State.busWriteGo (s : State) (who : Who) (a : Nat) (v : Word) (op : State → State) : State :=
  match s.gate who a true with
  | .unmapped => s.unmapped who a
  | .pmp => s.answer who 0 true
  | .deny need => s.deny who a true need
  | .absent need => s.recorded who need a v (fun s => s.raiseN 44 0x05 a)
  | .pass need => s.recorded who need a v op

/-- A word write on the register interface. -/
def State.busWrite (s : State) (who : Who) (a : Nat) (v : Word) (op : State → State) : State :=
  s.issued who a (fun s => s.busWriteGo who a v op)

/-- The gate of a read, then the register's own answer (R400, R401, R412, R414, R2). -/
def State.busReadGo (s : State) (who : Who) (a : Nat) (op : State → State) : State :=
  match s.gate who a false with
  | .unmapped => s.unmapped who a
  | .pmp => s.answer who 0 true
  | .deny need => s.deny who a false need
  | .absent _ => s.answer who 0 false
  | .pass _ => op s

/-- A word read on the register interface. -/
def State.busRead (s : State) (who : Who) (a : Nat) (op : State → State) : State :=
  s.issued who a (fun s => s.busReadGo who a op)

/-! ## ACCESS events (R11) -/

/-- The FEED link of lowest number (R284), else 0. -/
def State.lowestFeed (s : State) : Nat :=
  match (List.range s.nLinks).find? (fun k => s.get (LNK_CTRL_ROLE k) == 0) with
  | some k => k
  | none => 0

/-- Source, cause and value of the ACCESS event of a register address, as its chapter states them. -/
def State.accessOf (s : State) (a : Nat) : Nat × Nat × Nat :=
  if a < 0x40110000 then
    let o := a % 0x1000
    match (a - 0x40000000) / 0x10000 with
    | 0 => (36, 0x0A, o)
    | 1 => (44, 0x04, o)
    | 2 => (45, 0x01, o)
    | 3 => (2, 0x03, o)
    | 4 => (41, 0x03, o)
    | 5 => (304 + o / 0x40, 0x06, o % 0x40)
    | 6 => (337, Config.unstatedCause (8 * 337) % 256, o)
    | 7 => (if o < 0x80 then 368 + o / 4 else 368, 0x03, o)
    | 8 => if a < 0x40088000 then (328 + (a - 0x40080000) / 0x1000, 0x04, o) else (336, 0x08, o)
    | 9 => (363, Config.unstatedCause (8 * 363) % 256, o)
    | 10 => (364, 0x03, o)
    | 11 => (35, 0x08, o)
    | 12 => (358, 0x03, o)
    | 13 => (288, 0x04, a - 0x400D0000)
    | 14 => (272, 0x13, a - 0x400E0000)
    | 15 => (63, 0x03, a - 0x400F0000)
    | _ => (366, 0x07, o)
  else if a < 0x41018000 then (64 + (a - 0x41000000) / 0x400, 0x0C, (a - 0x41000000) % 0x400)
  else if a < 0x41019000 then (64, 0x0C, a - 0x41018000)
  else if a < 0x42006000 then (160 + (a - 0x42000000) / 0x100, 0x06, (a - 0x42000000) % 0x100)
  else if a < 0x42009000 then (160 + s.lowestFeed, 0x06, a - 0x42008000)
  else if a < 0x51000000 then (256 + (a - 0x50000000) / 0x100000, 0x09, (a - 0x50000000) % 0x100000 - 0x18000)
  else (256, 0x23, a - 0x51000000)

/-- The block raises its ACCESS event for register `a` (R11). -/
def State.access (s : State) (a : Nat) : State :=
  let x := s.accessOf a
  s.raiseN x.1 x.2.1 x.2.2

/-! ## Writing a register field by field (R10, R11, R19) -/

/-- No field that takes the write holds a reserved encoding (R11). -/
def RegRow.legal (r : RegRow) (v : Word) : Bool :=
  r.flds.all (fun f =>
    match f.acc with
    | .ro | .w1c => true
    | _ => decide (f.min ≤ bitsOf v f.hi f.lo) && decide (bitsOf v f.hi f.lo ≤ f.max))

/-- One field of the written word under its access code. A W1S, WO, RWB or RWO field is left to the register's own
operation. -/
def applyFld (v old : Word) (f : RegFld) : Word :=
  match f.acc with
  | .rw => setBits old f.hi f.lo (bitsOf v f.hi f.lo)
  | .w1c => old &&& ~~~(v &&& (ones (f.hi + 1 - f.lo) <<< f.lo))
  | _ => old

/-- The word a register holds after the write of `v`. -/
def RegRow.written (r : RegRow) (v old : Word) : Word := r.flds.foldl (applyFld v) old

/-- Writes register `a` field by field (R19). A W1C bit that the hardware set in this cycle keeps its 1 (R20). -/
def State.apply (s : State) (a : Nat) (v : Word) : State :=
  match rowOf a with
  | none => s
  | some r => s.setWord a (r.written v (s.word a) ||| (s.hwBits a &&& s.word a))

/-- A write of 1 to the bit ERRV or VALID of an error register, which clears its other fields with it, unless the hardware
set it in this cycle (R20). -/
def State.clearErr (s : State) (f : Fld) (v : Word) : State :=
  if bitsOf v f.hi f.lo == 1 && bitsOf (s.hwBits f.addr) f.hi f.lo == 0 then s.setWord f.addr 0 else s

/-- Whether every field of `v` is a legal encoding for register `a`. -/
def legalAt (a : Nat) (v : Word) : Bool :=
  match rowOf a with
  | none => true
  | some r => r.legal v

/-- A register write: refused with ACCESS where a field holds a reserved encoding or the block's own condition `good`
fails (R11), else the register takes the word and the block's operation follows. -/
def State.regWrite (s : State) (a : Nat) (v : Word) (good : Bool) (after : State → State) : State :=
  if legalAt a v && good then after (s.apply a v) else s.access a

/-- Bit `b` of a word. -/
def tb (v : Word) (b : Nat) : Bool := bitsOf v b b == 1

/-- `v` with bit `b` set: a row that is the write of one bit. -/
def withBit (v : Word) (b : Nat) : Word := v ||| (1 <<< b)

end Sys2Proof.Machine
end

