-- ==== Sys2Proof/Machine/Tcm.lean ====
section
/-! DEFINITION. Machine/Tcm.lean: ITCM and DTCM (R397, R400): 16-byte code words, merged stores, and reads (R361). -/

namespace Sys2Proof.Machine

/-- ITCM, or DTCM where `d`. -/
def State.tcm (s : State) (d : Bool) : SMap Byte := if d then s.dtcm else s.itcm
def State.setTcm (s : State) (d : Bool) (m : SMap Byte) : State := if d then { s with dtcm := m } else { s with itcm := m }

/-- The checker of a TCM (R371). -/
def tcmChecker (d : Bool) : Nat := if d then 75 else 74

/-- The check of a read of one code word (R360, R361): an uncorrectable word and a corrected one are detected, and the
corrected word is written back. -/
def State.tcmCheck (s : State) (d : Bool) (w : Nat) : State :=
  match s.eccRead (tcmChecker d) w with
  | .bad => s.detect 18
  | .corrected => (s.detect 19).setEcc (tcmChecker d) w 0
  | .clean => s

/-- Code words of `n` bytes from offset `o` on. -/
def tcmSpan (o n : Nat) : List Nat := if n = 0 then [] else (List.range ((o + n - 1) / 16 + 1 - o / 16)).map (fun i => o / 16 + i)

/-- No code word of `n` bytes from offset `o` on is uncorrectable. -/
def State.tcmGood (s : State) (d : Bool) (o n : Nat) : Bool :=
  s.ecc.isEmpty || (tcmSpan o n).all (fun w => s.eccRead (tcmChecker d) w != .bad)

/-- The checks of a read of `n` bytes from offset `o` on. -/
def State.tcmSeen (s : State) (d : Bool) (o n : Nat) : State :=
  if s.ecc.isEmpty then s else (tcmSpan o n).foldl (fun t w => t.tcmCheck d w) s

/-- A store of bytes that lie in one code word. A narrower one is merged: into an uncorrectable word it is discarded, and a
corrected read of the word is detected (R361). -/
def State.tcmWord (s : State) (d : Bool) (o : Nat) (bs : List Byte) : State :=
  let store := fun (s : State) => (s.setTcm d (writeBytes zeroByte (s.tcm d) o bs)).encode (tcmChecker d) (o / 16)
  if 16 ≤ bs.length then store s
  else if s.eccRead (tcmChecker d) (o / 16) = .bad then s.detect 18
  else store (s.tcmCheck d (o / 16))

/-- A store of bytes from offset `o` on, code word by code word; `n` bounds their number. -/
def State.tcmWords (s : State) (d : Bool) (o : Nat) (bs : List Byte) (n : Nat) : State :=
  match n with
  | 0 => s
  | n + 1 =>
    let k := 16 - o % 16
    if bs.isEmpty then s else (s.tcmWord d o (bs.take k)).tcmWords d (o + k) (bs.drop k) n

/-- A store of bytes from offset `o` on. -/
def State.tcmStore (s : State) (d : Bool) (o : Nat) (bs : List Byte) : State := s.tcmWords d o bs (bs.length / 16 + 2)

/-- A word read by the supervisor or the debug port; an uncorrectable word is an access fault (R361). -/
def State.tcmRead (s : State) (who : Who) (d : Bool) (o : Nat) : State :=
  let bad := s.eccRead (tcmChecker d) (o / 16) == .bad
  (s.tcmCheck d (o / 16)).answer who
    (if bad then 0 else BitVec.ofNat 32 (natLE (readBytes zeroByte (s.tcm d) (o / 4 * 4) 4))) bad

/-- `n` bytes at address `a` lie in the DTCM (R400). -/
def inDtcm (a n : Nat) : Bool := decide (0x18000000 ≤ a) && decide (a + n ≤ 0x18040000)

/-- The `n` bytes at a DTCM address, none where they leave the DTCM (R400) or a code word of them is uncorrectable (R360). -/
def State.dtcmBytes (s : State) (a n : Nat) : Option (List Byte) :=
  if inDtcm a n && s.tcmGood true (a - 0x18000000) n then some (readBytes zeroByte s.dtcm (a - 0x18000000) n) else none

/-- DTCM bytes by address, least significant first, as a number; what cannot be read counts as 0. -/
def State.dtcmNat (s : State) (a n : Nat) : Nat := natLE ((s.dtcmBytes a n).getD [])

/-- The checks of a read of `n` bytes at a DTCM address (R361). -/
def State.dtcmSeen (s : State) (a n : Nat) : State := if inDtcm a n then s.tcmSeen true (a - 0x18000000) n else s

/-- A master reads `n` bytes at a DTCM address; where they cannot be read it gets free values (log entry 74). -/
def State.dtcmFetch (s : State) (a n : Nat) : State × List Byte :=
  let t := s.dtcmSeen a n
  match s.dtcmBytes a n with
  | some bs => (t, bs)
  | none => ({ t with free := t.free + n }, (List.range n).map (fun i => BitVec.ofNat 8 (Config.freeNat (t.free + i))))

/-- Writes bytes at a DTCM address; those that would leave the DTCM are dropped whole. -/
def State.dtcmPut (s : State) (a : Nat) (bs : List Byte) : State :=
  if 0x18000000 ≤ a ∧ a + bs.length ≤ 0x18040000 then s.tcmStore true (a - 0x18000000) bs else s

end Sys2Proof.Machine
end

