-- ==== Sys2Proof/Machine/Ledger.lean ====
section
/-! DEFINITION. Machine/Ledger.lean: the Ledger (14): the event merge and the ring, the event router's pending state
(15), the flush to MRAM, power fail, mirroring and the waveform channels; and the meanings of its commands. -/

namespace Sys2Proof.Machine

/-! ## Ring records (R379..R382) -/

/-- FLAGS of a record (R379). -/
def Ev.flags (e : Ev) : Nat :=
  (if e.late then 1 else 0) + (if e.notify then 2 else 0) + (if e.kind = .audit then 4 else 0)
    + (if e.gap then 0x10 else 0) + (if e.pf then 0x20 else 0)

/-- A record of 30 bytes with its CRC-16 behind them (R379). -/
def withCrc16 (bs : List Byte) : List Byte := bs ++ bytesLE (crc16 bs) 2

/-- The 32 bytes of a record with sequence number `seq` (R379). -/
def Ev.record (e : Ev) (seq : Nat) : List Byte :=
  withCrc16 (bytesLE e.stamp.toNat 8 ++ bytesLE seq 4 ++ bytesLE (e.src % 512) 2 ++ bytesLE e.cause 1 ++ bytesLE e.order 1
    ++ bytesLE e.value.toNat 4 ++ bytesLE e.ext.toNat 8 ++ bytesLE e.flags 2)

/-- Records the ring holds (R381). -/
def ringSlots : Nat := 32768

/-- The next record's SEQ. -/
def State.seq (s : State) : Nat := s.get LDG_SEQ_SEQ

/-- Records that `from_` is behind the next one, modulo 2^32. -/
def seqBehind (next from_ : Nat) : Nat := (next + 2 ^ 32 - from_) % 2 ^ 32

/-- Moves the flush and the mirror on when the ring is about to overwrite what they have not copied (R387). -/
def State.overrun (s : State) : State :=
  let s := if seqBehind s.seq (s.get LDG_FSEQ_SEQ) = ringSlots then
      let s := (s.put LDG_FSEQ_SEQ (s.get LDG_FSEQ_SEQ + 1)).inc LDG_CNT_LOSTF_COUNT
      { s with ldg := { s.ldg with ownGap := true, lost := s.ldg.lost + 1 } }
    else s
  if seqBehind s.seq (s.get LDG_MSEQ_SEQ) = ringSlots then
    let s := (s.put LDG_MSEQ_SEQ (s.get LDG_MSEQ_SEQ + 1)).inc LDG_CNT_LOSTM_COUNT
    { s with ldg := { s.ldg with mirGap := true } }
  else s

/-- The event is the first of its domain taken after a drop, and none was dropped since: it ends the episode (R382). -/
def State.endsEpisode (s : State) (e : Ev) : Bool := e.gap && !s.mrg.gap.contains (domainOf e.src)

/-- The 32 bytes of record `n` go to ring slot `slot`; a drop episode ends with it; the record that ends a power failure is
noted. -/
def State.putRecord (s : State) (e : Ev) (n slot : Nat) : State :=
  { s with
    ring := writeBytes zeroByte s.ring (32 * slot) (e.record n)
    mrg := { s.mrg with wroteAt := some s.clk.now, dropEp := if s.endsEpisode e then s.mrg.dropEp.filter (· ≠ domainOf e.src) else s.mrg.dropEp }
    ldg := { s.ldg with pfEnd := if e.src = 366 ∧ e.cause = 0x05 then some n else s.ldg.pfEnd } }

/-- Writes an event as the next ring record (R381). -/
def State.writeRecord (s : State) (e : Ev) : State :=
  let o := s.overrun
  let slot := o.seq % ringSlots
  (((o.putRecord e o.seq slot).encode 72 (2 * slot)).encode 72 (2 * slot + 1)).put LDG_SEQ_SEQ (o.seq + 1)

/-! ## The event merge (R17, R50) -/

/-- Whether `a` comes before `b` in the key (stamp, source, raise order). -/
def Ev.before (a b : Ev) : Bool :=
  decide (a.stamp.toNat < b.stamp.toNat)
    || (a.stamp == b.stamp && (decide (a.src < b.src) || (a.src == b.src && decide ((b.order + 256 - a.order) % 256 < 128 ∧ a.order ≠ b.order))))

/-- Puts an event at its place among the held ones. -/
def insertEv (e : Ev) (l : List Ev) : List Ev :=
  match l with
  | [] => [e]
  | h :: t => if e.before h then e :: h :: t else h :: insertEv e t

/-- The hold of the merge: 2 µs of T (R50). -/
def holdTicks : Nat := 400

/-! ## The event router (R403, R404) -/

/-- Whether the router takes an event: those of sources 0..31 with NOTIFY = 0 set nothing (R403). -/
def Ev.routed (e : Ev) : Bool := decide (32 ≤ e.src) || e.notify

def State.evr (s : State) (i : Nat) : EvrRec := SMap.get (fun _ => {}) s.mrg.evr i
def State.setEvr (s : State) (i : Nat) (r : EvrRec) : State := { s with mrg := { s.mrg with evr := SMap.set (fun _ => {}) s.mrg.evr i r } }

/-- The record of source `i` with its fields as they stood before the events of this FAB cycle (R405). -/
def State.evrWas (s : State) (i : Nat) : EvrRec :=
  let r := s.evr i
  if r.since = some s.clk.now then r
  else { r with wasPend := s.bmBit EVR_PEND i, wasCause := r.cause, wasValue := r.value, wasCount := r.count }

/-- Every event sets the pending bit of its source and becomes its latest (R403). -/
def State.route (s : State) (e : Ev) : State :=
  if e.routed then
    let i := e.src % 512
    (s.setEvr i { (s.evrWas i) with since := some s.clk.now, cause := e.cause, value := e.value, count := min 255 ((s.evr i).count + 1) }).setBm EVR_PEND i true
  else s

/-- A source that a claim of this FAB cycle finds pending, and enabled: an event of this cycle comes after the claim
(R405). -/
def State.claimsSrc (s : State) (i : Nat) : Bool := (s.evrWas i).wasPend && s.bmBit EVR_EN i

/-- The lowest source that is pending and enabled (R405). -/
def State.claimable (s : State) : Option Nat := (List.range 512).find? s.claimsSrc

/-- The machine external interrupt (R403). -/
def State.irq (s : State) : Bool := (List.range 512).any (fun i => s.bmBit EVR_PEND i && s.bmBit EVR_EN i)

/-! ## Waveform channels (R392, R393) -/

/-- Records of a channel. -/
def waveLen : Nat := 8192

def State.wch (s : State) (c : Nat) : Wave := SMap.get (fun _ => {}) s.ldg.waves c
def State.setWch (s : State) (c : Nat) (w : Wave) : State := { s with ldg := { s.ldg with waves := SMap.set (fun _ => {}) s.ldg.waves c w } }

/-- Channel `c` is armed for a trigger of this FAB cycle. -/
def State.waveReady (s : State) (c : Nat) : Bool :=
  s.bit (LDG_WCH_ARM c) && s.get (LDG_WCH_SRC c) == 1 && (s.wch c).armedAt != some s.clk.now

/-- The LINK channels still take a record in this FAB cycle, one that comes before the first consumer cycle after it. -/
def State.sampleAhead (s : State) : Bool := s.clk.cyc % 75 == 8 && s.ldg.sampledAt != some s.clk.now

/-- A trigger is taken in this FAB cycle (R393): every armed LINK channel counts its records from its first one after the
cycle on; TRIG_POS is that of the lowest of them (log entry 7). -/
def State.triggerNow (s : State) : State :=
  let s := { s with ldg := { s.ldg with trigAt := some s.clk.now } }
  match (List.range 16).filter s.waveReady with
  | [] => s.inc LDG_TRIG_STAT_MISSED
  | c0 :: cs =>
    let pos := (s.get (LDG_WST_WIDX c0) + if s.sampleAhead then 1 else 0) % waveLen
    let s := (c0 :: cs).foldl (fun t c => (t.putBit (LDG_WCH_ARM c) false).setWch c { left := some (waveLen - t.get LDG_PRE_PRE), trigAt := some s.clk.now }) s
    let s := (s.put LDG_TRIG_STAT_TRIG_POS pos).hwSet LDG_TRIG_STAT_VALID
    s.raiseN 367 0x01 pos

/-- A cause of a trigger; only the first one of a FAB cycle counts (R393). -/
def State.trigger (s : State) : State := if s.ldg.trigAt = some s.clk.now then s else s.triggerNow

/-- A trip on link `k` triggers when TRIP_EN = 1 and an armed LINK channel records that link (R393). -/
def State.tripTrigger (s : State) (k : Nat) : State :=
  if s.bit LDG_TRIG_TRIP_EN && (List.range 16).any (fun c => s.waveReady c && s.get (LDG_WCH_LINK c) == k) then s.trigger else s

/-- A record of 8 bytes is merged into its word of 16; into an uncorrectable one it is discarded (R361). -/
def State.waveStore (s : State) (off : Nat) (bs : List Byte) : State :=
  if s.eccRead 73 (off / 16) = .bad then s.detect 56
  else ({ s with wave := writeBytes zeroByte s.wave off bs }).encode 73 (off / 16)

/-- Writes one record of 8 bytes to channel `c`. -/
def State.wavePut (s : State) (c : Nat) (bs : List Byte) : State :=
  let i := s.get (LDG_WST_WIDX c)
  let s := (s.waveStore (c * 0x10000 + 8 * i) bs).put (LDG_WST_WIDX c) ((i + 1) % waveLen)
  s.put (LDG_WST_FILL c) (min waveLen (s.get (LDG_WST_FILL c) + 1))

/-- Channel `c` freezes; with WAVE_AUTO = 1 its image waits for the WAVE region (R393). -/
def State.freeze (s : State) (c : Nat) : State :=
  let s := s.putBit (LDG_WST_FROZEN c) true
  let s := s.setWch c {}
  if s.bit LDG_CTRL_WAVE_AUTO && !(s.ldg.waveq.any (fun e => e.1 == c)) then
    { s with ldg := { s.ldg with waveq := s.ldg.waveq ++ [(c, 0)] } }
  else s

/-- A record of link `k` in LINK channel `c`, with its TRIP, STALE and CRCF flags (R392). -/
def waveRecord (u : UpData) (crcf stale trip : Bool) : List Byte :=
  bytesLE u.i.toNat 2 ++ bytesLE u.v.toNat 2 ++ bytesLE u.x.toNat 2 ++ [u.st]
    ++ [BitVec.ofNat 8 (u.sq.toNat % 16 + (if crcf then 0x10 else 0) + (if stale then 0x20 else 0) + (if trip then 0x40 else 0))]

/-- LINK channel `c` takes its record of this consumer cycle (R392, R393). -/
def State.waveSample (s : State) (c : Nat) (u : UpData) (crcf stale : Bool) : State :=
  if s.bit (LDG_WST_FROZEN c) then s
  else
    match (s.wch c).left with
    | some 0 => s
    | some (n + 1) =>
      let s := s.wavePut c (waveRecord u crcf stale u.trip)
      if (s.wch c).trigAt = some s.clk.now then s
      else
        let s := s.setWch c { left := some n, trigAt := (s.wch c).trigAt }
        if n = 0 then s.arm 0 (.waveFreeze (Fin.ofNat 16 c)) else s
    | none => s.wavePut c (waveRecord u crcf stale u.trip)

/-! ## Entry and release -/

/-- No record has been written in this FAB cycle (R381). -/
def State.mergeFree (s : State) : Bool := s.mrg.wroteAt != some s.clk.now

/-- An event enters the merge input (R50, R389, R404, R393): a late one, and any after PFAIL_N fell, is written on arrival, or
as soon as the merge is free (R381). -/
def State.enterEvent (s : State) (e : Ev) : State :=
  let pf := s.bit LDG_STAT_PF_ACTIVE
  let stamp := if e.late then s.stamp domFAB else e.stamp
  let late := e.late || decide (stamp.toNat + holdTicks < s.T.toNat)
  let e := { e with stamp := stamp, late := late, pf := pf, entered := s.T }
  let s := s.route e
  let s := if (late || pf) && s.mergeFree && s.mrg.held.isEmpty || (late && !pf && s.mergeFree) then s.writeRecord e else { s with mrg := { s.mrg with held := insertEv e s.mrg.held } }
  if s.bit LDG_TRIG_EV_EN && s.get LDG_TRIG_SRC == e.src && (s.bit LDG_TRIG_ANYCAUSE || s.get LDG_TRIG_CAUSE == e.cause) then s.trigger else s

/-- The oldest event on its way enters the merge (R34, R50); one whose code word is uncorrectable is discarded (R361). -/
def State.eventEntry (s : State) : State :=
  match s.mrg.inflight with
  | [] => s
  | e :: t =>
    let s := ({ s with mrg := { s.mrg with inflight := t } }).raiseDrop
    if eccJudge e.ecc == .bad then (if e.gap then s.markGap (domainOf e.src) else s).detect 55 else s.enterEvent { e with ecc := 0 }

/-- EVENT_RELEASE (R50): the held event of lowest key is written, one record in a FAB cycle (R381). -/
def execEventRelease (s : State) : Out :=
  match s.mrg.held with
  | [] => ok s
  | e :: t => if s.mergeFree then ok (({ s with mrg := { s.mrg with held := t } }).writeRecord e) else ok s

/-- The held events carry PF; the merge stops holding them, and they follow one in a FAB cycle (R381, R389). -/
def State.releaseAll (s : State) : State := { s with mrg := { s.mrg with held := s.mrg.held.map (fun e => { e with pf := true }) } }

/-! ## Errors of the Ledger (R395, R396) -/

/-- LDG_ERR takes CODE and VALUE and ERR is raised. -/
def State.ldgErr (s : State) (code value : Nat) : State :=
  let s := ((s.put LDG_ERR_VALUE value).hwSet LDG_ERR_ERRV).put LDG_ERR_CODE code
  s.raiseN 366 0x06 (code + value % 0x10000 * 0x10000)

/-! ## MRAM regions (R385) -/

/-- Region register `r`: 0 OWN, 1 PEER, 2 WAVE, 3 AUTH. -/
def mrReg (r : Nat) : Nat := LDG_MR_OWN + 4 * r
def State.mrBase (s : State) (r : Nat) : Nat := s.get ⟨mrReg r, 27, 16⟩ * 0x10000
def State.mrLen (s : State) (r : Nat) : Nat := s.get ⟨mrReg r, 11, 0⟩
/-- Record slots of a region: n = LEN × 2048. -/
def State.mrSlots (s : State) (r : Nat) : Nat := s.mrLen r * 2048

/-- The region has a place outside 256 MiB, or overlaps an enabled region of lower number (R385). -/
def State.mrBad (s : State) (r : Nat) : Bool :=
  s.mrLen r != 0 &&
    (decide (0x10000000 < s.mrBase r + s.mrLen r * 0x10000)
      || (List.range r).any (fun q => s.mrLen q != 0
        && decide (s.mrBase q < s.mrBase r + s.mrLen r * 0x10000 ∧ s.mrBase r < s.mrBase q + s.mrLen q * 0x10000)))

/-- An entry of the XSP queue passes (R34, R361, R371): whether it is uncorrectable, so that it is discarded. -/
def State.xspQueue (s : State) : State × Bool :=
  if s.bit (FCU_INJ_ARM 70) then
    let s := s.encode 70 0
    if s.eccRead 70 0 == .bad then ((s.detect 55).setEcc 70 0 0, true) else (s.setEcc 70 0 0, false)
  else (s, false)

/-- An operation on chip select `cs` with the command bytes in `cmd`, by the profile as it stands (R519, R521). -/
def State.xspOp (s : State) (cs cmd : Nat) (addr : Option (BitVec 32)) (dummy : Nat) (write : Bool) (len : Nat) (data : List Byte) : XspOp :=
  let ddr := s.get (XSP_PROF_MODE cs) == 1
  { cs := cs, ddr := ddr, clk := s.get (XSP_PROF_CLK cs), cmd := bytesLE cmd (if ddr then 2 else 1), addr := addr, dummy := dummy, write := write, len := len, data := data }

/-- FAB cycles that an operation takes: 8 clocks a byte, or half of one in 8D-8D-8D, and its dummy cycles (R519). -/
def XspOp.time (o : XspOp) : Nat :=
  let n := o.cmd.length + (if o.addr.isSome then 4 else 0) + o.len
  ((if o.ddr then (n + 1) / 2 else 8 * n) + o.dummy) * 2 ^ o.clk * 5 / 4 + 1

/-- The bus takes an operation. -/
def State.xspTakes (s : State) (o : XspOp) : State := { s with xsp := { s.xsp with op := some o } }

/-- Flush data go to the MRAM through the XSP queue, a word of 4 bytes an entry; a discarded word is not written. What
would lie beyond the 256 MiB of the device is not written (log entry 76). -/
def State.mramPut (s : State) (a : Nat) (bs : List Byte) : State :=
  let q := s.xspQueue
  let k := if q.2 then 4 else 0
  if 0x10000000 < a + bs.length then q.1 else { q.1 with mram := writeBytes erasedByte s.mram (a + k) (bs.drop k) }

/-- A record's bytes with another SEQ, GAP if asked for, and a fresh CRC (R385, R387). -/
def recopy (bs : List Byte) (seq : Nat) (gap : Bool) : List Byte :=
  let f := natLE (bs.drop 28 |>.take 2)
  withCrc16 (bs.take 8 ++ bytesLE seq 4 ++ (bs.drop 12).take 16 ++ bytesLE (if gap then f ||| 0x10 else f) 2)

/-- A FILL record (R387): KIND 0b10, SEQ′ the expected value. -/
def fillRecord (seq : Nat) (gap : Bool) : List Byte :=
  withCrc16 (bytesLE 0 8 ++ bytesLE seq 4 ++ bytesLE 0 16 ++ bytesLE (8 + if gap then 0x10 else 0) 2)

/-- A ring slot's 32 bytes. -/
def State.ringBytes (s : State) (slot : Nat) : List Byte := readBytes zeroByte s.ring (32 * slot) 32

/-- A ring slot holds an uncorrectable error. -/
def State.ringBad (s : State) (slot : Nat) : Bool := s.eccRead 72 (2 * slot) == .bad || s.eccRead 72 (2 * slot + 1) == .bad

/-- The check of a read of a word of the ring or the waveform store (R361). -/
def State.ldgCheck (s : State) (c w : Nat) : State := if s.eccRead c w = .bad then s.detect 56 else s.setEcc c w 0

/-- The checks of a read of a ring slot. -/
def State.ringSeen (s : State) (slot : Nat) : State := (s.ldgCheck 72 (2 * slot)).ldgCheck 72 (2 * slot + 1)

/-- A word of the waveform store is read; the bytes of an uncorrectable one are free (log entry 74). -/
def State.waveWord (s : State) (w : Nat) : State × List Byte :=
  if s.eccRead 73 w = .bad then (s.drawn.detect 56, bytesLE (Config.freeNat s.free) 16)
  else (s.setEcc 73 w 0, readBytes zeroByte s.wave (16 * w) 16)

/-- `n` words of the waveform store from word `w` on. -/
def State.waveWords (s : State) (w n : Nat) : State × List Byte :=
  match n with
  | 0 => (s, [])
  | n + 1 => let x := s.waveWord w; let y := x.1.waveWords (w + 1) n; (y.1, x.2 ++ y.2)

/-- SEQ′ of a record (R385). -/
def State.seqPrime (s : State) (n : Nat) : Nat := (n + s.get LDG_SEQ_BASE_BASE) % 2 ^ 32

/-- The copy of record `n` for MRAM or the twin (R385, R387). -/
def State.copyOf (s : State) (n : Nat) (gap : Bool) : List Byte :=
  let slot := n % ringSlots
  if s.ringBad slot then fillRecord (s.seqPrime n) gap else recopy (s.ringBytes slot) (s.seqPrime n) gap

/-- A record that is kept in AUTH too (R385). -/
def isAuthRecord (bs : List Byte) : Bool :=
  natLE ((bs.drop 12).take 2) % 512 == 353 && [2, 4, 6, 8].contains (natLE ((bs.drop 14).take 1))

/-! ## The flush (R386..R389) -/

/-- Records still to flush. -/
def State.backlog (s : State) : Nat := seqBehind s.seq (s.get LDG_FSEQ_SEQ)

/-- Flushes record `n` (R385, R387). -/
def State.flushRecord (s : State) (n : Nat) : State :=
  let bs := s.copyOf n s.ldg.ownGap
  let s := s.ringSeen (n % ringSlots)
  let s := if s.mrLen 0 = 0 then s else s.mramPut (s.mrBase 0 + 32 * (s.seqPrime n % s.mrSlots 0)) bs
  let s := if isAuthRecord bs && s.mrLen 3 != 0 then { s with ldg := { s.ldg with authq := s.ldg.authq ++ [bs] } } else s
  { s with ldg := { s.ldg with ownGap := false, pfCount := s.ldg.pfCount + 1 } }

/-- Flushes the record of LDG_FSEQ (R386). -/
def State.flushOne (s : State) : State :=
  let n := s.get LDG_FSEQ_SEQ
  (s.flushRecord n).put LDG_FSEQ_SEQ (n + 1)

/-- Flushes the PF_END record, the last of OWN; what stands before it and is not flushed is left (R389, log entry 76). -/
def State.flushLast (s : State) : State :=
  match s.ldg.pfEnd with
  | none => s
  | some n =>
    let s := { s with ldg := { s.ldg with pfEnd := none } }
    if s.get LDG_FSEQ_SEQ = n then s.flushOne else s.flushRecord n

/-- Copies the first waiting record to AUTH; a region disabled meanwhile takes none (R385). -/
def State.authOne (s : State) : State :=
  match s.ldg.authq with
  | [] => s
  | bs :: t =>
    let w := s.get LDG_AUTH_WPTR_WPTR
    if s.mrLen 3 = 0 then { s with ldg := { s.ldg with authq := t } }
    else
      let s := s.mramPut (s.mrBase 3 + 32 * w) bs
      ({ s with ldg := { s.ldg with authq := t } }).put LDG_AUTH_WPTR_WPTR ((w + 1) % s.mrSlots 3)

/-- One burst of 256 bytes of the first waiting channel image (R385, R393). -/
def State.imageOne (s : State) : State :=
  match s.ldg.waveq with
  | [] => s
  | (c, b) :: t =>
    if s.mrLen 2 ≤ c then { s with ldg := { s.ldg with waveq := t } }
    else
      let x := s.waveWords (c * 0x1000 + 16 * b) 16
      let s := x.1.mramPut (s.mrBase 2 + c * 0x10000 + 256 * b) x.2
      if b = 255 then
        let s := { s with ldg := { s.ldg with waveq := t } }
        (s.putBit (LDG_WST_SAVED c) true).raiseN 367 0x02 c
      else { s with ldg := { s.ldg with waveq := (c, b + 1) :: t } }

/-- Writes the first waiting mirrored record to its slot of PEER (R385, R391). -/
def State.peerOne (s : State) : State :=
  match s.ldg.peerq with
  | [] => s
  | bs :: t =>
    let s : State := { s with ldg := { s.ldg with peerq := t } }
    if s.mrLen 1 = 0 then s else s.mramPut (s.mrBase 1 + 32 * (natLE ((bs.drop 8).take 4) % s.mrSlots 1)) bs

/-- What the next burst carries: up to 8 records of the OWN backlog, then mirrored records, AUTH copies, images (R386); once
PF_END is raised, its record alone (R389). Without FLUSH_EN it carries mirrored records alone (R391). -/
def State.burstPlan (s : State) : Burst :=
  if s.ldg.pfCut then .last
  else if (s.bit LDG_CTRL_FLUSH_EN || s.bit LDG_STAT_PF_ACTIVE) && s.backlog ≠ 0 then .own (min 8 s.backlog)
  else if s.ldg.peerq ≠ [] then .peer (min 8 s.ldg.peerq.length)
  else if s.ldg.authq ≠ [] then .auth (min 8 s.ldg.authq.length)
  else .image

/-- What one good burst writes: what it carried when it began. -/
def State.burst (s : State) : State :=
  let b := s.ldg.burst.getD s.burstPlan
  let s : State := { s with ldg := { s.ldg with burst := none } }
  match b with
  | .own n => s.forN (min n s.backlog) (fun _ t => t.flushOne)
  | .peer n => s.forN n (fun _ t => t.peerOne)
  | .auth n => s.forN n (fun _ t => t.authOne)
  | .image => s.imageOne
  | .last => s.flushLast

/-- The burst in progress is off the bus (R528). -/
def State.burstOver (s : State) : State :=
  if s.ldg.burst.isNone then s else { s.putBit XSP_STAT_LDG_BUSY false with ldg := { s.ldg with burst := none } }

/-- Address and length of a burst. -/
def State.burstSpan (s : State) (b : Burst) : Nat × Nat :=
  match b with
  | .own n => (s.mrBase 0 + 32 * (s.seqPrime (s.get LDG_FSEQ_SEQ) % s.mrSlots 0), 32 * n)
  | .peer n => (s.mrBase 1 + 32 * (natLE (((s.ldg.peerq.headD []).drop 8).take 4) % s.mrSlots 1), 32 * n)
  | .auth n => (s.mrBase 3 + 32 * s.get LDG_AUTH_WPTR_WPTR, 32 * n)
  | .image => let e := s.ldg.waveq.headD (0, 0); (s.mrBase 2 + e.1 * 0x10000 + 256 * e.2, 256)
  | .last => (s.mrBase 0 + 32 * (s.seqPrime (s.ldg.pfEnd.getD 0) % s.mrSlots 0), 32)

/-- The MRAM takes a burst: its chip select has a write command (R521). -/
def State.mramReady (s : State) : Bool := s.word (XSP_CMDS 1) >>> 16 != 0

/-- A burst starts, to CS1 with its write command; its bytes are those of its end, the command, which says whether the MRAM
took it (R386, R521, R524). -/
def State.burstStart (s : State) : State :=
  let r := s.burstSpan s.burstPlan
  let o := s.xspOp 1 (s.word (XSP_CMDS 1) >>> 16).toNat (some (BitVec.ofNat 32 r.1)) (s.get (XSP_PROF_WDUMMY 1)) true r.2 []
  let s : State := { s with ldg := { s.ldg with burst := some s.burstPlan } }
  ((s.xspTakes o).putBit XSP_STAT_LDG_BUSY true).arm o.time (.flushBurst s.mramReady)

/-- Whether the Ledger may write the MRAM: FLUSH_EN = 1 (R386), or the power-fail flush runs (R389); and it has not ended. -/
def State.mayFlush (s : State) : Bool := (s.bit LDG_CTRL_FLUSH_EN || s.bit LDG_STAT_PF_ACTIVE) && !s.ldg.pfStop

/-- A burst failed (R388). -/
def State.burstFailed (s : State) : State :=
  let s := { s with ldg := { s.ldg with fails := s.ldg.fails + 1 } }
  if s.ldg.fails = 2 then
    let s := s.putBit LDG_STAT_BLOCKED true
    let s := { s with ldg := { s.ldg with lost := 0 } }
    let s := s.detect 57
    (s.raiseN 366 0x01 (s.get LDG_FSEQ_SEQ)).arm (ms 1) (.flushRetry true)
  else s

/-- FLUSH_BURST (R386..R388, R521): a burst ends; `good` says whether the MRAM took it, which it never does without a write
command. One that has started ends whatever FLUSH_EN. -/
def execFlushBurst (good : Bool) (s : State) : Out :=
  let t := if s.ldg.burst.isNone then s else s.putBit XSP_STAT_LDG_BUSY false
  if s.ldg.pfStop || s.bit LDG_STAT_BLOCKED || (!s.mayFlush && s.ldg.burst.isNone) then ok s.burstOver
  else if good && s.mramReady then ok ({ t with ldg := { t.ldg with fails := 0 } }).burst
  else ok s.burstOver.burstFailed

/-- FLUSH_RETRY (R388). While the Ledger may not write the MRAM, it waits for the next one; while an indirect command has the
bus, for its end (R524). -/
def execFlushRetry (good : Bool) (s : State) : Out :=
  let s := s.disarm (.flushRetry true)
  if !s.bit LDG_STAT_BLOCKED then ok s
  else if s.xsp.icmd.isSome then ok (s.arm 1 (.flushRetry true))
  else if good && s.mramReady && (s.mayFlush || !s.ldg.peerq.isEmpty) then
    let s := (s.putBit LDG_STAT_BLOCKED false).raiseN 366 0x02 s.ldg.lost
    ok ({ s with ldg := { s.ldg with fails := 0 } }).burst
  else ok (s.arm (ms 1) (.flushRetry true))

/-! ## Power fail (R389) -/

/-- The Ledger's part of PFAIL_N falling: once until reset. -/
def State.pfStart (s : State) : State :=
  if s.ldg.pfRun then s
  else
    let s := { s with ldg := { s.ldg with pfRun := true } }
    let s := s.putBit LDG_STAT_PF_ACTIVE true
    let s := s.releaseAll
    let cs := (List.range 16).filter (fun c => s.get (LDG_WCH_SRC c) == 1 && !s.bit (LDG_WST_FROZEN c))
    let s := cs.foldl (fun t c => (t.putBit (LDG_WCH_ARM c) false).freeze c) s
    let saved := (List.range 16).filter (fun c => s.get (LDG_WCH_SRC c) == 1 && s.bit (LDG_WST_FROZEN c) && !s.bit (LDG_WST_SAVED c))
    let s := { s with ldg := { s.ldg with waveq := saved.map (fun c => (c, 0)), pfCount := 0 } }
    let s := s.raiseN 366 0x04 (s.get LDG_FSEQ_SEQ)
    s.arm (us (s.get LDG_PF_BUDGET_US)) .pfEnd

/-- PF_END (R389): PF_END is raised and is the last OWN record. -/
def execPfEnd (s : State) : Out :=
  if s.bit LDG_STAT_PF_ACTIVE && !s.ldg.pfCut && !s.ldg.pfStop then
    let s := { s with ldg := { s.ldg with pfCut := true } }
    ok (((s.disarm .pfEnd).raiseN 366 0x05 s.ldg.pfCount).arm 375 .pfDone)
  else ok s

/-- PF_DONE (R389): the last burst is complete; no further MRAM write until reset. -/
def execPfDone (s : State) : Out :=
  if s.bit LDG_STAT_PF_ACTIVE && !s.ldg.pfStop then
    ok ((({ s with ldg := { s.ldg with pfStop := true } }).disarm .pfDone).hwSet LDG_STAT_PF_DONE)
  else ok s

/-! ## Register operations (R385, R393, R394, R396) -/

/-- LDG_CTRL: FLUSH_EN = 1 is refused with RANGE for bad regions (R385). -/
def State.wLdgCtrl (v : Word) (s : State) : State :=
  let a := LDG_CTRL
  match (if tb v 0 then (List.range 4).find? s.mrBad else none) with
  | some r => s.ldgErr 2 r
  | none =>
    s.regWrite a v true (fun s =>
      let s := if tb v 3 then (((s.put LDG_CNT_LOSTF_COUNT 0).put LDG_CNT_LOSTM_COUNT 0).put LDG_CNT_DROP_COUNT 0).put LDG_CNT_MIRX_COUNT 0 else s
      if tb v 4 then s.trigger else s)

/-- A region register, LDG_SEQ_BASE or LDG_AUTH_WPTR: not while flushing or mirroring (R396). -/
def State.wLdgRegion (a : Nat) (v : Word) (s : State) : State :=
  s.regWrite a v (!s.bit LDG_CTRL_FLUSH_EN && !s.bit LDG_CTRL_MIRROR_EN) id

/-- LDG_ERR: ERRV clears all three fields (R396). -/
def State.wLdgErr (v : Word) (s : State) : State := s.clearErr LDG_ERR_ERRV v

/-- LDG_WCH c: SRC changes only from or to OFF; ARM arms, and a channel that was armed stays so for this cycle's trigger
(R392, R393). -/
def State.wLdgWch (c : Nat) (v : Word) (s : State) : State :=
  let src := bitsOf v 9 8
  let old := s.get (LDG_WCH_SRC c)
  s.regWrite (LDG_WCH c) v (src == 0 || old == 0 || src == old) (fun s =>
    if src = 0 then (s.putBit (LDG_WCH_ARM c) false).setWch c {}
    else if tb v 31 then
      let s := if s.bit (LDG_WST_FROZEN c) then ((s.putBit (LDG_WST_FROZEN c) false).putBit (LDG_WST_SAVED c) false).put (LDG_WST_FILL c) 0 else s
      let s := { s with ldg := { s.ldg with waveq := s.ldg.waveq.filter (fun e => e.1 ≠ c) } }
      (s.putBit (LDG_WCH_ARM c) true).setWch c { armedAt := if s.bit (LDG_WCH_ARM c) then (s.wch c).armedAt else some s.clk.now }
    else s)

/-- The readout that a GO would start (R394). -/
def State.readout (s : State) : Readout :=
  { ring := s.bit LDG_RD_CTRL_RING, ch := s.get LDG_RD_CTRL_CH, count := s.get LDG_RD_CTRL_COUNT
    start := s.get LDG_RD_START_START, dst := s.get LDG_RD_DST_ADDR * 4 }

/-- Records its source holds. -/
def Readout.size (r : Readout) : Nat := if r.ring then ringSlots else waveLen
/-- Bytes of one of its records. -/
def Readout.width (r : Readout) : Nat := if r.ring then 32 else 8
/-- FAB cycles it takes: 64 bytes in 1 µs (R394, log entry 8). -/
def Readout.time (r : Readout) : Nat := (r.count * r.width * 125 + 31) / 32

/-- A readout that is refused with RANGE or BUSY: the spec states no VALUE of them (log entry 2). -/
def State.rdRefused (s : State) (code : Nat) : State := s.drawn.ldgErr code (Config.freeNat s.free % 2 ^ 16)

/-- A readout starts, or is refused (R394). -/
def State.rdGo (s : State) : State :=
  let r := s.readout
  if r.count = 0 then s
  else if r.size < r.count then s.ldgErr 1 r.count
  else if r.size ≤ r.start || !inDtcm r.dst (r.count * r.width) then s.rdRefused 2
  else
    let s := (s.putBit LDG_STAT_RD_BUSY true).putBit LDG_RD_CTRL_GO true
    ({ s with ldg := { s.ldg with rd := some r } }).arm r.time .rdDone

/-- LDG_RD_CTRL (R394). -/
def State.wLdgRdCtrl (v : Word) (s : State) : State :=
  if tb v 31 && s.bit LDG_STAT_RD_BUSY then s.rdRefused 3
  else s.regWrite LDG_RD_CTRL v true (fun s => if tb v 31 then s.rdGo else s)

/-- Record `j` of the readout's source; uncorrectable words of it are free (log entry 74). -/
def State.rdRecord (s : State) (r : Readout) (j : Nat) : State × List Byte :=
  if r.ring then
    let t := s.ringSeen j
    if s.ringBad j then (t.drawn, bytesLE (Config.freeNat t.free) 32) else (t, s.ringBytes j)
  else
    let o := r.ch * 0x10000 + 8 * j
    let x := s.waveWord (o / 16)
    (x.1, (x.2.drop (o % 16)).take 8)

/-- Copies record `i` of the readout to DTCM (R394). -/
def State.rdCopy (r : Readout) (i : Nat) (s : State) : State :=
  let x := s.rdRecord r ((r.start + i) % r.size)
  x.1.dtcmPut (r.dst + i * r.width) x.2

/-- RD_DONE (R394). The records are copied in this step (log entry 8). -/
def execRdDone (s : State) : Out :=
  match s.ldg.rd with
  | none => ok s
  | some r =>
    let s := (({ s with ldg := { s.ldg with rd := none } }).disarm .rdDone).forN r.count (State.rdCopy r)
    ok ((((s.putBit LDG_STAT_RD_BUSY false).putBit LDG_RD_CTRL_GO false).hwSet LDG_STAT_RD_DONE).raiseN 366 0x08 r.count)

/-- WAVE_FREEZE (R393): the channel has written 8192 − PRE records since its trigger. -/
def execWaveFreeze (c : Fin 16) (s : State) : Out :=
  let s := s.disarm (.waveFreeze c)
  match (s.wch c).left with
  | some _ => ok (s.freeze c)
  | none => ok s

/-! ## The Ledger RAM window (R384) -/

/-- LEDGER_WINDOW_READ (R384): the stored, corrected word; an uncorrectable error reads 0 and is reported. -/
def State.ledgerRead (s : State) (who : Who) (a : Nat) : State :=
  let off := a - 0x48000000
  let isRing := decide (off < 0x100000)
  let c := if isRing then 72 else 73
  let w := (if isRing then off else off - 0x100000) / 16
  match s.eccRead c w with
  | .bad => (((s.detect 56).ldgErr 4 (off / 32)).answer who 0 false)
  | _ =>
    let bs := if isRing then readBytes zeroByte s.ring off 4 else readBytes zeroByte s.wave (off - 0x100000) 4
    ((s.setEcc c w 0).answer who (BitVec.ofNat 32 (natLE bs)) false)

def execLedgerWindowRead (who : Who) (a : Nat) (s : State) : Out :=
  if 0x48000000 ≤ a ∧ a < 0x48200000 then ok (s.busRead who (a / 4 * 4) (fun s => s.ledgerRead who (a / 4 * 4))) else ok s

/-! ## Mirroring (R390, R391) -/

/-- Part `p` of a record as a cell's payload, with its INDEX in bits 119:112 of the value (R390). -/
def mirrorPart (bs : List Byte) (seq6 p : Nat) : BitVec 128 :=
  BitVec.ofNat 128 (natLE ((bs.drop (14 * p)).take 14) + (p + 4 * seq6) <<< 112)

/-- The three parts, in order. -/
def mirrorParts (bs : List Byte) (seq6 : Nat) : List (BitVec 128) :=
  [mirrorPart bs seq6 0, mirrorPart bs seq6 1, mirrorPart bs seq6 2]

/-- The own record of LDG_MSEQ is taken for the mirror (R387, R390). -/
def State.mirrorTake (s : State) (lane : Nat) : State :=
  let n := s.get LDG_MSEQ_SEQ
  let bs := s.copyOf n s.ldg.mirGap
  let s := s.ringSeen (n % ringSlots)
  let s := { s with ldg := { s.ldg with mirGap := false, mirFlag := s.ldg.mirGap, mir := some (lane, mirrorParts bs (s.seqPrime n % 64)) } }
  s.put LDG_MSEQ_SEQ (n + 1)

/-- The lane of the record being sent is lost: all three of its cells go out again on another (R390), or, where the ring has
overwritten it, it counts as skipped (R387). -/
def State.mirrorBack (s : State) : State :=
  let n := (s.get LDG_MSEQ_SEQ + 2 ^ 32 - 1) % 2 ^ 32
  let s := { s with ldg := { s.ldg with mir := none } }
  if ringSlots < seqBehind s.seq n then { s.inc LDG_CNT_LOSTM_COUNT with ldg := { s.ldg with mirGap := true } }
  else { s.put LDG_MSEQ_SEQ n with ldg := { s.ldg with mirGap := s.ldg.mirFlag } }

/-- What stands of a mirrored record on a lane. -/
def State.mirAsm (s : State) (lane : Nat) : Option MirAsm := SMap.get (fun _ => none) s.ldg.asm lane
def State.setMirAsm (s : State) (lane : Nat) (m : Option MirAsm) : State :=
  { s with ldg := { s.ldg with asm := SMap.set (fun _ => none) s.ldg.asm lane m } }

/-- A whole mirrored record (R391): to PEER unchanged, by a burst of its own, and to AUTH where R385 applies. -/
def State.mirrorDone (s : State) (bs : List Byte) : State :=
  let good := natLE (bs.drop 30) == crc16 (bs.take 30)
  if !good || s.mrLen 1 == 0 || s.ldg.pfStop then s.inc LDG_CNT_MIRX_COUNT
  else
    let s : State := { s with ldg := { s.ldg with peerq := s.ldg.peerq ++ [bs] } }
    if isAuthRecord bs && s.mrLen 3 != 0 then { s with ldg := { s.ldg with authq := s.ldg.authq ++ [bs] } } else s

/-- Part `p` of a record of which nothing stands yet: a record without its part 0 is counted once (R391). -/
def State.mirrorFirst (s : State) (lane p seq6 : Nat) (bs : List Byte) : State :=
  if p = 0 then s.setMirAsm lane (some (.taking seq6 1 bs)) else (s.inc LDG_CNT_MIRX_COUNT).setMirAsm lane (some (.dropping p))

/-- One LEDGER cell on a lane: INDEX and payload (R390, R391). A part that does not follow the one before it belongs to the
next record; a record discarded is counted once. -/
def State.mirrorCell (s : State) (lane idx pay : Nat) : State :=
  let p := idx % 4
  let q := idx / 4
  let bs := bytesLE pay (if p = 2 then 4 else 14)
  match s.mirAsm lane with
  | none => s.mirrorFirst lane p q bs
  | some (.dropping last) => if last < p then s.setMirAsm lane (some (.dropping p)) else s.mirrorFirst lane p q bs
  | some (.taking q0 next b0) =>
    if p < next then (s.inc LDG_CNT_MIRX_COUNT).mirrorFirst lane p q bs
    else if p = next ∧ q = q0 then
      if p = 2 then (s.setMirAsm lane none).mirrorDone (b0 ++ bs) else s.setMirAsm lane (some (.taking q0 (next + 1) (b0 ++ bs)))
    else (s.inc LDG_CNT_MIRX_COUNT).setMirAsm lane (some (.dropping p))

/-! ## Commands that are one register write -/

/-- FLUSH_EN (R385). -/
def execFlushEn (who : Who) (v : Word) (s : State) : Out :=
  let v := withBit v 0
  ok (s.busWrite who LDG_CTRL v (State.wLdgCtrl v))

/-- TRIG_NOW (R393). -/
def execTrigNow (who : Who) (v : Word) (s : State) : Out :=
  let v := withBit v 4
  ok (s.busWrite who LDG_CTRL v (State.wLdgCtrl v))

/-- LDG_CNT_CLR (R396). -/
def execLdgCntClr (who : Who) (v : Word) (s : State) : Out :=
  let v := withBit v 3
  ok (s.busWrite who LDG_CTRL v (State.wLdgCtrl v))

/-- WAVE_ARM (R393). -/
def execWaveArm (who : Who) (c : Fin 16) (v : Word) (s : State) : Out :=
  let v := withBit v 31
  ok (s.busWrite who (LDG_WCH c) v (State.wLdgWch c v))

/-- READOUT_GO (R394). -/
def execReadoutGo (who : Who) (v : Word) (s : State) : Out :=
  let v := withBit v 31
  ok (s.busWrite who LDG_RD_CTRL v (State.wLdgRdCtrl v))

end Sys2Proof.Machine
end

