-- ==== Sys2Proof/Machine/LinkBase.lean ====
section
/-! DEFINITION. Machine/LinkBase.lean: what the link, feed, Mint and twin blocks read of a link: its state, its role, the
authority in force, its mailbox; errors and seizes. -/

namespace Sys2Proof.Machine

/-! ## Link states (R72) -/

def lsOFF : Nat := 0
def lsLOCK : Nat := 1
def lsHELLO : Nat := 2
def lsMEASURE : Nat := 3
def lsADVANCE : Nat := 4
def lsVERIFY : Nat := 5
def lsTRAINED : Nat := 6
def lsLOST : Nat := 7
def lsFAILED : Nat := 8

def State.lstate (s : State) (k : Nat) : Nat := s.get (LNK_STATUS_STATE k)
def State.trained (s : State) (k : Nat) : Bool := s.lstate k == lsTRAINED
def State.anyTrained (s : State) : Bool := (List.range s.nLinks).any s.trained

/-- Role tags (R55). -/
def rlFEED : Nat := 0
def rlRECT : Nat := 1
def rlBATT : Nat := 2
def rlSENS : Nat := 3
def State.role (s : State) (k : Nat) : Nat := s.get (LNK_CTRL_ROLE k)

/-! ## Authority and safe state -/

def State.holder (s : State) : Bool := s.bit LNK_EPOCH_HOLDER
/-- `LNK_EPOCH.EPOCH` (R120). -/
def State.epoch (s : State) : Nat := bitsOf (s.word LNK_EPOCH) 15 0
def State.safe (s : State) : Bool := s.bit FCU_STAT_SAFE
def State.seized (s : State) (k : Nat) : Bool := s.bmBit LNK_SEIZED k

/-- A standby that is not known to be equal to the holder: TRIP values are ignored and no trip is requested (R349). -/
def State.diverged (s : State) : Bool := !s.holder && !s.bit TWN_STAT_SHADOW_OK

/-- A transfer of the feed state machines is in progress here (R355). -/
def State.feedXfer (s : State) : Bool := match s.twn.xfer with | some x => x.sel == 16 | none => false

/-! ## Errors (R90, R118) -/

/-- LNK_ERR takes a code and a value and ERR is raised on the link's source. -/
def State.linkErr (s : State) (k code value : Nat) : State :=
  let s := ((s.put (LNK_ERR_VALUE k) value).hwSet (LNK_ERR_ERRV k)).put (LNK_ERR_CODE k) code
  s.raiseN (64 + k) 0x03 (code + value % 0x10000 * 0x10000)

/-- The same where the failing rule states no VALUE: a free value (log entry 2). -/
def State.linkErrOpen (s : State) (k code : Nat) : State :=
  s.drawn.linkErr k code (Config.freeNat s.free % 0x10000)

/-- A hardware requester takes the channel: a supervisor command written in this FAB cycle is refused after all (R85). -/
def State.takeChannel (s : State) (k : Nat) : State :=
  match (s.link k).cmd with
  | some c =>
    if c.owner = CmdOwner.supervisor && c.askedAt == s.clk.now && !c.sent
      then ((s.setWord (LNK_CMD k) c.before).modLink k (fun l => { l with cmd := none })).linkErrOpen k 3 else s
  | none => s

/-! ## Seizes (R111, R119, R553) -/

/-- R553 disregards an upstream frame that arrives in the link frame which started in FAB cycle `start`. -/
def LinkSt.disregards (l : LinkSt) (start : Nat) : Bool :=
  match l.disregard with | some c => decide (c ≤ start) && decide (start < c + 300) | none => false

/-- The seize in progress on a link; LNK_RESEIZE reads 1 while one is pending. -/
def State.setSeize (s : State) (k : Nat) (z : Option Seize) : State :=
  (s.modLink k (fun l => { l with seize := z })).setBm LNK_RESEIZE k z.isSome

/-- A seize becomes pending, but not in the safe state (R111, R552). -/
def State.startSeize (s : State) (k need : Nat) : State :=
  if s.safe then s else s.setSeize k (some { need := need, sent := 0 })

/-! ## The mailbox (R82) -/

/-- A signed or an unsigned 16-bit pattern as a word. -/
def sext16 (b : BitVec 16) : Word := b.signExtend 32
def zext16 (b : BitVec 16) : Word := b.zeroExtend 32

/-- Latest value of an auxiliary slot. -/
def Mbox.auxOf (m : Mbox) (i : Nat) : Word := SMap.get (fun _ => 0) m.aux i

/-- A mailbox field (R82); `cnt` is the stale count. -/
def Mbox.field (m : Mbox) (cnt idx : Nat) : Word :=
  match idx with
  | 0 => BitVec.ofNat 32 ((if m.stale then 0x80000000 else 0) + (if m.novalid then 0x40000000 else 0)
      + (if m.crcf then 0x20000000 else 0) + cnt * 0x10000 + m.strobe.toNat * 0x100 + m.data.st.toNat)
  | 1 => sext16 m.data.i
  | 2 => sext16 m.data.v
  | 3 => sext16 m.data.t
  | 4 => BitVec.ofNat 32 (m.data.sq.toNat % 16 * 0x10000 + m.data.x.toNat)
  | 5 => m.data.sq.zeroExtend 32
  | 6 => m.mfn
  | 7 => 0
  | i => if i < 24 then m.auxOf (i - 8) else 0

/-- Field `idx` of link `k`'s mailbox: what LDM and the mirror read. -/
def State.mbField (s : State) (k idx : Nat) : Word := (s.link k).mb.field (s.get (LNK_STATUS_STALE_CNT k)) idx

/-- Bits of ST (R56). -/
def stAuthOk (b : BitVec 8) : Bool := b.getLsbD 7
def stRoleOk (b : BitVec 8) : Bool := b.getLsbD 6
def stAck (b : BitVec 8) : Bool := b.getLsbD 5
def stTrip (b : BitVec 8) : Bool := b.getLsbD 4
def stPresent (b : BitVec 8) : Bool := b.getLsbD 3
def stAuton (b : BitVec 8) : Bool := b.getLsbD 2
def stHealth (b : BitVec 8) : Nat := b.toNat % 4

/-- An entry enters a queue of link `k`; its encoder `c` takes an armed injection (R371). -/
def State.queueEntry {α : Type} (s : State) (c k : Nat) (x : α) : State × Entry α :=
  let s := s.encodeLink c k
  (s.setEcc c k 0, { val := x, ecc := s.eccErr c k })

/-- The entry can be read. -/
def Entry.good {α : Type} (e : Entry α) : Bool := eccJudge e.ecc != .bad

/-! ## Symbols (R54, R58, R61) -/

/-- A symbol's byte value, as the CRC takes it (R61). -/
def LSym.val (y : LSym) : Byte := match y with | .d b => b | .k b => b | .bad => 0

def K28_5 : Byte := 0xBC
def K23_7 : Byte := 0xF7
def K27_7 : Byte := 0xFB
def K29_7 : Byte := 0xFD
def K30_7 : Byte := 0xFE

/-- Symbol `i` of a frame as a byte. -/
def symAt (ys : List LSym) (i : Nat) : Byte := LSym.val (ys.getD i .bad)

/-- A field in symbols `i` and `i + 1`, most significant byte first (R54). -/
def symPair (ys : List LSym) (i : Nat) : BitVec 16 := symAt ys i ++ symAt ys (i + 1)

end Sys2Proof.Machine
end

