-- ==== Sys2Proof/Machine/Feed.lean ====
section
/-! DEFINITION. Machine/Feed.lean: the feed state machines (09): inputs, timers, the one transition of an evaluation in
the order of R271, adoption, blanking, the thresholds' side conditions, measurement; and the meanings of their
commands. -/

namespace Sys2Proof.Machine

def State.feed (s : State) (k : Nat) : Feed := SMap.get (fun _ => {}) s.feeds k
def State.setFeed (s : State) (k : Nat) (f : Feed) : State := { s with feeds := SMap.set (fun _ => {}) s.feeds k f }
def State.modFeed (s : State) (k : Nat) (g : Feed → Feed) : State := s.setFeed k (g (s.feed k))

/-! ## States and causes (R268, R270) -/

def fsOFF : Nat := 0
def fsPRECHECK : Nat := 1
def fsRAMP : Nat := 2
def fsON : Nat := 3
def fsLIMIT : Nat := 4
def fsTRIPPED : Nat := 5
def fsRETRY : Nat := 6
def fsLOCKOUT : Nat := 7
def fsFETFAULT : Nat := 8
def fsTRANSFER : Nat := 9

def State.fstate (s : State) (k : Nat) : Nat := s.get (FSM_STATUS_STATE k)

/-- The state machine operates: role FEED and EN = 1 (R265). -/
def State.feedOn (s : State) (k : Nat) : Bool := s.role k == rlFEED && s.bit (FSM_CTRL_EN k)

/-- TRANSFER in phase MAKE. -/
def State.making (s : State) (k : Nat) : Bool := s.fstate k == fsTRANSFER && s.bit (FSM_STATUS_PHASE k)

/-- A duration of `ns` in evaluations of one link frame (R266). -/
def evals (ns : Nat) : Nat := (ns + 299) / 300

/-! ## Thresholds' side conditions (R261) -/

/-- What the state and the blanking window ask of the thresholds now. -/
def State.protNow (s : State) (k : Nat) : ProtSel :=
  let st := s.fstate k
  let blank := s.bit FSM_GSTAT_ACTIVE
  { ramp := st == fsRAMP || s.making k || blank, uv := (st == fsON || st == fsLIMIT) && !blank }

/-- The conditions that decide a field decoded now: a change takes 25 FAB cycles (R261). -/
def State.protInForce (s : State) (k : Nat) : ProtSel :=
  (s.link k).protQ.foldl (fun p e => if e.1 + 25 ≤ s.clk.now then e.2 else p) (s.link k).protBase

/-- Notes a change of those conditions with its FAB cycle. -/
def State.protRefresh (s : State) (k : Nat) : State :=
  let l := s.link k
  let p := s.protNow k
  if p = l.prot then s
  else s.setLink k { l with prot := p, protBase := s.protInForce k, protQ := l.protQ.filter (fun e => s.clk.now < e.1 + 25) ++ [(s.clk.now, p)] }

/-- FT_EFF (R261). -/
def State.ftEff (s : State) (k : Nat) : Nat :=
  let ceil := if s.role k == rlFEED && (s.protInForce k).ramp then s.get (LNK_PROT_ILIM_RFT_CEIL k) else s.get (LNK_PROT_ILIM_FT_CEIL k)
  if s.diverged then ceil else min (s.get (LNK_PROT_IEFF_TRIP_FT k)) ceil

/-- OV_EFF (R261). -/
def State.ovEff (s : State) (k : Nat) : Nat :=
  if s.diverged then s.get (LNK_PROT_VLIM_OV_CEIL k) else min (s.link k).latOv.toNat (s.get (LNK_PROT_VLIM_OV_CEIL k))

/-- UV_EFF (R261). -/
def State.uvEff (s : State) (k : Nat) : Nat :=
  if s.diverged then s.get (LNK_PROT_VLIM_UV_FLOOR k) else max (s.link k).latUv.toNat (s.get (LNK_PROT_VLIM_UV_FLOOR k))

/-- The under-voltage comparison is active (R261). -/
def State.uvActive (s : State) (k : Nat) : Bool := s.role k != rlFEED || (s.protInForce k).uv

/-! ## Entering a state (R269, R274, R277) -/

/-- States in which the FET-short timer runs (R277). -/
def fsShortRuns (st : Nat) : Bool := st == fsOFF || st == fsPRECHECK || st == fsTRIPPED || st == fsRETRY || st == fsLOCKOUT

/-- N of the episode. -/
def State.feedN (s : State) (k : Nat) : Nat := s.get (FSM_STATUS_N k)

/-- STATE event (R284). -/
def State.feedEvent (s : State) (k cause old new : Nat) : State :=
  s.raiseN (160 + k) 0x01 (s.feedN k * 0x1000 + cause * 0x100 + old * 0x10 + new)

/-- The state register and the STATE event; `cause` is recorded on entry to TRIPPED, OFF and FET_FAULT (R286). -/
def State.feedTo (s : State) (k new cause : Nat) : State :=
  let old := s.fstate k
  let s := s.put (FSM_STATUS_STATE k) new
  let s := s.putBit (FSM_STATUS_PHASE k) false
  let s := if new == fsTRIPPED || new == fsOFF || new == fsFETFAULT then s.put (FSM_STATUS_CAUSE k) cause else s
  let s := s.modFeed k (fun f => { f with
    preT := none, rampT := none, shortT := none, limT := none, deadT := none, clrLim := none, sideLim := none
    sideReq := none, picked := none, limExit := 0, autoPend := false
    retryT := if new = fsRETRY then f.retryT else none
    stable := if new == fsON || new == fsLIMIT then f.stable else 0
    fsCnt := if fsShortRuns new && !fsShortRuns old then 0 else f.fsCnt })
  (s.feedEvent k cause old new).protRefresh k

/-- The fault episode ends (R275). -/
def State.feedEpisodeEnd (s : State) (k : Nat) : State :=
  let s := if (s.feed k).episode then s.raiseN (160 + k) 0x02 (s.feedN k) else s
  (s.put (FSM_STATUS_N k) 0).modFeed k (fun f => { f with episode := false, stable := 0 })

def State.feedPrecheck (s : State) (k : Nat) : State :=
  (s.feedTo k fsPRECHECK 0).modFeed k (fun f => { f with preT := some (evals (1000000 * s.get (FSM_TIME_PRE_MS k))) })

/-- The timers and the energy of RAMP and MAKE start (R269). -/
def State.feedRampStart (s : State) (k : Nat) : State :=
  (s.put (FSM_SOA_USED_USED k) 0).modFeed k (fun f => { f with
    rampT := some (evals (1000000 * s.get (FSM_TIME_RAMP_TMO k))), shortT := none, soa := 0 })

def State.feedRamp (s : State) (k : Nat) : State := (s.feedTo k fsRAMP 0).feedRampStart k

def State.feedLimit (s : State) (k : Nat) : State :=
  (s.feedTo k fsLIMIT 0).modFeed k (fun f => { f with limT := some (evals (1000000 * s.get (FSM_TIME_LIM_MS k))) })

/-- Entry to TRIPPED, counted as a failure where `fail` says so (R269, R274, R284). -/
def State.feedTrippedBy (s : State) (k cause : Nat) (fail : Bool) : State :=
  let s := s.inc (FSM_CNT_TRIP_COUNT k)
  let s := if fail then s.inc (FSM_CNT_FAIL_COUNT k) else s
  let s := (s.feedTo k fsTRIPPED cause).modFeed k (fun f => { f with episode := true })
  s.detect 70

/-- Entry to TRIPPED: from PRECHECK, RAMP and TRANSFER it counts as a failure (R274). -/
def State.feedTripped (s : State) (k cause : Nat) : State :=
  let old := s.fstate k
  s.feedTrippedBy k cause (old == fsPRECHECK || old == fsRAMP || old == fsTRANSFER)

/-- The state machine requests a trip (R263), which a diverged standby does not send (R349). -/
def State.feedKill (s : State) (k cause : Nat) : State :=
  let s := s.feedTripped k cause
  if s.diverged then s
  else (s.modLink k (fun l => { l with tripReq := true })).modFeed k (fun f => { f with kSent := true, kAfter := true })

/-- From TRIPPED to RETRY_WAIT or LOCKOUT (R274). -/
def State.feedAfterTrip (s : State) (k : Nat) : State :=
  let n := s.feedN k
  if n < s.get (FSM_CFG_RMAX k) then
    let s := s.modFeed k (fun f => { f with retryT := some (evals (1000000 * s.get (FSM_CFG_BASE_MS k) * 2 ^ n)) })
    (s.putBit (FSM_STATUS_EXPIRED k) false).feedTo k fsRETRY 0
  else (s.feedTo k fsLOCKOUT 0).detect 71

def State.feedFetFault (s : State) (k : Nat) : State := (s.feedTo k fsFETFAULT 13).detect 72

/-- A retry: N counts it (R274). -/
def State.feedRetry (s : State) (k : Nat) : State :=
  ((s.put (FSM_STATUS_N k) (s.feedN k + 1)).putBit (FSM_STATUS_EXPIRED k) false).feedPrecheck k

/-- A command of the state machine goes to the command channel (R267, R85). -/
def State.feedCmd (s : State) (k : Nat) (op : BitVec 8) (arg : BitVec 16) : State :=
  (s.takeChannel k).modLink k (fun l => { l with fsmCmds := l.fsmCmds ++ [(op, arg)] })

/-- A FEED_CLEAR of firmware has been acknowledged: of the K23.7 so far, only those since its first frame count (R269). -/
def State.feedCleared (s : State) (k : Nat) : State := s.modFeed k (fun f => { f with kSent := f.kAfter })

/-- A transfer begins with BREAK (R278). -/
def State.feedBreak (s : State) (k : Nat) : State :=
  let other := !s.bit (FSM_STATUS_SIDE k)
  let s := (s.feedTo k fsTRANSFER 0).feedCmd k 0x10 (if other then 1 else 0)
  s.modFeed k (fun f => { f with
    deadT := some (evals (1000 * s.get (FSM_SIDE_DT k))), sideLim := some 64, sideReq := some other, sideCnt := none, retCnt := none })

/-- BREAK ends in MAKE (R278). -/
def State.feedMake (s : State) (k : Nat) : State :=
  let s := (s.feedTo k fsTRANSFER 0).putBit (FSM_STATUS_PHASE k) true
  (s.feedRampStart k).protRefresh k

/-- Firmware's OFF or the disappearance of the tray (R269). -/
def State.feedOff (s : State) (k cause : Nat) : State := s.feedTo k fsOFF cause

/-! ## Inputs (R267) -/

def State.feedMb (s : State) (k : Nat) : Mbox := (s.link k).mb
def State.feedV (s : State) (k : Nat) : Int := s16 (s.feedMb k).data.v
def State.feedI (s : State) (k : Nat) : Int := s16 (s.feedMb k).data.i
def State.feedSt (s : State) (k : Nat) : BitVec 8 := (s.feedMb k).data.st
/-- Input voltage of a side: auxiliary slot 0 or 1. -/
def State.feedVin (s : State) (k : Nat) (side : Bool) : Int := ((s.feedMb k).auxOf (if side then 1 else 0)).toInt
/-- Slot 10 SIDE. -/
def State.feedSideSeen (s : State) (k : Nat) : Bool := ((s.feedMb k).auxOf 10).getLsbD 15
def State.vinOk (s : State) (k : Nat) (side : Bool) : Bool :=
  decide ((s.get (FSM_INWIN_IN_MIN k) : Int) ≤ s.feedVin k side) && decide (s.feedVin k side ≤ (s.get (FSM_INWIN_IN_MAX k) : Int))

/-- Vout ≥ Vin − DONE_DV (R269). -/
def State.feedDone (s : State) (k : Nat) : Bool :=
  decide (s.feedVin k (s.bit (FSM_STATUS_SIDE k)) - 40 * (s.get (FSM_RAMPCK_DONE_DV k) : Int) ≤ s.feedV k)

/-- V > FS_V (R277). -/
def State.feedLive (s : State) (k : Nat) : Bool := decide (40 * (s.get (FSM_FSHORT_FS_V k) : Int) < s.feedV k)

/-- The short condition of R273. -/
def State.feedShort (s : State) (k : Nat) : Bool :=
  decide (s.feedV k < 40 * (s.get (FSM_RAMPCK_RS_V k) : Int)) && decide (100 * (s.get (FSM_SHORT_RS_I k) : Int) < s.feedI k)

/-- The side R272 picks. -/
def State.feedPick (s : State) (k : Nat) : Option Bool :=
  let p := s.bit (FSM_CFG_PREF k)
  if s.vinOk k p then some p else if s.vinOk k (!p) then some (!p) else none

/-- Debounced presence in this evaluation: it turns where its debounce ends (R5, R276). -/
def State.feedPresNow (s : State) (k : Nat) : Bool := s.bit (FSM_STATUS_PRES k) != ((s.feed k).dbT == some 0)

/-- The checks of R272. -/
def State.feedChecks (s : State) (k : Nat) : Bool :=
  let st := s.feedSt k
  !(s.feedMb k).stale && s.feedPresNow k && !stAuton st && stHealth st != 3
    && (s.feed k).picked == some (s.feedSideSeen k) && !stTrip st && !s.feedLive k

/-- SOA energy used, in mJ (R286): 7.5 pJ a unit. -/
def soaMj (soa : Nat) : Nat := min (soa * 75 / 10000000000) 0xFFFFF

/-- The SOA budget is used up (R273). -/
def State.feedSoaOut (s : State) (k : Nat) : Bool := decide (s.get (FSM_RAMPCK_SOA k) * 1000000000000 ≤ (s.feed k).soa * 75)

/-- FSM_STATUS.SIDE (R278, R286): another side is not lost by the readings of the one before. -/
def State.feedSideTo (s : State) (k : Nat) (side : Bool) : State :=
  if s.bit (FSM_STATUS_SIDE k) == side then s else (s.putBit (FSM_STATUS_SIDE k) side).modFeed k (fun f => { f with sideCnt := none })

/-! ## Timers (R266) -/

/-- One evaluation off a running timer. -/
def down (t : Option Nat) : Option Nat := t.map (fun n => n - 1)
def up (t : Option Nat) : Option Nat := t.map (fun n => n + 1)

/-- The timers that run frozen or not (R281): retry, presence, windows, stability. -/
def State.feedTimersA (s : State) (k : Nat) : State :=
  let fresh := !(s.feedMb k).stale
  let raw := stPresent (s.feedSt k)
  let pres := s.bit (FSM_STATUS_PRES k)
  let slot := (s.feedMb k).data.sq.toNat % 16
  let sel := s.bit (FSM_STATUS_SIDE k)
  let pref := s.bit (FSM_CFG_PREF k)
  let st := s.fstate k
  s.modFeed k (fun f => { f with
    retryT := down f.retryT
    absent := if pres then none else up f.absent
    dbT := if !fresh then f.dbT
      else if raw == pres then none
      else match f.dbT with | none => some (evals (1000000 * s.get (FSM_PRES_DB_MS k))) | some n => some (n - 1)
    sideCnt := if fresh && slot == (if sel then 1 else 0) then
        (if s.feedVin k sel < (s.get (FSM_INWIN_IN_MIN k) : Int) then (match f.sideCnt with | none => some 0 | some n => some (n + 1)) else none)
      else up f.sideCnt
    retCnt := if fresh && slot == (if pref then 1 else 0) then
        (if s.vinOk k pref then (match f.retCnt with | none => some 0 | some n => some (n + 1)) else none)
      else up f.retCnt
    stable := if st == fsON || st == fsLIMIT then f.stable + 1 else 0 })

/-- The timers that stop while frozen: ramp, LIMIT, dead time, short, FET short, and the command limits (R281). -/
def State.feedTimersB (s : State) (k : Nat) : State :=
  let fresh := !(s.feedMb k).stale
  let st := s.fstate k
  let ramping := st == fsRAMP || s.making k
  let d := s.feedI k * (s.feedVin k (s.bit (FSM_STATUS_SIDE k)) - s.feedV k)
  let s := s.modFeed k (fun f => { f with
    preT := down f.preT, rampT := down f.rampT, limT := down f.limT, deadT := down f.deadT
    clrLim := down f.clrLim, sideLim := down f.sideLim
    shortT := if !ramping then none
      else if !fresh then f.shortT
      else if s.feedShort k then (match f.shortT with | none => some (evals (1000 * s.get (FSM_SHORT_RS_T k))) | some n => some (n - 1))
      else none
    soa := if ramping then f.soa + d.toNat else f.soa
    fsCnt := if !fsShortRuns st then 0 else if !fresh then f.fsCnt else if s.feedLive k then f.fsCnt + 1 else 0
    limExit := if !fresh then f.limExit else if stHealth (s.feedSt k) == 2 then 0 else f.limExit + 1 })
  s.put (FSM_SOA_USED_USED k) (soaMj (s.feed k).soa)

/-! ## The transition of an evaluation (R271): each rank answers the new state, or none -/

/-- Rank 2: HARDLIM. The comparator trip is taken when it is sent (R269). -/
def State.feedHardlim (s : State) (k : Nat) : Option State :=
  let st := s.fstate k
  if (st == fsRAMP || st == fsON || st == fsLIMIT || st == fsTRANSFER)
      && !(s.feedMb k).stale && stTrip (s.feedSt k) && !(s.feed k).kSent then
    some (s.feedTripped k 4)
  else none

/-- Rank 3 in PRECHECK: a command effect missing, PRE_MS. -/
def State.feedPrecheckOut (s : State) (k : Nat) : Option State :=
  let f := s.feed k
  if f.clrLim == some 0 || f.sideLim == some 0 then some (s.feedTripped k 9)
  else if f.preT == some 0 && !s.feedChecks k then some (s.feedOff k 11)
  else none

/-- Rank 3 in RAMP and MAKE: short, SOA, RAMP_TMO. -/
def State.feedRampOut (s : State) (k : Nat) : Option State :=
  let f := s.feed k
  if f.shortT == some 0 && s.feedShort k then some (s.feedKill k 5)
  else if s.feedSoaOut k then some (s.feedKill k 6)
  else if f.rampT == some 0 && !s.feedDone k then some (s.feedKill k 7)
  else none

/-- Rank 3: requested-trip causes and command-effect limits. -/
def State.feedRank3 (s : State) (k : Nat) : Option State :=
  let st := s.fstate k
  let f := s.feed k
  if st == fsPRECHECK then s.feedPrecheckOut k
  else if st == fsRAMP || s.making k then s.feedRampOut k
  else if st == fsTRANSFER then
    if f.sideLim == some 0 && f.sideReq != some (s.feedSideSeen k) then some (s.feedTripped k 9) else none
  else if st == fsLIMIT then
    if f.limT == some 0 && decide (f.limExit < 4) then some (s.feedKill k 8) else none
  else none

/-- Rank 4: the FET-short condition (R277). -/
def State.feedRank4 (s : State) (k : Nat) : Option State :=
  if fsShortRuns (s.fstate k) && decide (evals (1000000 * s.get (FSM_FSHORT_FS_T k)) ≤ (s.feed k).fsCnt) then some (s.feedFetFault k) else none

/-- A start under AUTO, which the safe state holds back (R269, R373). -/
def State.feedAuto (s : State) (k : Nat) : Option State :=
  if s.bit (FSM_CFG_AUTO k) && !s.safe then some (s.feedPrecheck k) else none

/-- Debounced presence falls (R276). -/
def State.feedFall (s : State) (k : Nat) : State × Bool :=
  let s := (s.putBit (FSM_STATUS_PRES k) false).modFeed k (fun f => { f with absent := some 0, dbT := none })
  let st := s.fstate k
  if st == fsPRECHECK || st == fsRAMP || st == fsON || st == fsLIMIT || st == fsTRANSFER then (s.feedOff k 12, true) else (s, false)

/-- The absence that ends was long enough to end the fault episode (R276). -/
def State.feedAbsentLong (s : State) (k : Nat) : Bool :=
  match (s.feed k).absent with | none => true | some a => decide (evals (100000000 * s.get (FSM_PRES_REINS k)) ≤ a)

/-- Debounced presence rises (R276). -/
def State.feedRise (s : State) (k : Nat) : State × Bool :=
  let long := s.feedAbsentLong k
  let s := (s.putBit (FSM_STATUS_PRES k) true).modFeed k (fun f => { f with absent := none, dbT := none })
  let st := s.fstate k
  if st == fsOFF then
    let s := if long then s.feedEpisodeEnd k else s
    match s.feedAuto k with | some t => (t, true) | none => (s, false)
  else if st == fsRETRY || st == fsLOCKOUT then
    if long then
      let s := ((s.feedEpisodeEnd k).putBit (FSM_STATUS_EXPIRED k) false).feedOff k 0
      (s.modFeed k (fun f => { f with autoPend := s.bit (FSM_CFG_AUTO k) }), true)
    else if st == fsRETRY && s.bit (FSM_STATUS_EXPIRED k) && !s.safe then (s.feedRetry k, true)
    else (s, false)
  else (s, false)

/-- The debounce of presence has ended in this evaluation: the new state and whether it made a transition. -/
def State.feedPresence (s : State) (k : Nat) : State × Bool :=
  if (s.feed k).dbT == some 0 then
    if s.bit (FSM_STATUS_PRES k) then s.feedFall k else s.feedRise k
  else (s, false)

/-- Rank 5, after presence: side loss (R278), return (R279). -/
def State.feedSides (s : State) (k : Nat) : Option State :=
  let st := s.fstate k
  let f := s.feed k
  let sel := s.bit (FSM_STATUS_SIDE k)
  let pref := s.bit (FSM_CFG_PREF k)
  let lost := match f.sideCnt with | none => false | some n => decide (evals (1000 * s.get (FSM_SIDE_SIDE_T k)) ≤ n)
  let back := match f.retCnt with | none => false | some n => decide (evals (1000000000 * s.get (FSM_SIDE_RET_S k)) ≤ n)
  if s.bit FSM_GSTAT_ACTIVE then none
  else if (st == fsON || st == fsLIMIT) && lost && s.vinOk k (!sel) then some (s.feedBreak k)
  else if st == fsON && s.bit (FSM_CFG_RET_EN k) && sel != pref && back then some (s.feedBreak k)
  else none

/-- The bits of FSM_CTRL show the requests that are pending (R286). -/
def State.feedReqBits (s : State) (k : Nat) : State :=
  let r := (s.feed k).reqs
  ((s.putBit (FSM_CTRL_CLEAR k) (r.contains .clear)).putBit (FSM_CTRL_OFF k) (r.contains .off)).putBit (FSM_CTRL_ON k) (r.contains .on)

/-- One firmware request in the present state (R269): none where it has no entry or its condition fails. -/
def State.feedReq (s : State) (k : Nat) (q : FeedReq) : Option State :=
  let st := s.fstate k
  match q with
  | .on => if st == fsOFF && !s.safe && !s.bit (FSM_STATUS_FROZEN k) then some (s.feedPrecheck k) else none
  | .off =>
    if st == fsPRECHECK || st == fsRAMP || st == fsON || st == fsLIMIT || st == fsTRANSFER || st == fsRETRY || st == fsTRIPPED then some (s.feedOff k 14)
    else none
  | .clear =>
    if st != fsFETFAULT || !s.feedLive k then some ((s.feedEpisodeEnd k).feedOff k 0) else none

/-- Rank 6: requests in the order written; those without effect are discarded, the first with one is taken, the rest
stay (R269, R271). -/
def State.feedReqs (s : State) (k : Nat) (qs : List FeedReq) : State × Bool :=
  match qs with
  | [] => ((s.modFeed k (fun f => { f with reqs := [] })).feedReqBits k, false)
  | q :: t =>
    match s.feedReq k q with
    | none => s.feedReqs k t
    | some s => ((s.modFeed k (fun f => { f with reqs := t })).feedReqBits k, true)

/-- Rank 7: progress. -/
def State.feedRank7 (s : State) (k : Nat) : State :=
  let st := s.fstate k
  let f := s.feed k
  let fresh := !(s.feedMb k).stale
  if st == fsOFF then
    if f.autoPend then (match s.feedAuto k with | some t => t | none => s) else s
  else if st == fsPRECHECK then if s.feedChecks k && !s.safe then s.feedRamp k else s
  else if st == fsRAMP || s.making k then if s.feedDone k then s.feedTo k fsON 0 else s
  else if st == fsON then if fresh && stHealth (s.feedSt k) == 2 then s.feedLimit k else s
  else if st == fsLIMIT then if 4 ≤ f.limExit then s.feedTo k fsON 0 else s
  else if st == fsTRANSFER then
    if f.deadT == some 0 && f.sideReq == some (s.feedSideSeen k) then s.feedMake k else s
  else if st == fsTRIPPED then s.feedAfterTrip k
  else if st == fsRETRY then
    if f.retryT == some 0 then
      if !s.bit (FSM_STATUS_PRES k) then s.putBit (FSM_STATUS_EXPIRED k) true
      else if s.safe then s else s.feedRetry k
    else s
  else s

/-- The picking of the side and the commands of PRECHECK (R272). -/
def State.feedPreparing (s : State) (k : Nat) : State :=
  if s.fstate k == fsPRECHECK then
    let p := s.feedPick k
    let s := s.modFeed k (fun f => { f with picked := p })
    let f := s.feed k
    let trip := stTrip (s.feedSt k)
    let s := if !trip then s.modFeed k (fun f => { f with clrLim := none })
      else if f.clrLim.isNone then (s.feedCmd k 0x11 0).modFeed k (fun f => { f with clrLim := some 64, kSent := false })
      else s
    match p with
    | none => if f.sideReq == some (s.feedSideSeen k) then s.modFeed k (fun f => { f with sideLim := none }) else s
    | some side =>
      if s.feedSideSeen k == side then s.modFeed k (fun f => { f with sideLim := none, sideReq := some side })
      else if f.sideReq == some side && f.sideLim.isSome then s
      else (s.feedCmd k 0x10 (if side then 1 else 0)).modFeed k (fun f => { f with sideLim := some 64, sideReq := some side })
  else s

/-- The stable time that ends an episode (R275). -/
def State.feedStable (s : State) (k : Nat) : State :=
  if evals (1000000000 * s.get (FSM_PRES_CLR_S k)) ≤ (s.feed k).stable then s.feedEpisodeEnd k else s

/-! ## Freezing and adoption (R281, R282) -/

/-- The feed freezes (R281); FROZEN carries the stale count. -/
def State.feedFreeze (s : State) (k : Nat) : State :=
  if s.feedOn k && !s.bit (FSM_STATUS_FROZEN k) then
    let s := (s.putBit (FSM_STATUS_FROZEN k) true).putBit (FSM_CTRL_ADOPT k) false
    let s := s.modFeed k (fun f => { f with adopt := none })
    s.raiseN (160 + k) 0x05 (s.get (LNK_STATUS_STALE_CNT k))
  else s

/-- Adoption begins: one auxiliary rotation (R282). -/
def State.feedAdoptStart (s : State) (k : Nat) : State :=
  ((s.putBit (FSM_STATUS_FROZEN k) false).putBit (FSM_CTRL_ADOPT k) true).modFeed k (fun f => { f with adopt := some 16 })

/-- The state taken from the companion (R282). -/
def State.feedAdopt (s : State) (k : Nat) : State :=
  let s := (s.putBit (FSM_CTRL_ADOPT k) false).modFeed k (fun f => { f with adopt := none })
  let s := s.feedSideTo k (s.feedSideSeen k)
  let echo := ((s.feedMb k).auxOf 4).toInt
  let st := s.feedSt k
  if stTrip st then s.feedTrippedBy k 10 true
  else if echo ≤ 0 then s.feedOff k 0
  else if echo == 32767 && s.feedDone k then
    if stHealth st == 2 then s.feedLimit k else s.feedTo k fsON 0
  else s.feedRamp k

/-- The adoption would enter RAMP, which the safe state holds back: it waits (R282, R373). -/
def State.adoptWaits (s : State) (k : Nat) : Bool :=
  let echo := ((s.feedMb k).auxOf 4).toInt
  s.safe && !stTrip (s.feedSt k) && decide (0 < echo) && !(echo == 32767 && s.feedDone k)

/-- The ends of the timers that run on in a feed that is frozen or adopting: presence and its absence, with the end of the
episode that a reinsertion brings, and the retry that finds no presence. They make no transition (R276, R281). -/
def State.feedFrozenEnds (s : State) (k : Nat) : State :=
  let f := s.feed k
  let pres := s.bit (FSM_STATUS_PRES k)
  let st := s.fstate k
  let s := if f.dbT == some 0 then
      let s := if !pres && s.feedAbsentLong k && (st == fsOFF || st == fsRETRY || st == fsLOCKOUT) then s.feedEpisodeEnd k else s
      (s.putBit (FSM_STATUS_PRES k) (!pres)).modFeed k (fun f => { f with dbT := none, absent := if pres then some 0 else none })
    else s
  if s.fstate k == fsRETRY && f.retryT == some 0 && !s.bit (FSM_STATUS_PRES k) then s.putBit (FSM_STATUS_EXPIRED k) true else s

/-- The timers of a feed that is frozen or adopting, and what their ends bring (R275, R276, R281). -/
def State.feedTimersOn (s : State) (k : Nat) : State := ((s.feedTimersA k).feedFrozenEnds k).feedStable k

/-- The evaluation of a frozen feed (R281). The frame that ends the freeze is the first of the rotation. -/
def State.feedFrozen (s : State) (k : Nat) : State :=
  let s := s.feedTimersOn k
  let r := s.feedReqs k ((s.feed k).reqs.filter (fun q => q != .on))
  if r.2 then r.1
  else
    let s := r.1
    if s.trained k && !(s.feedMb k).stale && s.get (LNK_STATUS_STALE_CNT k) == 0 && !stAuton (s.feedSt k) then (s.feedAdoptStart k).modFeed k (fun f => { f with adopt := some 15 })
    else s

/-- The ranks 2 to 7 of R271. -/
def State.feedDecide (s : State) (k : Nat) : State :=
  match s.feedHardlim k with
  | some t => t
  | none =>
  match s.feedRank3 k with
  | some t => t
  | none =>
  match s.feedRank4 k with
  | some t => t
  | none =>
  let p := s.feedPresence k
  if p.2 then p.1
  else
  let s := p.1
  match s.feedSides k with
  | some t => t
  | none =>
  let r := s.feedReqs k (s.feed k).reqs
  if r.2 then r.1 else r.1.feedRank7 k

/-- One evaluation of feed `k` at FAB cycle 75·m + 8 (R266). -/
def State.feedEval (s : State) (k : Nat) : State :=
  let s := if s.role k == rlFEED then s.feedSideTo k (s.feedSideSeen k) else s
  if !s.feedOn k then s
  else
    match (s.feed k).adopt with
    | some n =>
      let s := (s.feedTimersOn k).modFeed k (fun f => { f with adopt := some (n - 1) })
      if n ≤ 1 then s.arm 0 (.adoptComplete (Fin.ofNat 96 k)) else s
    | none =>
      if s.bit (FSM_STATUS_FROZEN k) then s.feedFrozen k
      else
        let s := (s.feedTimersA k).feedTimersB k
        let s := s.feedPreparing k
        let s := s.feedStable k
        s.feedDecide k

/-! ## Images of a feed (R355) -/

def optInt (o : Option Nat) : Int := match o with | none => -1 | some n => n
def intOpt (i : Int) : Option Nat := if i < 0 then none else some i.toNat
def boolInt (b : Bool) : Int := if b then 1 else 0
def optBoolInt (o : Option Bool) : Int := match o with | none => -1 | some b => boolInt b
def intOptBool (i : Int) : Option Bool := if i < 0 then none else some (i == 1)

/-- State, timers, counters and pending requests of feed `k`, and `k` itself. -/
def State.feedValues (s : State) (k : Nat) : List Int :=
  let f := s.feed k
  [((s.word (FSM_STATUS k)).toNat : Int), (s.get (FSM_CNT_TRIP_COUNT k) : Int), (s.get (FSM_CNT_FAIL_COUNT k) : Int),
    (s.get (FSM_SOA_USED_USED k) : Int), optBoolInt f.picked, optInt f.preT, optInt f.rampT, optInt f.shortT, optInt f.limT,
    optInt f.retryT, optInt f.deadT, optInt f.clrLim, optInt f.sideLim, optBoolInt f.sideReq, (f.fsCnt : Int), optInt f.dbT,
    optInt f.absent, optInt f.sideCnt, optInt f.retCnt, (f.stable : Int), (f.limExit : Int), (f.soa : Int), boolInt f.episode,
    boolInt f.kSent + 2 * boolInt f.kAfter, boolInt f.autoPend, optInt f.adopt, boolInt (f.reqs.contains .clear), boolInt (f.reqs.contains .off),
    boolInt (f.reqs.contains .on), (k : Int)]

/-- Feed `k` takes captured values. -/
def State.feedLoad (s : State) (k : Nat) (v : Nat → Int) : State :=
  let n := fun i => (v i).toNat
  let s := s.setWord (FSM_STATUS k) (BitVec.ofNat 32 (n 0))
  let s := ((s.put (FSM_CNT_TRIP_COUNT k) (n 1)).put (FSM_CNT_FAIL_COUNT k) (n 2)).put (FSM_SOA_USED_USED k) (n 3)
  let s := s.modFeed k (fun f => { f with
    picked := intOptBool (v 4), preT := intOpt (v 5), rampT := intOpt (v 6), shortT := intOpt (v 7), limT := intOpt (v 8)
    retryT := intOpt (v 9), deadT := intOpt (v 10), clrLim := intOpt (v 11), sideLim := intOpt (v 12)
    sideReq := intOptBool (v 13), fsCnt := n 14, dbT := intOpt (v 15), absent := intOpt (v 16), sideCnt := intOpt (v 17)
    retCnt := intOpt (v 18), stable := n 19, limExit := n 20, soa := n 21, episode := v 22 == 1, kSent := v 23 % 2 == 1, kAfter := decide (2 ≤ v 23)
    autoPend := v 24 == 1, adopt := intOpt (v 25)
    reqs := (if v 26 = 1 then [FeedReq.clear] else []) ++ (if v 27 = 1 then [FeedReq.off] else []) ++ (if v 28 = 1 then [FeedReq.on] else []) })
  (s.feedReqBits k).protRefresh k

/-- The state machine of feed `k` as it would be without the transfer that loaded it goes on beside it, until the transfer
succeeds. -/
def State.feedKeep (s : State) (k : Nat) : State :=
  match s.twn.xfer with
  | none => s
  | some x =>
    let go := fun (v : List Int) =>
      let t := (s.feedLoad k (fun i => v.getD i 0)).modFeed k (fun f => { f with
        reqs := f.reqs ++ (s.feed k).reqs.filter (fun q => !f.reqs.contains q) })
      (t.feedEval k).feedValues k
    { s with twn := { s.twn with xfer := some { x with kept := x.kept.map (fun e => if e.1 = k then (k, go e.2) else e) } } }

/-- The feeds that a transfer loaded take their own state again (R355). -/
def State.feedsBack (s : State) (l : List (Nat × List Int)) : State :=
  l.foldl (fun t e => t.feedLoad e.1 (fun i => e.2.getD i 0)) s

/-- FSM_EVALUATE (R266). -/
def execFsmEvaluate (s : State) : Out := ok (s.forN s.nLinks (fun k t => (t.feedKeep k).feedEval k))

/-- The ACTA a feed forces at the copy (R268). -/
def State.feedForce (s : State) (k : Nat) : Option (BitVec 16) :=
  if !s.feedOn k || (s.feed k).adopt.isSome then none
  else
    let st := s.fstate k
    if st == fsRAMP || st == fsON || st == fsLIMIT then none
    else if st == fsTRANSFER then (if s.bit (FSM_STATUS_PHASE k) then none else some 0xFFFF)
    else some 0

/-- A comparator trip sent on link `k` (R269): taken at once from RAMP, ON, LIMIT and TRANSFER. -/
def State.feedComparator (s : State) (k cause : Nat) : State :=
  if s.feedOn k then
    let s := s.modFeed k (fun f => { f with kSent := true, kAfter := true })
    let st := s.fstate k
    if (st == fsRAMP || st == fsON || st == fsLIMIT || st == fsTRANSFER) && !s.bit (FSM_STATUS_FROZEN k) && (s.feed k).adopt.isNone then
      s.feedTripped k cause
    else s
  else s

/-! ## Timer ends and conditions as commands: the evaluation in which that timer of feed `k` ends (log entry 9) -/

/-- Brings a timer to its end and evaluates, when `live` says that it can run. -/
def State.feedAt (s : State) (k : Nat) (live : Bool) (g : Feed → Feed) : State :=
  if s.feedOn k && (s.feed k).adopt.isNone && live then (s.modFeed k g).feedEval k else s

/-- ADOPT_COMPLETE (R282). -/
def execAdoptComplete (k : Link) (s : State) : Out :=
  let s := s.disarm (.adoptComplete k)
  if s.feedOn k && (s.feed k).adopt.isSome then
    if s.adoptWaits k then ok (s.modFeed k (fun f => { f with adopt := some 1 })) else ok (s.feedAdopt k)
  else ok s

/-- PRE_MS_EXPIRY (R269). -/
def execPreMsExpiry (k : Link) (s : State) : Out :=
  ok (s.feedAt k (s.fstate k == fsPRECHECK) (fun f => { f with preT := some 1 }))

/-- FSM_CMD_LIMIT (R269): the 64th link frame after a command's request. -/
def execFsmCmdLimit (k : Link) (s : State) : Out :=
  ok (s.feedAt k (s.fstate k == fsPRECHECK || s.fstate k == fsTRANSFER)
    (fun f => { f with clrLim := f.clrLim.map (fun _ => 1), sideLim := f.sideLim.map (fun _ => 1) }))

/-- RAMP_TMO (R269). -/
def execRampTmo (k : Link) (s : State) : Out :=
  ok (s.feedAt k (s.fstate k == fsRAMP || s.making k) (fun f => { f with rampT := some 1 }))

/-- SHORT_RAMP (R273). -/
def execShortRamp (k : Link) (s : State) : Out :=
  ok (s.feedAt k (s.fstate k == fsRAMP || s.making k) (fun f => { f with shortT := some 1 }))

/-- LIMIT_TMO (R269). -/
def execLimitTmo (k : Link) (s : State) : Out :=
  ok (s.feedAt k (s.fstate k == fsLIMIT) (fun f => { f with limT := some 1 }))

/-- RETRY_TIMER (R274, R276). -/
def execRetryTimer (k : Link) (s : State) : Out :=
  ok (s.feedAt k (s.fstate k == fsRETRY) (fun f => { f with retryT := some 1 }))

/-- DEAD_TIME (R278). -/
def execDeadTime (k : Link) (s : State) : Out :=
  ok (s.feedAt k (s.fstate k == fsTRANSFER && !s.making k) (fun f => { f with deadT := some 1 }))

/-- FETSHORT (R277). -/
def execFetshort (k : Link) (s : State) : Out :=
  ok (s.feedAt k (fsShortRuns (s.fstate k)) (fun f => { f with fsCnt := evals (1000000 * s.get (FSM_FSHORT_FS_T k)) - 1 }))

/-- PRESENCE_DEBOUNCE (R276). -/
def execPresenceDebounce (k : Link) (s : State) : Out :=
  ok (s.feedAt k (stPresent (s.feedSt k) != s.bit (FSM_STATUS_PRES k)) (fun f => { f with dbT := some 1 }))

/-- EPISODE_END (R275). -/
def execEpisodeEnd (k : Link) (s : State) : Out :=
  ok (s.feedAt k (s.fstate k == fsON || s.fstate k == fsLIMIT)
    (fun f => { f with stable := evals (1000000000 * s.get (FSM_PRES_CLR_S k)) - 1 }))

/-- SIDE_LOSS (R278). -/
def execSideLoss (k : Link) (s : State) : Out :=
  ok (s.feedAt k (s.fstate k == fsON || s.fstate k == fsLIMIT)
    (fun f => { f with sideCnt := some (evals (1000 * s.get (FSM_SIDE_SIDE_T k)) - 1) }))

/-- RETURN_TO_PREF (R279). -/
def execReturnToPref (k : Link) (s : State) : Out :=
  ok (s.feedAt k (s.fstate k == fsON) (fun f => { f with retCnt := some (evals (1000000000 * s.get (FSM_SIDE_RET_S k)) - 1) }))

/-! ## Blanking (R280) -/

/-- FAB cycles to the evaluation in which a timer of `d` cycles that starts now expires (R266). -/
def State.toEvaluation (s : State) (d : Nat) : Nat := d + (83 - (s.clk.cyc + d) % 75) % 75

/-- A blanking window opens or restarts. -/
def State.blankOpen (s : State) : State :=
  let t := s.get FSM_GCTRL_BLANK_T
  if t = 0 then s
  else
    let s := s.arm (s.toEvaluation (25000 * t)) .blankClose
    if s.bit FSM_GSTAT_ACTIVE then s
    else
      let s := (s.putBit FSM_GSTAT_ACTIVE true).inc FSM_GSTAT_COUNT
      let s := s.raiseN (160 + s.lowestFeed) 0x07 t
      s.forN s.nLinks (fun k t => t.protRefresh k)

/-- BLANK_CLOSE (R280). -/
def execBlankClose (s : State) : Out :=
  let s := s.disarm .blankClose
  if s.bit FSM_GSTAT_ACTIVE then ok ((s.putBit FSM_GSTAT_ACTIVE false).forN s.nLinks (fun k t => t.protRefresh k)) else ok s

/-! ## Register operations (R265, R285..R287) -/

/-- FSM_GCTRL. -/
def State.wFsmGctrl (v : Word) (s : State) : State :=
  s.regWrite FSM_GCTRL v true (fun s => if tb v 8 then s.blankOpen else s)

/-- EN goes to 0, or the role changes (R265): the state machine reads OFF. -/
def State.feedDisable (s : State) (k : Nat) : State :=
  let s := ((s.putBit (FSM_CTRL_EN k) false).put (FSM_STATUS_STATE k) fsOFF).putBit (FSM_STATUS_PHASE k) false
  let s := ((s.putBit (FSM_STATUS_FROZEN k) false).putBit (FSM_STATUS_EXPIRED k) false).putBit (FSM_CTRL_ADOPT k) false
  let f := s.feed k
  ((s.setFeed k { soa := f.soa, episode := f.episode, kSent := f.kSent, kAfter := f.kAfter, eLow := f.eLow }).feedReqBits k).protRefresh k

/-- The role of link `k` was written to another value (R265): cause ROLE, and an event where the state changes. -/
def State.feedRoleGone (s : State) (k : Nat) : State :=
  if s.bit (FSM_CTRL_EN k) then
    let old := s.fstate k
    let s := (s.feedDisable k).put (FSM_STATUS_CAUSE k) 15
    if old == fsOFF then s else s.feedEvent k 15 old fsOFF
  else s

/-- The requests of one write, in the order CLEAR, OFF, ON (log entry 10). -/
def newReqs (v : Word) : List FeedReq :=
  (if tb v 4 then [FeedReq.clear] else []) ++ (if tb v 3 then [FeedReq.off] else []) ++ (if tb v 2 then [FeedReq.on] else [])

/-- The enabled FEED links in rising order. -/
def State.feedLinks (s : State) : List Nat := (List.range s.nLinks).filter s.feedOn

/-- A request written to feed `k` after its cells have left makes link `k` repeat at the end of the pass (R355). -/
def State.serveRequest (s : State) (k : Nat) : State :=
  match s.twn.serve with
  | some x => if x.sel = 16 ∧ (s.feedLinks.take x.fi).contains k then { s with twn := { s.twn with serve := some { x with again := x.again ++ [k] } } } else s
  | none => s

/-- FSM_CTRL of feed `k`. A frozen feed adopts when R281 lets it, whether ADOPT is written or not. -/
def State.wFsmCtrl (k : Nat) (v : Word) (s : State) : State :=
  let good := !(tb v 2 && tb v 3) && (!tb v 0 || s.role k == rlFEED)
  let was := s.bit (FSM_CTRL_EN k)
  s.regWrite (FSM_CTRL k) v good (fun s =>
    let s := if tb v 5 then ((s.put (FSM_MSTAT_SUBST k) 0).put (FSM_CNT_TRIP_COUNT k) 0).put (FSM_CNT_FAIL_COUNT k) 0 else s
    if !tb v 0 then (if was then s.feedDisable k else s)
    else
      let s := s.modFeed k (fun f => { f with reqs := f.reqs ++ (newReqs v).filter (fun q => !f.reqs.contains q) })
      let s := s.feedReqBits k
      let s := if (newReqs v).isEmpty then s else s.serveRequest k
      if tb v 1 && !s.bit (FSM_STATUS_FROZEN k) then s.feedAdoptStart k else s)

/-- FSM_CFG: another PREF has no readings counted for it yet (R279). -/
def State.wFsmCfg (k : Nat) (v : Word) (s : State) : State :=
  let pref := s.bit (FSM_CFG_PREF k)
  s.regWrite (FSM_CFG k) v true (fun s => if s.bit (FSM_CFG_PREF k) == pref then s else s.modFeed k (fun f => { f with retCnt := none }))

/-- FSM_INWIN: IN_MIN above IN_MAX is a reserved encoding (R285). -/
def State.wFsmInwin (k : Nat) (v : Word) (s : State) : State :=
  s.regWrite (FSM_INWIN k) v (decide (bitsOf v 14 0 ≤ bitsOf v 30 16)) id

/-! ## Commands that are one register write -/

/-- The write of FSM_CTRL of feed `k` with one bit set. -/
def State.fsmBit (s : State) (who : Who) (k b : Nat) (v : Word) : State :=
  s.busWrite who (FSM_CTRL k) (withBit v b) (State.wFsmCtrl k (withBit v b))

/-- FSM_EN (R265). -/
def execFsmEn (who : Who) (k : Link) (v : Word) (s : State) : Out := ok (s.fsmBit who k 0 v)
/-- FSM_ADOPT (R282). -/
def execFsmAdopt (who : Who) (k : Link) (v : Word) (s : State) : Out := ok (s.fsmBit who k 1 v)
/-- FSM_ON (R269). -/
def execFsmOn (who : Who) (k : Link) (v : Word) (s : State) : Out := ok (s.fsmBit who k 2 v)
/-- FSM_OFF (R269). -/
def execFsmOff (who : Who) (k : Link) (v : Word) (s : State) : Out := ok (s.fsmBit who k 3 v)
/-- FSM_CLEAR (R269, R275). -/
def execFsmClear (who : Who) (k : Link) (v : Word) (s : State) : Out := ok (s.fsmBit who k 4 v)
/-- FSM_CNT_CLR (R286). -/
def execFsmCntClr (who : Who) (k : Link) (v : Word) (s : State) : Out := ok (s.fsmBit who k 5 v)

/-- BLANK (R280). -/
def execBlank (who : Who) (v : Word) (s : State) : Out :=
  ok (s.busWrite who FSM_GCTRL (withBit v 8) (State.wFsmGctrl (withBit v 8)))

/-! ## Measurement (R283) -/

/-- The 76-bit energy accumulator of feed `k`: the linked counter and the 12 bits below it. -/
def State.feedEnergy (s : State) (k : Nat) : Nat :=
  (s.get (FSM_ENERGY_HI_E_HI k) * 2 ^ 32 + s.get (FSM_ENERGY_LO_E_LO k)) * 4096 + (s.feed k).eLow.toNat

/-- Adds one product P to the accumulator. -/
def State.feedEnergyAdd (s : State) (k : Nat) (p : Int) : State :=
  let e := ofInt 76 ((s.feedEnergy k : Int) + p)
  let s := (s.put (FSM_ENERGY_HI_E_HI k) (e / 2 ^ 44)).put (FSM_ENERGY_LO_E_LO k) (e / 4096)
  s.modFeed k (fun f => { f with eLow := BitVec.ofNat 12 e })

/-- The last product P of feed `k`. -/
def State.feedPower (s : State) (k : Nat) : Int := s.getInt (FSM_PWR_P k)

/-- A FEED link's interval at the consumer cycle: the sample's product, or on a stale interval the last one again. -/
def State.feedMeasure (s : State) (k : Nat) (fresh : Bool) : State :=
  if s.role k != rlFEED then s
  else
    let s := if fresh then
        let s := (s.put (FSM_MEAS_V k) (s.feedMb k).data.v.toNat).put (FSM_MEAS_I k) (s.feedMb k).data.i.toNat
        s.put (FSM_PWR_P k) (ofInt 32 (s.feedV k * s.feedI k))
      else s.inc (FSM_MSTAT_SUBST k)
    s.feedEnergyAdd k (s.feedPower k)

end Sys2Proof.Machine
end

