-- ==== Sys2Proof/Machine/Mint.lean ====
section
/-! DEFINITION. Machine/Mint.lean: the Mint (10): purses, the pending configuration and its apply, the latch of sources and
the four-pass water-fill, credits, budget codes, AC loss, hold-up and shedding; and the meanings of its commands. -/

namespace Sys2Proof.Machine

/-! ## Purses and the active configuration (R288, R293) -/

def State.purse (s : State) (k : Nat) : Purse := SMap.get (fun _ => {}) s.mint.purses k
def State.setPurse (s : State) (k : Nat) (p : Purse) : State :=
  { s with mint := { s.mint with purses := SMap.set (fun _ => {}) s.mint.purses k p } }
def State.modPurse (s : State) (k : Nat) (f : Purse → Purse) : State := s.setPurse k (f (s.purse k))

/-- Balance units of one coin. -/
def coin : Nat := 100000000

/-- Whether a register of the Mint writes a pending copy (R293). -/
def mintCfg (a : Nat) : Bool :=
  decide (MNT_CTRL ≤ a ∧ a < MNT_APPLY) || decide (MNT_HUSW 0 ≤ a ∧ a < MNT_STAT)
    || (decide (MNT_PCFG 0 ≤ a ∧ a < MNT_PUSE 0) && decide (a % 16 < 8)) || decide (a = MNT_CAP)

/-- A field of the active configuration. -/
def State.mget (s : State) (f : Fld) : Nat := bitsOf (SMap.get resetWord s.mint.act f.addr) f.hi f.lo
def State.mbit (s : State) (f : Fld) : Bool := s.mget f == 1

/-- PEND: the pending copy differs from the active one (R310). -/
def State.mintPend (s : State) : Bool := decide (s.regs.filter (fun e => mintCfg e.1) ≠ s.mint.act)

/-- MNT_HU_TIME (R303): milliseconds since assertion; the last episode's once it is over. -/
def State.huTime (s : State) : Nat :=
  if s.bit MNT_STAT_HOLDUP then min 0xFFFFFFFF ((s.clk.now - s.mint.huAt) / ms 1) else s.get MNT_HU_TIME_MS

/-- Code word of a Mint address in the Mint's store (R361): a link's four purse registers, or four configuration words. -/
def mintWordOf (a : Nat) : Nat := (a - MNT_CTRL) / 16

/-- The purse's balance as MNT_PBAL reports it (R288). -/
def State.purseBal (s : State) (k : Nat) : Int := (s.purse k).bal / 100000

/-- Stores a purse: its report and its code word follow. -/
def State.purseStore (s : State) (k : Nat) (p : Purse) : State :=
  let s := s.setPurse k p
  (s.put (MNT_PBAL_BAL k) (ofInt 32 (s.purseBal k))).encode 76 (mintWordOf (MNT_PCFG k))

/-- A purse leaves (R288): its balance is cleared. -/
def State.purseDrop (s : State) (k : Nat) : State := s.purseStore k {}

/-- The Mint reads purse `k`'s word: 0 in place of a bad one (R361). -/
def State.purseCheck (s : State) (k : Nat) : State :=
  if s.eccRead 76 (mintWordOf (MNT_PCFG k)) == .bad then
    let s := { s with mint := { s.mint with
      act := SMap.set resetWord (SMap.set resetWord s.mint.act (MNT_PCFG k) 0) (MNT_PLIM k) 0 } }
    ((s.purseDrop k).put (MNT_PGRANT_GRANT k) 0).put (MNT_PGRANT_OVER k) 0 |>.detect 58
  else s

/-- The purse's class is shed (R306). -/
def State.purseShed (s : State) (k : Nat) : Bool := (s.get MNT_STAT_SHED).testBit (s.mget (MNT_PCFG_CLASS k))

/-- CAPPING_EMERGENCY (R303); its assertion is fault source 60. -/
def State.mintEmerg (s : State) : State :=
  let new := s.mint.short || s.get MNT_STAT_SHED != 0
  let was := s.bit MNT_STAT_EMERG
  let s := s.putBit MNT_STAT_EMERG new
  if new && !was then s.detect 60 else s

/-! ## Debits (R289, R290) -/

/-- DEBT_MAX in balance units. -/
def State.debtMax (s : State) : Int := s.mget MNT_DEBT_DEBT_MAX * coin

/-- The interval of link `k` brought a frame, which failed its CRC: the last valid sample stands for it (R23). -/
def State.substituted (s : State) (k : Nat) (fresh : Bool) : Bool := !fresh && (s.link k).mb.crcf

/-- The debit of one interval (R23, R289; log entry 42). -/
def State.debit (s : State) (k : Nat) (fresh : Bool) : Nat :=
  if fresh || s.substituted k fresh then 3 * (s.feedPower k).toNat else s.mget (MNT_PLIM_CEIL k) * 1562500

/-- The substitutions in the debits of link `k` (R23), which no register shows. -/
def State.mintSubst (s : State) (k : Nat) : Nat := SMap.get (fun _ => 0) s.mint.subst k

/-- The debit of purse `k` at the consumer cycle. -/
def State.purseDebit (s : State) (k : Nat) (fresh : Bool) : State :=
  if !s.mint.run || s.safe || !(s.purse k).on then s
  else if s.role k != rlFEED then s.purseDrop k
  else
    let s := s.purseCheck k
    let p := s.purse k
    if !p.on then s
    else
      let d := s.debit k fresh
      let s := if s.substituted k fresh then
          { s with mint := { s.mint with subst := SMap.set (fun _ => 0) s.mint.subst k (s.mintSubst k + 1) } }
        else s
      let b := p.bal - d
      let low := decide (b < -s.debtMax)
      let b := if low then -s.debtMax else b
      let hit := decide (s.debtMax ≤ -b)
      let s := if low && !p.clip then s.inc (MNT_PGRANT_OVER k) else s
      let s := if hit && !p.brake then s.raiseN 289 0x01 k else s
      s.purseStore k { p with bal := b, used := p.used + d, since := p.since + d, clip := p.clip || low, brake := p.brake || hit }

/-! ## Applying the configuration (R293) -/

/-- The configuration words the Mint reads at the apply: four bad ones read 0 (R361). -/
def State.mintRead (s : State) : State × SMap Word :=
  let cfg := s.regs.filter (fun e => mintCfg e.1)
  let bad := (List.range 97).filter (fun i => s.eccRead 76 (if i = 96 then mintWordOf MNT_CAP else 64 + i) == .bad) |>.map
    (fun i => if i = 96 then mintWordOf MNT_CAP else 64 + i)
  let bad := bad ++ (List.range 8).filter (fun i => s.eccRead 76 i == .bad)
  if bad.isEmpty then (s, cfg)
  else
    let addrs := bad.flatMap (fun i => (List.range 4).map (fun j => MNT_CTRL + 16 * i + 4 * j))
    let cfg := (addrs.filter mintCfg).foldl (fun m a => SMap.set resetWord m a 0) cfg
    (bad.foldl (fun t i => t.setEcc 76 i 0) (s.detect 58), cfg)

/-- The pending copy becomes active as a whole. -/
def State.mintApply (s : State) : State :=
  let (s, cfg) := s.mintRead
  let s := { s with mint := { s.mint with act := cfg, go := none } }
  ((s.putBit MNT_APPLY_GO false).hwSet MNT_APPLY_DONE).raiseN 288 0x02 s.mfn

/-- A GO is due at this latch. -/
def State.mintDue (s : State) : Bool :=
  match s.mint.go with
  | none => false
  | some none => true
  | some (some m) => m == s.mfn

def State.mintApplyDue (s : State) : State := if s.mintDue then s.mintApply else s

/-! ## Available power (R291, R292) -/

/-- The link counts as a healthy rectifier (R292). -/
def State.rectGood (s : State) (k : Nat) : Bool :=
  let mb := (s.link k).mb
  (s.mget (MNT_RMASK_MASK (k / 32))).testBit (k % 32) && s.role k == rlRECT && s.trained k && !mb.stale && !mb.novalid
    && !stTrip mb.data.st && !stAuton mb.data.st && stPresent mb.data.st && stHealth mb.data.st != 3 && !(mb.auxOf 5).getLsbD 0

/-- The latch of the sources. -/
def State.mintSources (s : State) : State :=
  let r := ((List.range s.nLinks).filter s.rectGood).length * s.mget MNT_RECT_RECT_W
  let b := s.get BAT_ALLOW_W
  let bsh := if s.bit MNT_STAT_HOLDUP then s.mget MNT_BSHARE_BSH_HU else s.mget MNT_BSHARE_BSH_AC
  let a := min (s.mget MNT_CAP_CAP) (r + b * bsh / 256 - s.mget MNT_RESERVE_RES)
  (((s.put MNT_SRC_R_W r).put MNT_SRC_B_W b).put MNT_AVAIL_A a).put MNT_COINS_COINS (a * 768 / 10000)

/-! ## Allocation (R294) -/

/-- What a purse brings to a pass: link, class, weight, targets F, N, K, CEIL, grant so far. -/
structure Bid where
  k : Nat
  cls : Nat
  w : Nat
  f : Nat
  n : Nat
  ask : Nat
  ceil : Nat
  g : Nat
deriving DecidableEq, Repr

/-- The bid of purse `k`. -/
def State.bid (s : State) (k : Nat) : Bid :=
  let cls := s.mget (MNT_PCFG_CLASS k)
  let w := s.mget (MNT_PCFG_WEIGHT k)
  if s.purseShed k then { k := k, cls := cls, w := w, f := 0, n := 0, ask := 0, ceil := 0, g := 0 }
  else
    let ceil := s.mget (MNT_PLIM_CEIL k)
    let u := (s.purse k).u
    let grown := (u * (256 + s.mget MNT_POLICY_GROW) + 255) / 256 + s.mget MNT_POLICY_ASK_MIN
    { k := k, cls := cls, w := w, f := s.mget (MNT_PLIM_FLOOR k), n := min ceil u, ask := min ceil grown, ceil := ceil, g := 0 }

/-- What one bid takes at level `l` toward target `t`. -/
def Bid.take (b : Bid) (t l : Nat) : Nat := min (t - b.g) (b.w * l / 256)

/-- What the bids of the group that `p` selects take together. -/
def takeSum (p : Bid → Bool) (t : Bid → Nat) (l : Nat) (bs : List Bid) : Nat :=
  bs.foldl (fun a b => if p b then a + b.take (t b) l else a) 0

/-- The largest level below `l + 2^n` whose sum fits, at least `l`. -/
def level (p : Bid → Bool) (t : Bid → Nat) (bs : List Bid) (rem n l : Nat) : Nat :=
  match n with
  | 0 => l
  | n + 1 => level p t bs rem n (if takeSum p t (l + 2 ^ n) bs ≤ rem then l + 2 ^ n else l)

/-- A water-fill over a group. -/
def waterFill (p : Bid → Bool) (t : Bid → Nat) (x : List Bid × Nat) : List Bid × Nat :=
  let l := level p t x.1 x.2 24 0
  (x.1.map (fun b => if p b then { b with g := b.g + b.take (t b) l } else b), x.2 - takeSum p t l x.1)

/-- Pass 1 for class `c`; the Boolean says that a floor could not be granted. -/
def floorPass (x : (List Bid × Nat) × Bool) (c : Nat) : (List Bid × Nat) × Bool :=
  if x.2 then x
  else
    let bs := x.1.1
    let rem := x.1.2
    let sum := bs.foldl (fun a b => if b.cls = c then a + b.f else a) 0
    let gain := fun (b : Bid) => if sum ≤ rem then b.f else b.f * rem / sum
    let got := bs.foldl (fun a b => if b.cls = c then a + gain b else a) 0
    ((bs.map (fun b => if b.cls = c then { b with g := b.g + gain b } else b), rem - got), decide (rem < sum))

/-- The four passes. -/
def allocate (bs : List Bid) (coins : Nat) : (List Bid × Nat) × Bool :=
  let x := [0, 1, 2, 3].foldl floorPass ((bs, coins), false)
  let y := [0, 1, 2, 3].foldl (fun y c => waterFill (fun b => b.cls == c) Bid.n y) x.1
  let y := [0, 1, 2, 3].foldl (fun y c => waterFill (fun b => b.cls == c) Bid.ask y) y
  (waterFill (fun _ => true) Bid.ceil y, x.2)

/-! ## The latch (R24, R290, R298) -/

/-- A purse at the latch: it starts, goes on, or leaves. -/
def State.purseLatch (s : State) (fresh : Bool) (k : Nat) : State :=
  let s := s.purseCheck k
  let p := s.purse k
  if s.role k == rlFEED && s.mbit (MNT_PCFG_EN k) then
    let c := s.mget (MNT_PLIM_CEIL k)
    if fresh || !p.on then s.purseStore k { on := true, bal := c * coin, u := c }
    else s.setPurse k { p with u := min 65535 ((p.used + coin - 1) / coin), used := 0, clip := false }
  else if p.on then s.purseDrop k else s

/-- MINT_LATCH (R24, R293, R298): the sources are latched whether or not the Mint then allocates. -/
def execMintLatch (s : State) : Out :=
  let s := s.mintApplyDue.mintSources
  if !s.mbit MNT_CTRL_EN then
    let s := s.forN s.nLinks (fun k t => if (t.purse k).on then t.purseDrop k else t)
    ok { s with mint := { s.mint with run := false, alloc := none } }
  else if s.safe then ok { s with mint := { s.mint with alloc := none } }
  else
    let fresh := !s.mint.run || s.mint.fresh
    let s := s.forN s.nLinks (fun k t => t.purseLatch fresh k)
    let coins := s.get MNT_COINS_COINS
    let bids := ((List.range s.nLinks).filter (fun k => (s.purse k).on)).map s.bid
    let x := allocate bids coins
    ok { s with mint := { s.mint with
      run := true, fresh := false
      alloc := some { grants := x.1.1.map (fun b => (b.k, b.g)), rem := x.1.2, short := x.2, coins := coins } } }

/-- MNT_APPLIED (R293). -/
def execMntApplied (s : State) : Out := ok s.mintApplyDue

/-! ## Credits (R295, R307) -/

/-- One purse's credit and its part of the digest; a bad word counts as 0 (R361). -/
def State.purseCredit (s : State) (k g : Nat) : State × List Byte :=
  let s := if (s.purse k).on then s.purseCheck k else s
  let p := s.purse k
  if !p.on then (s, [])
  else
    let b := min (p.bal + (g : Int) * coin) (s.mget MNT_DEBT_CARRY_MAX * coin)
    let s := s.purseStore k { p with bal := b, brake := p.brake && decide (b < 0), credited := b, since := 0 }
    let s := (s.put (MNT_PGRANT_GRANT k) g).put (MNT_PUSE_USE k) p.u
    (s, byteOf k 0 :: bytesLE g 4 ++ bytesLE (ofInt 32 (s.purseBal k)) 4)

/-- MINT_CREDIT (R295, R307). -/
def execMintCredit (s : State) : Out :=
  match s.mint.alloc with
  | none => ok s
  | some al =>
    let s := { s with mint := { s.mint with alloc := none } }
    if s.safe then ok s
    else
      let x := al.grants.foldl (fun (x : State × List Byte) e =>
        let y := x.1.purseCredit e.1 e.2
        (y.1, x.2 ++ y.2)) (s, [])
      let s := (x.1.put MNT_DIGEST_DIGEST (crc32 x.2)).put MNT_UNALLOC_COINS al.rem
      let s := { s with mint := { s.mint with short := al.short, digMfn := s.mfn } }
      let s := if al.short then (s.hwSet MNT_STAT_FLOOR_SHORT).raiseN 288 0x01 al.coins else s
      ok s.mintEmerg

/-! ## Budget codes (R296) -/

/-- BGT of FEED link `k` at the copy. -/
def State.bgtOf (s : State) (k : Nat) : Nat :=
  let p := s.purse k
  let st := s.fstate k
  if !s.mint.run || !p.on || s.role k != rlFEED then 255
  else if s.purseShed k then 0
  else if s.mbit (MNT_PCFG_RAMP_BRK k) && s.bit (FSM_CTRL_EN k) && st != fsON && st != fsLIMIT then 0
  else if 0 ≤ p.bal then 255
  else if s.debtMax ≤ -p.bal then (if s.mbit MNT_DEBT_BRAKE_EN then 0 else 1)
  else 254 - (254 * (-p.bal) / s.debtMax).toNat

/-! ## AC loss and hold-up (R302..R304, R306) -/

/-- The count of R302. -/
def State.acCount (s : State) : Nat :=
  ((List.range s.nLinks).filter (fun k =>
    (s.mget (MNT_RMASK_MASK (k / 32))).testBit (k % 32) && s.role k == rlRECT && ((s.link k).mb.auxOf 5).getLsbD 0)).length

/-- HOLDUP asserts. -/
def State.holdupOn (s : State) (cnt : Nat) : State :=
  let s := (s.putBit MNT_STAT_HOLDUP true).detect 61
  let s := { s with mint := { s.mint with huAt := s.clk.now, below := none, huSw := some true } }
  let s := s.raiseN 290 0x01 cnt
  if s.bit FSM_GCTRL_AC_EN then s.blankOpen else s

/-- Evaluations of RET_MS (R302). -/
def State.retEvals (s : State) : Nat := evals (1000000 * s.mget MNT_AC_RET_MS)

/-- A class's shed time is reached (R306). -/
def State.shedDue (s : State) (c : Nat) : Bool :=
  (s.mget MNT_SHED_SHED_EN).testBit c && !(s.get MNT_STAT_SHED).testBit c && decide (s.mget (MNT_SHED_T_T c) * 100 ≤ s.huTime)

/-- The shed times reached in this evaluation follow in this cycle. -/
def State.shedArm (s : State) : State :=
  [0, 1, 2, 3].foldl (fun t c => if t.shedDue c then t.arm 0 (.shed (Fin.ofNat 4 c)) else t) s

/-- The evaluation of R302 at a consumer cycle. -/
def State.holdupEval (s : State) : State :=
  let cnt := s.acCount
  let n := s.mget MNT_AC_AC_N
  let s := s.put MNT_STAT_AC_CNT cnt
  if n != 0 && decide (n ≤ cnt) then
    let s := { s with mint := { s.mint with below := none } }
    let s := if s.bit MNT_STAT_HOLDUP then s else s.holdupOn cnt
    s.shedArm
  else if s.bit MNT_STAT_HOLDUP then
    let b := match s.mint.below with | none => 0 | some b => b + 1
    let s := { s with mint := { s.mint with below := some b } }
    if s.retEvals ≤ b then s.arm 0 .holdupOff else s.shedArm
  else s

/-- HOLDUP_OFF (R302, R303, R306): a count at AC_N keeps HOLDUP asserted (R5). -/
def execHoldupOff (s : State) : Out :=
  let s := s.disarm .holdupOff
  let n := s.mget MNT_AC_AC_N
  if s.bit MNT_STAT_HOLDUP && !(n != 0 && decide (n ≤ s.acCount)) then
    let t := s.huTime
    let s := ((s.putBit MNT_STAT_HOLDUP false).put MNT_HU_TIME_MS t).put MNT_STAT_SHED 0
    let s := { s with mint := { s.mint with below := none, huSw := some false } }
    ok (s.mintEmerg.raiseN 290 0x02 t)
  else ok s

/-- One OFF request of the feed state machine (R269, R306). -/
def State.feedOffReq (s : State) (k : Nat) : State :=
  if s.feedOn k then
    (s.modFeed k (fun f => { f with reqs := if f.reqs.contains .off then f.reqs else f.reqs ++ [.off] })).feedReqBits k
  else s

/-- SHED (R306). -/
def execShed (c : Fin 4) (s : State) : Out :=
  let s := s.disarm (.shed c)
  if s.bit MNT_STAT_HOLDUP && (s.mget MNT_SHED_SHED_EN).testBit c.val && !(s.get MNT_STAT_SHED).testBit c.val then
    let s := (s.putBit ⟨MNT_STAT, 1 + c.val, 1 + c.val⟩ true).raiseN 291 0x01 c.val
    let s := if s.mbit MNT_SHED_SHED_OFF then
        s.forN s.nLinks (fun k t => if (t.purse k).on && t.mget (MNT_PCFG_CLASS k) == c.val then t.feedOffReq k else t)
      else s
    ok s.mintEmerg
  else ok s

/-- HOLDUP_SWITCH (R304): the requests of the switch, applied after firmware's at this frame start. -/
def execHoldupSwitch (s : State) : Out :=
  match s.mint.huSw with
  | none => ok s
  | some on =>
    let s := { s with mint := { s.mint with huSw := none } }
    ok (s.forN 8 (fun i t =>
      let n := t.mget (MNT_HUSW_ENGINE i)
      if t.mbit (MNT_HUSW_EN i) && decide (n < t.nEngines) then
        { t with sch := { t.sch with huReqs := t.sch.huReqs ++ [(n, t.mbit (MNT_HUSW_SET i) == on, t.mget (MNT_HUSW_ENTRY i))] } }
      else t))

/-! ## Register operations (R293, R309, R310) -/

/-- ERR of MNT_APPLY. -/
def State.mintErr (s : State) (e : Nat) : State := s.put MNT_APPLY_ERR e

/-- GO with AT = 1 came after frame MFN − 2 (R293). -/
def applyLate (target mfn : Nat) : Bool := decide (2147483648 ≤ (target + 2 ^ 33 - 2 - mfn) % 2 ^ 32)

/-- GO. -/
def State.mintGo (s : State) : State :=
  let t := s.get MNT_APPLY_MFN_MFN
  let s := s.mintErr 0
  if s.bit MNT_APPLY_AT && applyLate t s.mfn then ((s.mintErr 1).hwSet MNT_APPLY_FAIL).raiseN 288 0x03 t
  else
    let s := s.putBit MNT_APPLY_GO true
    { s with mint := { s.mint with go := some (if s.bit MNT_APPLY_AT then some t else none) } }

/-- MNT_APPLY. -/
def State.wMntApply (v : Word) (s : State) : State :=
  s.regWrite MNT_APPLY v true (fun s => if tb v 31 && s.mint.go.isNone then s.mintGo else s)

/-- MNT_APPLY_MFN: an odd value is a reserved encoding. -/
def State.wMntApplyMfn (v : Word) (s : State) : State := s.regWrite MNT_APPLY_MFN v (!tb v 0) id

/-- Every other register of the Mint: a store is merged into its code word, and lost where that is uncorrectable (R361). -/
def State.wMntReg (a : Nat) (v : Word) (s : State) : State :=
  if !mintCfg a then s.regWrite a v true id
  else if s.mint.go.isSome then s.mintErr 2
  else
    let plim := decide (MNT_PCFG 0 ≤ a ∧ a < MNT_PUSE 0) && decide (a % 16 = 4)
    let bad := s.eccRead 76 (mintWordOf a) == .bad
    if !(legalAt a v && (!plim || decide (bitsOf v 15 0 ≤ bitsOf v 31 16))) then s.access a
    else if bad then s.detect 58
    else (s.apply a v).encode 76 (mintWordOf a)

/-- MNT_APPLY (R293). -/
def execMntApply (who : Who) (v : Word) (s : State) : Out :=
  ok (s.busWrite who MNT_APPLY (withBit v 31) (State.wMntApply (withBit v 31)))

end Sys2Proof.Machine
end

