-- ==== Sys2Proof/Machine/Battery.lean ====
section
/-! DEFINITION. Machine/Battery.lean: the battery estimator (11): Tally and substitutions, cells and cut-off, rest and
readings, the update of an epoch, rotating rest, state of health, the allowance, the apply of its configuration; and the
meanings of its commands. -/

namespace Sys2Proof.Machine

def State.bstr (s : State) (st : Nat) : BStr := SMap.get (fun _ => {}) s.bat.strs st
def State.setBstr (s : State) (st : Nat) (b : BStr) : State :=
  { s with bat := { s.bat with strs := SMap.set (fun _ => {}) s.bat.strs st b } }
def State.modBstr (s : State) (st : Nat) (f : BStr → BStr) : State := s.setBstr st (f (s.bstr st))

/-! ## The active configuration (R333) -/

/-- Whether a register of the estimator writes a pending copy (R333). -/
def batCfg (a : Nat) : Bool :=
  decide (a = BAT_CTRL) || decide (BAT_ROT ≤ a ∧ a < BAT_SCFG 0)
    || (decide (BAT_SCFG 0 ≤ a ∧ a < BAT_OCV_TEMP 0 0) && decide (a % 0x40 < 0x10))
    || decide (BAT_OCV_TEMP 0 0 ≤ a ∧ a < BAT_CELL 0 0) || decide (BAT_OCV 0 0 ≤ a ∧ a < BAT_OCV 0 0 + 0x2000)

/-- A field of the active configuration. -/
def State.bget (s : State) (f : Fld) : Nat := bitsOf (SMap.get resetWord s.bat.act f.addr) f.hi f.lo

/-- String `st` is enabled in the active configuration. -/
def State.strOn (s : State) (st : Nat) : Bool := (s.bget BAT_CTRL_STR_EN).testBit st && decide (st < s.nStrings)

/-- The strings enabled, in rising order. -/
def State.strings (s : State) : List Nat := (List.range 8).filter s.strOn

/-- A temperature of 16 bits as a number. -/
def temp16 (n : Nat) : Int := (BitVec.ofNat 16 n).toInt

/-! ## Charge (R315) -/

/-- Tally counts of one mAh. -/
def mAh : Nat := 1200000000

/-- Q_full. -/
def State.qFull (s : State) (st : Nat) : Nat := s.get (BAT_SCAP_CAP_MAH st) * mAh

/-- The Tally (R311). -/
def State.tally (s : State) (st : Nat) : Int :=
  (BitVec.ofNat 64 (s.get (BAT_TALLY_HI_T_HI st) * 2 ^ 32 + s.get (BAT_TALLY_LO_T_LO st))).toInt

def State.putTally (s : State) (st : Nat) (t : Int) : State :=
  let n := ofInt 64 t
  (s.put (BAT_TALLY_HI_T_HI st) (n / 2 ^ 32)).put (BAT_TALLY_LO_T_LO st) n

/-- Per mille of Q_full, held within 0..Q_full. -/
def State.perMille (s : State) (st : Nat) (q : Int) : Nat := (max 0 (min q (s.qFull st))).toNat * 1000 / s.qFull st

/-- SOC and CNT (R315). -/
def State.soc (s : State) (st : Nat) : Nat := s.perMille st (s.bstr st).qr
def State.cnt (s : State) (st : Nat) : Nat := s.perMille st (s.bstr st).qc

/-- The uncertainty in per mille (R324). -/
def State.unc (s : State) (st : Nat) : Nat := min 1000 (((s.bstr st).u * 1000 + s.qFull st - 1) / s.qFull st)

/-- UNCERTAIN is set when U first exceeds the limit (R324). -/
def State.uncCheck (s : State) (st : Nat) : State :=
  if (s.bstr st).live && decide (s.bget BAT_UNC_UNC_LIM < s.unc st) && !s.bit (BAT_SFLAG_UNCERTAIN st) then
    ((s.putBit (BAT_SFLAG_UNCERTAIN st) true).raiseN (272 + st) 0x06 (s.unc st)).detect (62 + st)
  else s

/-! ## Participation and rotating rest (R325, R326) -/

/-- The string is resting. -/
def State.resting (s : State) (st : Nat) : Bool := match s.bat.run with | some w => w.str == st | none => false

/-- PART (R334). -/
def State.batPart (s : State) : State :=
  let p := (List.range 8).foldl (fun a st => if s.strOn st && !s.resting st && !s.bit (BAT_SFLAG_CUTOFF st) then a + 2 ^ st else a) 0
  s.put BAT_STAT_PART p

/-- ROT_VALID and RESTING follow the windows. -/
def State.rotFlags (s : State) : State :=
  ((s.putBit BAT_STAT_ROT_VALID (!s.bat.ann.isEmpty || s.bat.run.isSome)).putBit BAT_STAT_RESTING s.bat.run.isSome).batPart

/-- A window ends; one without a reading counts. -/
def State.rotEnd (s : State) : State :=
  match s.bat.run with
  | none => s
  | some w =>
    let s := if w.read then s else s.inc BAT_STAT_ROT_FAIL
    { s with bat := { s.bat with run := none } }.rotFlags

/-- ROT_ABORT: the running window ends early (R326). -/
def State.rotAbort (s : State) (cause : Nat) : State :=
  match s.bat.run with
  | none => s
  | some w =>
    let s := s.rotEnd
    let plan := if s.bget BAT_CTRL_ROT_EN = 0 then RotPlan.off else .aborted
    let s := { s with bat := { s.bat with plan := plan, ann := [], first := w.str } }.rotFlags
    s.raiseN (272 + w.str) 0x09 cause

/-- ROT_ABORT where the running window is that of string `st`. -/
def State.rotAbortOf (s : State) (st cause : Nat) : State := if s.resting st then s.rotAbort cause else s

/-- The mailbox of the string's link is stale. -/
def State.strStale (s : State) (st : Nat) : Bool :=
  let k := s.bget (BAT_SCFG_LINK st)
  s.role k != rlBATT || (s.link k).mb.stale || decide (s.nLinks ≤ k)

/-- P_SMOOTH is met without string `st` (R325). -/
def State.smoothOk (s : State) (st : Nat) : Bool :=
  let p := s.strings.foldl (fun a x =>
    if x ≠ st && !s.bit (BAT_SFLAG_CUTOFF x) && !s.bit (BAT_SFLAG_LINK x) then a + s.bget (BAT_SCFG2_PSTR x) else a) 0
  decide (s.bget BAT_SMOOTH_P_SMOOTH ≤ p)

/-- String `st` may rest (R325). -/
def State.eligible (s : State) (st : Nat) : Bool :=
  !s.bit MNT_STAT_HOLDUP && s.strOn st && !s.bit (BAT_SFLAG_CUTOFF st) && !s.bit (BAT_SFLAG_LINK st) && !s.strStale st && s.smoothOk st

/-- LEAD in major frames. -/
def State.rotLead (s : State) : Nat := 1024 * s.bget BAT_ROT_LEAD

/-- W in major frames: even (R325). -/
def State.rotW (s : State) : Nat := let w := (s.bget BAT_ROT_W_S * 10000000 + 95) / 96; w + w % 2

/-- M_s of the decision due at this update, if one is (R325, R326). -/
def State.rotDue (s : State) : Option Nat :=
  let next := (s.mfn + 1 + s.rotLead) % 2 ^ 32
  match s.bat.plan with
  | .off => none
  | .next => some next
  | .aborted => if s.bit MNT_STAT_HOLDUP then none else some next
  | .window ms => if (next + 2 ^ 32 - ms) % 2 ^ 32 < 2147483648 then some ms else none

/-- ROT_DECISION (R325). -/
def execRotDecision (s : State) : Out :=
  let s := s.disarm .rotDecision
  match s.rotDue with
  | none => ok s
  | some ms =>
    match ((List.range 8).map (fun i => (s.bat.first + i) % 8)).find? s.eligible with
    | some st =>
      let w := { str := st, ms := ms, w := s.rotW : RestWin }
      let s := { s with bat := { s.bat with ann := s.bat.ann ++ [w], plan := .window ((ms + w.w) % 2 ^ 32), first := (st + 1) % 8 } }
      ok (((s.put BAT_ROT_MFN_MFN ms).put BAT_STAT_ROT_STR st).rotFlags.raiseN (272 + st) 0x08 ms)
    | none =>
      let s := { s with bat := { s.bat with plan := .window ((ms + s.rotLead) % 2 ^ 32) } }
      ok ((s.hwSet BAT_STAT_ROT_BLOCKED).raiseN 272 0x10 s.mfn)

/-- The window announced first begins in this major frame. -/
def State.rotStarts (s : State) : Bool := match s.bat.ann with | w :: _ => w.ms == s.mfn | [] => false

/-- The running window is over in this major frame. -/
def State.rotOver (s : State) : Bool := match s.bat.run with | some w => (w.ms + w.w) % 2 ^ 32 == s.mfn | none => false

/-- Window `w` begins, with `later` still announced: a cause of ROT_ABORT already there ends it at once (R326). -/
def State.rotBegin (s : State) (w : RestWin) (later : List RestWin) : State :=
  let s := { s with bat := { s.bat with run := some w, ann := later } }
  let s := ((s.put BAT_ROT_MFN_MFN w.ms).put BAT_STAT_ROT_STR w.str).rotFlags
  if s.bit MNT_STAT_HOLDUP then s.rotAbort 1
  else if s.bit (BAT_SFLAG_CUTOFF w.str) then s.rotAbort 2
  else if s.bit (BAT_SFLAG_LINK w.str) then s.rotAbort 3 else s

/-- ROT_WINDOW_START (R326). -/
def execRotWindowStart (s : State) : Out :=
  match s.bat.ann with
  | [] => ok s
  | w :: later => ok (if w.ms != s.mfn then s else (if s.rotOver then s.rotEnd else s).rotBegin w later)

/-- ROT_WINDOW_END (R326). -/
def execRotWindowEnd (s : State) : Out := ok (if s.rotOver then s.rotEnd else s)

/-! ## The consumer cycle (R311, R313, R314, R318) -/

/-- E for a time of `sec` seconds (R318). -/
def restIntervals (sec : Nat) : Nat := (sec * 10000000 + 2) / 3

/-- Samples in an average (R318). -/
def avgLen : Nat := 65536

/-- Sums of V and T over the last samples of a rest; none while it has brought fewer. -/
def restSums (h : List (Int × Int)) : Option (Int × Int) :=
  let w := h.take avgLen
  if w.length = avgLen then some (w.foldl (fun a x => (a.1 + x.1, a.2 + x.2)) (0, 0)) else none

/-- A valid interval of string `st`. -/
def State.batValid (s : State) (st : Nat) (u : UpData) : State :=
  let i := s16 u.i
  let v := s16 u.v
  let θ := s16 u.t
  let s := s.putTally st (s.tally st - i)
  let s := (s.put (BAT_SUBST_CONSEC st) 0).putBit (BAT_SFLAG_LINK st) false
  let b := s.bstr st
  let slot := u.sq.toNat % 16
  let fresh := slot == 0 || slot != (b.slot + 1) % 16
  let b := { b with
    iLast := i, n := b.n + 1, sv := b.sv + v, si := b.si + i, st := b.st + θ
    slot := slot, seen := (if fresh then 0 else b.seen) ||| (1#16 <<< slot) }
  let ext := restIntervals (s.bget BAT_REST_EXT_S)
  let dir := restIntervals (s.bget BAT_REST_DIR_S)
  if i.natAbs < s.bget BAT_REST_REST_I then
    let t := b.rest + 1
    let h := (v, θ) :: if t % avgLen = 0 then b.hist.take avgLen else b.hist
    let s1 := if t = ext / 2 then (restSums h).map (fun x => (t, x.1)) else b.s1
    let s := s.setBstr st { b with rest := t, epRest := b.epRest + 1, hist := h, s1 := s1 }
    let s := if t = ext then s.arm 0 (.extrapolatedReading (Fin.ofNat 8 st)) else s
    let s := if t = dir then s.arm 0 (.directReading (Fin.ofNat 8 st)) else s
    (s.put (BAT_REST_T_INTERVALS st) (min t 0xFFFFFFFF)).putBit (BAT_SFLAG_AT_REST st) true
  else
    let s := s.setBstr st { b with rest := 0, epRest := 0, epRestart := true, hist := [], s1 := none }
    (s.put (BAT_REST_T_INTERVALS st) 0).putBit (BAT_SFLAG_AT_REST st) false

/-- A stale interval of string `st` (R311, R313). -/
def State.batStale (s : State) (st : Nat) : State :=
  let b := s.bstr st
  let s := s.putTally st (s.tally st - b.iLast)
  let s := (s.inc (BAT_SUBST_CONSEC st)).inc (BAT_SUBST_TOTAL st)
  let slot := (b.slot + 1) % 16
  let s := s.setBstr st { b with u := b.u + b.iLast.natAbs, epSub := b.epSub + 1, slot := slot, seen := if slot = 0 then 0 else b.seen }
  let s := s.uncCheck st
  if s.bget BAT_SUB_SUB_LIM ≤ s.get (BAT_SUBST_CONSEC st) && !s.bit (BAT_SFLAG_LINK st) then s.arm 0 (.batLink (Fin.ofNat 8 st)) else s

/-- The interval of string `st` at the consumer cycle; `fresh` says that its link brought a valid frame. -/
def State.batInterval (s : State) (fresh : Nat → Bool) (st : Nat) : State :=
  if !s.strOn st then s
  else
    let k := s.bget (BAT_SCFG_LINK st)
    let s := if fresh k && s.role k == rlBATT then s.batValid st (s.link k).mb.data else s.batStale st
    if (s.bstr st).slot = 15 then s.arm 0 (.cellWindow (Fin.ofNat 8 st)) else s

/-- BAT_LINK (R313). -/
def execBatLink (st : Str) (s : State) : Out :=
  let s := s.disarm (.batLink st)
  if s.strOn st && decide (s.bget BAT_SUB_SUB_LIM ≤ s.get (BAT_SUBST_CONSEC st)) && !s.bit (BAT_SFLAG_LINK st) then
    let s := (s.putBit (BAT_SFLAG_LINK st) true).raiseN (272 + st) 0x07 (s.get (BAT_SUBST_CONSEC st))
    let s := (s.detect (62 + st)).modBstr st (fun b => { b with linkSeen := true })
    ok (s.rotAbortOf st 3)
  else ok s

/-- A cell voltage of the array (R314). -/
def State.putCell (s : State) (st c v : Nat) : State :=
  if c % 2 = 0 then s.put (BAT_CELL_CELL0 st (c / 2)) v else s.put (BAT_CELL_CELL1 st (c / 2)) v

/-- The low 16 bits of an auxiliary slot of the string's link. -/
def State.strAux (s : State) (st i : Nat) : Nat := ((s.link (s.bget (BAT_SCFG_LINK st))).mb.auxOf i).toNat % 65536

/-- The cut-off of a rotation with a valid slot 6 (R323). -/
def State.cutoffEval (s : State) (st : Nat) : State :=
  let m := s.get (BAT_CELLMM_MIN st)
  let low := decide (m < s.bget BAT_CUT_VCUT)
  let high := decide (s.bget BAT_CUT_VCUT + 10 * s.bget BAT_CUT_CUT_HYST ≤ m)
  let s := s.modBstr st (fun b => { b with lowCnt := if low then b.lowCnt + 1 else 0, okCnt := if high then b.okCnt + 1 else 0 })
  let n := s.bget BAT_CUT_CUT_N
  let b := s.bstr st
  if !s.bit (BAT_SFLAG_CUTOFF st) && decide (n ≤ b.lowCnt) then
    let s := ((s.putBit (BAT_SFLAG_CUTOFF st) true).raiseN (272 + st) 0x05 m).detect (62 + st)
    ((s.modBstr st (fun b => { b with cut := true })).batPart).rotAbortOf st 2
  else if s.bit (BAT_SFLAG_CUTOFF st) && decide (n ≤ b.okCnt) then (s.putBit (BAT_SFLAG_CUTOFF st) false).batPart
  else s

/-- CELL_WINDOW (R314, R323). -/
def execCellWindow (st : Str) (s : State) : Out :=
  let s := s.disarm (.cellWindow st)
  let b := s.bstr st
  if s.strOn st && b.slot == 15 then
    let w := s.strAux st 5
    let s := if b.seen.getLsbD 5 && decide (w < 14) then
        s.forN 8 (fun i t => if b.seen.getLsbD (8 + i) then t.putCell st (8 * w + i) (t.strAux st (8 + i)) else t)
      else s
    let s := if b.seen.getLsbD 7 then s.put (BAT_CELLMM_MAX st) (s.strAux st 7) else s
    let s := s.modBstr st (fun b => { b with seen := 0 })
    ok (if b.seen.getLsbD 6 then (s.put (BAT_CELLMM_MIN st) (s.strAux st 6)).cutoffEval st else s)
  else ok s

/-! ## Readings (R318) -/

/-- Mean cell voltage of a sum over a full window. -/
def cellMean (x : Int) : Int := x * 25 / (14 * avgLen)

/-- The reading counts for the window in which the string rests. -/
def State.rotRead (s : State) (st : Nat) : State :=
  match s.bat.run with
  | some w => if w.str = st then { s with bat := { s.bat with run := some { w with read := true } } } else s
  | none => s

/-- EXTRAPOLATED_READING (R318). -/
def execExtrapolatedReading (st : Str) (s : State) : Out :=
  let s := s.disarm (.extrapolatedReading st)
  let b := s.bstr st
  let e := restIntervals (s.bget BAT_REST_EXT_S)
  if s.strOn st && b.rest == e then
    match b.s1, restSums b.hist with
    | some (t1, s1), some (s2, sumT) =>
      if t1 = e / 2 then
        let u := cellMean (s2 + (s2 - s1) * 158218 / 65536)
        let d := u - cellMean s2
        if s.bget BAT_READ_EXT_MAX < d.natAbs then ok (s.raiseN (272 + st) 0x02 (ofInt 32 d))
        else ok ((s.setBstr st { b with ext := some (u, sumT) }).rotRead st)
      else ok s
    | _, _ => ok s
  else ok s

/-- DIRECT_READING (R318). -/
def execDirectReading (st : Str) (s : State) : Out :=
  let s := s.disarm (.directReading st)
  let b := s.bstr st
  if s.strOn st && b.rest == restIntervals (s.bget BAT_REST_DIR_S) then
    match restSums b.hist with
    | some (v, sumT) => ok ((s.setBstr st { b with dir := some (cellMean v, sumT) }).rotRead st)
    | none => ok s
  else ok s

/-! ## Voltage to state of charge (R316) -/

/-- Points of a column of the table, by `f`: SOC and OCV. -/
def State.ocvPoint (s : State) (st t p : Nat) : Nat × Nat := (s.bget (BAT_OCV_SOC (4 * st + t) p), s.bget (BAT_OCV_OCV (4 * st + t) p))

/-- One column's result for a mean cell voltage: the point at or below `u` and its successor. -/
def State.ocvColumn (s : State) (st t : Nat) (u : Int) : Int :=
  if u ≤ (s.ocvPoint st t 0).2 then 0
  else if ((s.ocvPoint st t 63).2 : Int) ≤ u then 1000
  else
    let p := ((List.range 63).filter (fun p => decide (((s.ocvPoint st t p).2 : Int) ≤ u))).length - 1
    let a := s.ocvPoint st t p
    let b := s.ocvPoint st t (p + 1)
    (a.1 : Int) + (u - a.2) * ((b.1 : Int) - a.1) / ((b.2 : Int) - a.2)

/-- The table's result for a mean cell voltage at the mean temperature ΣT / n. -/
def State.ocvSoc (s : State) (st : Nat) (u sumT : Int) (n : Nat) : Nat :=
  let tc := fun t => temp16 (s.bget (BAT_OCV_TEMP_TEMP st t))
  let col := fun t => s.ocvColumn st t u
  let r :=
    if sumT ≤ n * tc 0 then col 0
    else if n * tc 3 ≤ sumT then col 3
    else
      let t := if sumT < n * tc 1 then 0 else if sumT < n * tc 2 then 1 else 2
      col t + (sumT - n * tc t) * (col (t + 1) - col t) / (n * (tc (t + 1) - tc t))
  r.toNat

/-- The table of string `st` in a pending or active configuration is valid (R317). -/
def tableValid (get : Fld → Nat) (st : Nat) : Bool :=
  (List.range 4).all (fun t =>
    let soc := fun p => get (BAT_OCV_SOC (4 * st + t) p)
    let ocv := fun p => get (BAT_OCV_OCV (4 * st + t) p)
    soc 0 == 0 && soc 63 == 1000 && (List.range 63).all (fun p => decide (soc p < soc (p + 1)) && decide (ocv p < ocv (p + 1))))
    && (List.range 3).all (fun t => decide (temp16 (get (BAT_OCV_TEMP_TEMP st t)) < temp16 (get (BAT_OCV_TEMP_TEMP st (t + 1)))))

/-! ## The update (R315, R319..R324, R328, R330) -/

/-- The state-of-health update with a reading of `soc` as second anchor (R328). -/
def State.sohUpdate (s : State) (st soc : Nat) : State :=
  let b := s.bstr st
  match b.anchor with
  | none => s
  | some (t0, soc0) =>
    let dT := s.tally st - t0
    let dS : Int := (soc : Int) - soc0
    if dS.natAbs < s.bget BAT_SOH_DSOC || b.linkSeen then s
    else
      let cm := dT.natAbs * 1000 / (dS.natAbs * mAh)
      let rated := s.bget (BAT_SCFG_RATED_MAH st)
      let cap := s.get (BAT_SCAP_CAP_MAH st)
      if decide (dT < 0) != decide (dS < 0) || decide (cm * 1000 < 500 * rated) || decide (1100 * rated < cm * 1000) then
        s.raiseN (272 + st) 0x0B cm
      else
        let step := Int.tdiv ((cm : Int) - cap) 4
        let lim : Int := (cap * 20 / 1000 : Nat)
        let cap' := ((cap : Int) + max (-lim) (min lim step)).toNat
        let s := if cap' < 65536 then s.put (BAT_SCAP_CAP_MAH st) cap' else s.drawn.put (BAT_SCAP_CAP_MAH st) (Config.freeNat s.free)
        let cap' := s.get (BAT_SCAP_CAP_MAH st)
        (s.put (BAT_SCAP_SOH st) (min 1100 (cap' * 1000 / rated))).raiseN (272 + st) 0x0A cap'

/-- A reading is applied (R319). -/
def State.applyReading (s : State) (st : Nat) (direct : Bool) (u sumT : Int) : State :=
  let soc := s.ocvSoc st u sumT avgLen
  let s := s.sohUpdate st soc
  let q := s.qFull st
  let unc := if direct then s.bget BAT_ACC_DIR_UNC else s.bget BAT_ACC_EXT_UNC
  let s := s.modBstr st (fun b => { b with
    qc := (soc * q / 1000 : Nat), u := unc * q / 1000, anchor := some (s.tally st, soc), linkSeen := s.bit (BAT_SFLAG_LINK st) })
  let s := [BAT_SFLAG_RESERVE st, BAT_SFLAG_DIS_HI st, BAT_SFLAG_DIS_LO st, BAT_SFLAG_UNCERTAIN st].foldl (fun t f => t.putBit f false) s
  let s := (s.put (BAT_SFLAG_LAST_READ st) (if direct then 2 else 1)).put (BAT_READING_U st) (ofInt 16 u)
  (s.put (BAT_READING_SOC_V st) soc).raiseN (272 + st) 0x01 ((if direct then 0x10000 else 0) + soc)

/-- Readings completed in the epoch: the direct one where both are (R318). -/
def State.readings (s : State) (st : Nat) : State :=
  let b := s.bstr st
  let s := s.modBstr st (fun b => { b with ext := none, dir := none })
  match b.dir, b.ext with
  | some (u, t), _ => s.applyReading st true u t
  | none, some (u, t) => s.applyReading st false u t
  | none, none => s

/-- The reported charge (R320); `idle` says that the update is CHG or IDLE. -/
def State.reported (s : State) (st : Nat) (dT : Int) (idle : Bool) : State :=
  let b := s.bstr st
  let full : Int := s.qFull st
  let q := b.qr + dT
  let clamp := fun (x : Int) => max 0 (min full x)
  let s := s.putBit (BAT_SFLAG_BLENDING st) (decide (q < b.qc))
  if b.qc ≤ q then s.setBstr st { b with qr := clamp b.qc }
  else if idle && !s.bit MNT_STAT_HOLDUP then
    let x := s.qFull st * s.bget BAT_READ_BLEND + b.remB
    s.setBstr st { b with qr := clamp (min b.qc (q + (x / 3125000000 : Nat))), remB := x % 3125000000 }
  else s.setBstr st { b with qr := clamp q }

/-- The growth of the uncertainty (R324). -/
def State.growUnc (s : State) (st : Nat) (dT : Int) : State :=
  let b := s.bstr st
  let x := dT.natAbs * s.bget BAT_UNC_TPUT + b.remT
  let y := s.qFull st * s.bget BAT_UNC_DRIFT + b.remD
  s.setBstr st { b with u := b.u + x / 65536 + y / 187500000000, remT := x % 65536, remD := y % 187500000000 }

/-- SoC_d of the epoch's samples (R321). -/
def State.socD (s : State) (st : Nat) : State :=
  let b := s.bstr st
  if b.n = 0 then s
  else
    let u := (20000 * b.sv + s.bget (BAT_SCFG2_RINT st) * b.si) * 25 / (14 * 20000 * b.n)
    s.put (BAT_SFLAG_SOC_D st) (s.ocvSoc st u b.st b.n)

/-- One direction of the disagreement (R321): difference, count so far, flag. -/
def State.disagree (s : State) (st : Nat) (d : Int) (f : Fld) (n : Nat) : State :=
  if d ≤ s.bget BAT_DIS_DIS_TH then s.putBit f false
  else if s.bget BAT_DIS_DIS_N ≤ n && !s.bit f then
    (s.putBit f true).raiseN (272 + st) 0x03 (ofInt 32 ((s.get (BAT_SFLAG_SOC_D st) : Int) - s.cnt st))
  else s

/-- The disagreement and RESERVE (R321, R322). -/
def State.flags (s : State) (st : Nat) : State :=
  let b := s.bstr st
  let d : Int := (s.get (BAT_SFLAG_SOC_D st) : Int) - s.cnt st
  let th : Int := s.bget BAT_DIS_DIS_TH
  let s := if b.n = 0 then s else
    let hi := if th < d then b.hiCnt + 1 else 0
    let lo := if th < -d then b.loCnt + 1 else 0
    ((s.setBstr st { b with hiCnt := hi, loCnt := lo }).disagree st d (BAT_SFLAG_DIS_HI st) hi).disagree st (-d) (BAT_SFLAG_DIS_LO st) lo
  let s := s.putBit (BAT_SFLAG_COUNT_NEG st) (decide (b.qc ≤ 0))
  let sd := s.get (BAT_SFLAG_SOC_D st)
  if b.qc ≤ 0 && decide (s.bget BAT_DIS_DIS_TH < sd) && !s.bit (BAT_SFLAG_RESERVE st) then
    ((s.putBit (BAT_SFLAG_RESERVE st) true).raiseN (272 + st) 0x04 sd).detect (62 + st)
  else s

/-- The first update after the enable seeds the string (R330); RESERVE waits for the next reading (R322). -/
def State.seedStr (s : State) (st : Nat) : State :=
  let cap := s.bget (BAT_SCAPSEED_CAP_MAH st)
  let rated := s.bget (BAT_SCFG_RATED_MAH st)
  let cap := if cap = 0 then rated else cap
  let s := (s.put (BAT_SCAP_CAP_MAH st) cap).put (BAT_SCAP_SOH st) (min 1100 (cap * 1000 / rated))
  let valid := s.bget (BAT_SSEED_VALID st) == 1
  let soc := if valid then s.bget (BAT_SSEED_SOC st) else s.get (BAT_SFLAG_SOC_D st)
  let unc := if valid then s.bget (BAT_SSEED_UNC st) else s.bget BAT_ACC_INIT_UNC
  let full := s.qFull st
  let s := s.modBstr st (fun b => { b with
    live := true, qc := (soc * full / 1000 : Nat), qr := (soc * full / 1000 : Nat), u := unc * full / 1000, remB := 0, remT := 0, remD := 0
    rest := 0, hist := [], s1 := none, ext := none, dir := none, anchor := none, hiCnt := 0, loCnt := 0
    linkSeen := false })
  let s := [BAT_SFLAG_DIS_HI st, BAT_SFLAG_DIS_LO st, BAT_SFLAG_UNCERTAIN st, BAT_SFLAG_BLENDING st,
    BAT_SFLAG_AT_REST st].foldl (fun t f => t.putBit f false) s
  (s.put (BAT_SFLAG_LAST_READ st) 3).put (BAT_REST_T_INTERVALS st) 0

/-- A cut-off set since the last update empties the string (R323). -/
def State.cutOut (s : State) (st : Nat) : State :=
  if (s.bstr st).cut then s.modBstr st (fun b => { b with qc := 0, qr := 0 }) else s

/-- Steps 1 to 5 of R315 for a string that has been seeded. -/
def State.updateStr (s : State) (st : Nat) : State :=
  let dT := s.tally st - (s.bstr st).prev
  let s := s.modBstr st (fun b => { b with qc := b.qc + dT })
  let disch := decide (dT < -(64 * (s.bget BAT_REST_REST_I : Int)))
  let s := (s.growUnc st dT).readings st
  s.reported st dT (!disch)

/-- The update of one enabled string; a bad code word keeps its previous state (R361). -/
def State.strUpdate (s : State) (st : Nat) : State :=
  let bad := s.eccRead 77 st == .bad
  let s := (if bad then s.detect 59 else s).encode 77 st
  let s := if bad then s
    else
      let s := s.socD st
      let s := ((if (s.bstr st).live then s.updateStr st else s.seedStr st).cutOut st).flags st
      s.uncCheck st
  let s := s.modBstr st (fun b => { b with
    prev := s.tally st, n := 0, sv := 0, si := 0, st := 0, cut := false, epRest := 0, epSub := 0, epRestart := false })
  ((s.put (BAT_SOC_SOC st) (s.soc st)).put (BAT_SOC_CNT st) (s.cnt st)).put (BAT_SOC_UNC st) (s.unc st)

/-- p_s (R329). -/
def State.strPart (s : State) (st : Nat) : Nat :=
  let soc := s.get (BAT_SOC_SOC st)
  let p := s.bget (BAT_SCFG2_PSTR st)
  let lo := s.bget BAT_POLICY_RES_SOC
  let hi := s.bget BAT_POLICY_TAPER
  if s.resting st || s.bit (BAT_SFLAG_CUTOFF st) || s.bit (BAT_SFLAG_LINK st) || s.bit (BAT_SFLAG_RESERVE st) || s.strStale st
      || decide (soc ≤ lo) then 0
  else if hi ≤ soc then p
  else p * (soc - lo) / (hi - lo)

/-- The allowance, the aggregate and the digest (R329, R331). -/
def State.batSums (s : State) : State :=
  let xs := s.strings
  let b := xs.foldl (fun a st => a + s.strPart st) 0
  let qr := xs.foldl (fun a st => a + (s.bstr st).qr.toNat) 0
  let full := xs.foldl (fun a st => a + s.qFull st) 0
  let bs := xs.flatMap (fun st => byteOf st 0 :: bytesLE (ofInt 64 (s.bstr st).qr) 8 ++ bytesLE (ofInt 64 (s.bstr st).qc) 8
    ++ bytesLE (s.bstr st).u 8)
  ((s.put BAT_ALLOW_W b).put BAT_AGG_SOC (qr * 1000 / full)).put BAT_DIGEST_DIGEST (crc32 bs)

/-- BAT_UPDATE (R315): at the end of cycle 2399 of the second major frame of an epoch. -/
def execBatUpdate (s : State) : Out :=
  let s := (s.strings.foldl State.strUpdate s).batSums
  let s := { s with bat := { s.bat with digMfn := s.mfn } }
  ok (if s.rotDue.isSome then s.arm 0 .rotDecision else s)

/-! ## The apply (R317, R330, R333) -/

/-- Two strings name one link, or a table that is to be used is not valid (R333). -/
def State.batConfigBad (s : State) : Bool :=
  let xs := List.range s.nStrings
  xs.any (fun a => xs.any (fun b => decide (a < b) && s.get (BAT_SCFG_LINK a) == s.get (BAT_SCFG_LINK b)))
    || xs.any (fun a => (s.get BAT_CTRL_STR_EN).testBit a && !tableValid s.get a)

/-- GO is over. -/
def State.batGoEnd (s : State) : State := { s.putBit BAT_APPLY_GO false with bat := { s.bat with go := none } }

/-- LATE or CONFIG. -/
def State.batFail (s : State) (e : Nat) : State := ((s.put BAT_APPLY_ERR e).hwSet BAT_APPLY_FAIL).raiseN 272 0x12 e

/-- The pending configuration becomes active, or is refused whole. -/
def State.batApply (s : State) : State :=
  let s := s.batGoEnd
  if s.batConfigBad then s.batFail 3
  else
    let was := s.strOn
    let rot := s.bget BAT_CTRL_ROT_EN
    let s := { s with bat := { s.bat with act := s.regs.filter (fun e => batCfg e.1) } }
    let s := s.forN 8 (fun st t => if t.strOn st && !was st then t.modBstr st (fun b => { b with
      live := false, prev := t.tally st, n := 0, sv := 0, si := 0, st := 0, epSub := 0, seen := 0, cut := false }) else t)
    let en := s.bget BAT_CTRL_ROT_EN
    let plan := if en = 0 then RotPlan.off else if rot = 0 then .next else s.bat.plan
    let s := { s with bat := { s.bat with plan := plan } }
    ((s.hwSet BAT_APPLY_DONE).raiseN 272 0x11 s.mfn).batPart

/-- A GO is due at this latch. -/
def State.batDue (s : State) : Bool :=
  match s.bat.go with
  | none => false
  | some none => true
  | some (some m) => m == s.mfn

/-- BAT_APPLIED (R333). -/
def execBatApplied (s : State) : Out := ok (if s.batDue then s.batApply else s)

/-- GO. -/
def State.batGo (s : State) : State :=
  let s := s.put BAT_APPLY_ERR 0
  let t := s.get BAT_APPLY_MFN_MFN
  if s.bit BAT_APPLY_AT && applyLate t s.mfn then s.batFail 1
  else { s.putBit BAT_APPLY_GO true with bat := { s.bat with go := some (if s.bit BAT_APPLY_AT then some t else none) } }

/-- BAT_APPLY. -/
def State.wBatApply (v : Word) (s : State) : State :=
  s.regWrite BAT_APPLY v true (fun s => if tb v 31 && s.bat.go.isNone then s.batGo else s)

/-- BAT_APPLY_MFN. -/
def State.wBatApplyMfn (v : Word) (s : State) : State := s.regWrite BAT_APPLY_MFN v (!tb v 0) id

/-- The relations between fields that R333 reserves. -/
def State.batGood (s : State) (a : Nat) (v : Word) : Bool :=
  if a = BAT_REST then decide (bitsOf v 19 8 < bitsOf v 31 20) && decide (bitsOf v 19 8 < s.get BAT_ROT_W_S)
  else if a = BAT_ROT then decide (s.get BAT_REST_EXT_S < bitsOf v 11 0)
  else if a = BAT_POLICY then decide (bitsOf v 9 0 < bitsOf v 25 16)
  else true

/-- The string whose table or temperatures an address belongs to (R317). -/
def tableString (a : Nat) : Option Nat :=
  if BAT_OCV_TEMP 0 0 ≤ a ∧ a < BAT_CELL 0 0 then some ((a - BAT_OCV_TEMP 0 0) / 16)
  else if BAT_OCV 0 0 ≤ a ∧ a < BAT_OCV 0 0 + 0x2000 then some ((a - BAT_OCV 0 0) / 0x400) else none

/-- Every other register of the estimator. The bits of absent strings in BAT_CTRL are discarded with ABSENT (R2, R333). -/
def State.wBatReg (a : Nat) (v : Word) (s : State) : State :=
  if !batCfg a then s.regWrite a v true id
  else if s.bat.go.isSome then s.put BAT_APPLY_ERR 2
  else
    let open_ := match tableString a with | some st => !s.strOn st | none => true
    let absent := 256 - 2 ^ s.nStrings
    if a = BAT_CTRL ∧ v.toNat &&& absent ≠ 0 then (s.regWrite a (v &&& ~~~(BitVec.ofNat 32 absent)) true id).raiseN 44 0x05 a
    else s.regWrite a v (open_ && s.batGood a v) id

/-- BAT_APPLY (R333). -/
def execBatApply (who : Who) (v : Word) (s : State) : Out :=
  ok (s.busWrite who BAT_APPLY (withBit v 31) (State.wBatApply (withBit v 31)))

end Sys2Proof.Machine
end

