-- ==== Sys2Proof/Machine/Companion.lean ====
section
/-! DEFINITION. Machine/Companion.lean: the companion of a link as the rules for link partners give it (03, 04, 09): the
port it obeys, what it applies of a downstream frame, hold and autonomy, its loader; and the meanings of its commands.
The frames of this block reach port `own` as it sends them; what the lines bring otherwise, and what reaches port `twin`,
comes with the command (log entry 12). -/

namespace Sys2Proof.Machine

def Comp.port (c : Comp) (p : Port) : CompPort := match p with | .own => c.own | .twin => c.twin
def Comp.setPort (c : Comp) (p : Port) (x : CompPort) : Comp :=
  match p with | .own => { c with own := x } | .twin => { c with twin := x }
def Comp.modPort (c : Comp) (p : Port) (f : CompPort → CompPort) : Comp := c.setPort p (f (c.port p))

/-- The role that decides the frame that has just ended (R101). -/
def Comp.roleS1 (c : Comp) : Option Role := c.roleAt.getD c.role

/-- The role that decides the command that port `p` brings: that of its frame, else the present one (R101). -/
def Comp.ruling (c : Comp) (p : Port) : Option Role := (c.port p).ruled.getD c.role

/-- The command has been judged. -/
def Comp.judged (c : Comp) (p : Port) : Comp := c.modPort p (fun x => { x with ruled := none })

/-! ## The port it obeys (R107, R108) -/

/-- The port is live: an authority frame within the last 4 link frames (R107). -/
def CompPort.live (x : CompPort) : Bool := decide (x.age < 4)

/-- E_p as a number; a cleared one is lower than every epoch (R107). -/
def CompPort.rank (x : CompPort) : Nat := match x.ep with | some e => e.toNat + 1 | none => 0

/-- The choice of R107. -/
def Comp.choose (c : Comp) : Option Port :=
  match c.own.live, c.twin.live with
  | true, false => some .own
  | false, true => some .twin
  | false, false => none
  | true, true =>
    if c.own.rank > c.twin.rank then some .own
    else if c.twin.rank > c.own.rank then some .twin
    else c.obeyed

/-- It chooses again. -/
def Comp.rechoose (c : Comp) : Comp := { c with obeyed := c.choose }

/-- It executes role commands and RESET, which need authority (R114, R116): a frame that brought one had it (R104). -/
def Comp.underAuthority (c : Comp) (p : Port) : Bool :=
  (c.port p).ruled.isSome || (c.obeyed == some p && !c.hold && !c.autonomous)

/-- CMD_ACK toggles on the port the command came on (R64). -/
def Comp.toggle (c : Comp) (p : Port) : Comp := c.modPort p (fun x => { x with ack := !x.ack })

/-- EPL equals bits 7:0 of E_p (R107, R108). -/
def CompPort.eplIs (x : CompPort) (epl : BitVec 8) : Bool := match x.ep with | some e => e.setWidth 8 == epl | none => false

/-- ST.AUTH_OK on a port (R108): on the obeyed one the last valid frame passed the EPL check, on another one it was an audit
frame with the EPL of the obeyed port. -/
def Comp.authOk (c : Comp) (p : Port) : Bool :=
  let x := c.port p
  c.role.isSome &&
    (match c.obeyed with
     | none => false
     | some q => if q = p then x.passed else x.audit && (match x.epl with | some e => (c.port q).eplIs e | none => false))

/-- The role a tag names (R55). -/
def roleOfTag (n : Nat) : Role := match n % 4 with | 0 => .feed | 1 => .rect | 2 => .batt | _ => .sens
def Role.tag (r : Role) : Nat := match r with | .feed => 0 | .rect => 1 | .batt => 2 | .sens => 3

/-- ST.ROLE_OK on a port (R100). -/
def Comp.roleOk (c : Comp) (p : Port) : Bool := match c.role with | some r => (c.port p).tag == some r.tag | none => false

/-! ## Applied values (R62, R255, R256, R258, R297) -/

/-- A value clamped to the companion's local limit (R62, R255), which leaves ACTA's OFF and OFF_HOLD. -/
def clampLocal (k i : Nat) (x : BitVec 16) : BitVec 16 :=
  let m : Int := Config.localLimit k i
  if x.toInt.natAbs ≤ 1 then x else if m < x.toInt then BitVec.ofInt 16 m else if x.toInt < -m then BitVec.ofInt 16 (-m) else x

/-- ACTA as it is applied: for FEED the reserved values and the latch apply 0. -/
def Comp.actaFor (c : Comp) (k : Nat) (x : BitVec 16) : BitVec 16 :=
  if c.role = some .feed ∧ (c.localTrip ∨ x.toInt < -1) then 0 else clampLocal k 0 x

/-- ACTB as it is applied: for FEED values of 0 or below apply 0 (R256). -/
def Comp.actbFor (c : Comp) (k : Nat) (x : BitVec 16) : BitVec 16 :=
  if c.role = some .feed ∧ x.toInt ≤ 0 then 0 else clampLocal k 1 x

/-- BGT is applied; a FEED companion drives the tray's budget line with it and brakes at code 0 (R297). -/
def Comp.applyBgt (c : Comp) (code : BitVec 8) : Comp :=
  if c.role = some .feed then { c with bgt := code, line := code, brake := code == 0 } else { c with bgt := code }

/-- A SENS image declares with 0x0000 in slot 2 that it does not use ACTA, in slot 3 that it does not use ACTB (R102). -/
def Comp.uses (c : Comp) (i : Nat) : Bool := c.role != some .sens || (if i = 2 then c.decl.2.2.1 else c.decl.2.2.2) != 0

/-- The actuations of a good frame are applied, but those that a SENS image ignores (R102). -/
def Comp.applyActs (c : Comp) (k : Nat) (ys : List LSym) : Comp :=
  ({ c with
    acta := if c.uses 2 then c.actaFor k (symPair ys 5) else c.acta
    actb := if c.uses 3 then c.actbFor k (symPair ys 7) else c.actb }).applyBgt (symAt ys 9)

/-- A scale of R102 from two free numbers: an exponent and a mantissa 1..1023. -/
def scaleCode (e m : Nat) : BitVec 16 := BitVec.ofNat 16 (e % 32 * 1024 + (1 + m % 1023))

/-- What a SENS image declares when it starts is the image's own (log entry 87): two scales, and two scales or none. -/
def declFrom (f : Nat → Nat) : BitVec 16 × BitVec 16 × BitVec 16 × BitVec 16 :=
  (scaleCode (f 0) (f 1), scaleCode (f 2) (f 3), if f 4 % 2 = 0 then 0 else scaleCode (f 5) (f 6), if f 7 % 2 = 0 then 0 else scaleCode (f 8) (f 9))

/-- The protective action of a FEED companion (R258); what latched first stays noted (R259). -/
def Comp.protect (c : Comp) (byK : Bool) : Comp :=
  if c.role = some .feed then
    { c with localTrip := true, acta := 0, kTrip := c.kTrip || (byK && !c.localTrip), hardTrip := c.hardTrip || (!byK && !c.localTrip) }
  else c

/-- The advance by which it places its strobe: that of the obeyed port, else the one applied last (R348). -/
def Comp.strobeAdv (c : Comp) : Nat := match c.obeyed with | some p => (c.port p).adv | none => c.advLast

/-- The auxiliary slot `i` as far as the rules give its value (R67, R257, R259, R297, R348): none for a measurement, and for
what the image or the hardware of the companion defines. -/
def Comp.aux (c : Comp) (i : Nat) : Option (BitVec 16) :=
  let flag (b : Bool) (n : Nat) : BitVec 16 := if b then 1 <<< n else 0
  match c.role, i with
  | none, 2 => some (flag c.imageValid 0)
  | none, 3 | some .feed, 14 | some .rect, 14 => some (BitVec.ofNat 16 c.strobeAdv)
  | none, 4 => some (BitVec.ofNat 16 c.loaderErr)
  | none, 5 => some (BitVec.ofNat 16 c.bootGot)
  | none, 0 | none, 1 => none
  | none, _ => some 0
  | some .feed, 4 | some .rect, 2 | some .batt, 3 => some c.acta
  | some .feed, 5 | some .rect, 3 | some .batt, 4 => some c.actb
  | some .sens, 0 => some c.decl.1
  | some .sens, 1 => some c.decl.2.1
  | some .sens, 2 => some c.decl.2.2.1
  | some .sens, 3 => some c.decl.2.2.2
  | some .feed, 6 => some (c.bgt.setWidth 16)
  | some .feed, 7 => some c.hardLim
  | some .feed, 11 => some (c.line.setWidth 16 ||| flag c.brake 8)
  | some .feed, 15 | some .rect, 7 | some .rect, 8 | some .rect, 9 | some .rect, 10 | some .rect, 11 | some .rect, 15 => some 0
  | _, _ => none

/-- Slot 10 of a FEED (R259): the side and what set the latch; DISCH, GATE, SUPPLY and OTP are bits 5:2 of `hw`, as its own
hardware finds them. -/
def Comp.flagSlot (c : Comp) (hw : BitVec 16) : BitVec 16 :=
  let flag (b : Bool) (n : Nat) : BitVec 16 := if b then 1 <<< n else 0
  flag c.side 15 ||| (hw &&& 0x003C) ||| flag c.kTrip 1 ||| flag c.hardTrip 0

/-- The value it sends of auxiliary slot `i` (R67); `hw` is what its image or hardware has for a slot that the rules leave to
it. -/
def Comp.auxValue (c : Comp) (i : Nat) (hw : BitVec 16) : BitVec 16 :=
  if c.role = some .feed ∧ i = 10 then c.flagSlot hw else (c.aux i).getD hw

/-- ST of its upstream frames on port `p` (R56, R64, R100, R108, R115, R258); `present` is what it senses. -/
def Comp.st (c : Comp) (p : Port) (present : Bool) : BitVec 8 :=
  let flag (b : Bool) (n : Nat) : BitVec 8 := if b then 1 <<< n else 0
  flag (c.authOk p) 7 ||| flag (c.roleOk p) 6 ||| flag (c.port p).ack 5 ||| flag c.localTrip 4 ||| flag present 3
    ||| flag c.autonomous 2 ||| c.health.setWidth 8

/-- I, V and T of its upstream frames (R56, R103): 0 in the loader, else `m`, what it measured at the strobe. -/
def Comp.ivt (c : Comp) (m : BitVec 16 × BitVec 16 × BitVec 16) : BitVec 16 × BitVec 16 × BitVec 16 :=
  if c.role.isNone then (0, 0, 0) else m

/-- The upstream frame that it sends on port `p` with sequence `seq` and auxiliary slot `slot` (R54, R56, R61): what it
senses and measures, and what its image has for the slot, stand beside. -/
def Comp.upFrame (c : Comp) (p : Port) (seq slot : BitVec 4) (present : Bool) (m : BitVec 16 × BitVec 16 × BitVec 16) (hw : BitVec 16) :
    List LSym :=
  let w (b : BitVec 16) : List Byte := [b.extractLsb' 8 8, b.extractLsb' 0 8]
  let v := c.ivt m
  let body := [c.st p present] ++ w v.1 ++ w v.2.1 ++ w v.2.2 ++ w (c.auxValue slot.toNat hw) ++ [seq ++ slot]
  .k K28_5 :: ((body ++ [BitVec.ofNat 8 (crc8 body)]).map LSym.d)

/-! ## Hold and autonomy (R114..R116) -/

/-- S1 of the frame in progress has been received: 50 ns of it have passed (R101). -/
def State.pastS1 (s : State) : Bool := decide (13 ≤ s.clk.cyc % 75)

/-- The role changes; the frame in progress stays decided by the one at its S1 (R101). -/
def State.roleTo (s : State) (k : Nat) (c : Comp) : State :=
  let old := s.comp k
  s.setComp k (if s.pastS1 && old.roleAt.isNone then { c with roleAt := some old.role } else c)

/-- It enters its loader with its output at rest (R99, R103, R107). -/
def Comp.toLoader (c : Comp) : Comp :=
  { c with
    role := none, obeyed := none, hold := false, autonomous := false, miss := 0, tHold := 100, bootPort := none, bootFail := 0
    acta := 0, actb := 0, bgt := 0xFF, line := 0xFF, brake := false, opened := false, decl := (0, 0, 0, 0)
    own := { c.own with ep := none, age := 4, passed := false, epl := none }
    twin := { c.twin with ep := none, age := 4, passed := false, epl := none } }

/-- COMPANION_HOLD (R114): the count of missing frames has reached 8. -/
def State.compHold (s : State) (k : Nat) : State :=
  let c := s.comp k
  if c.role.isSome && !c.hold && !c.autonomous then
    (s.setComp k { c with hold := true, tHoldNow := c.tHold, miss := 8 }).arm (ms c.tHold) (.companionAutonomy (Fin.ofNat 96 k))
  else s

/-- An authority frame on the obeyed port ends hold and the count (R114, R116). -/
def State.compAlive (s : State) (k : Nat) : State :=
  let c := s.comp k
  let s := if c.hold then s.disarm (.companionAutonomy (Fin.ofNat 96 k)) else s
  s.setComp k { c with hold := false, miss := 0 }

def execCompanionHold (k : Link) (s : State) : Out := ok ((s.disarm (.companionHold k)).compHold k)

/-- The values that a companion on its own applies now (R115): a FEED keeps them, a SENS applies none, and what the image of
a RECT or a BATT regulates to is free (log entry 78). -/
def State.ownValues (s : State) (k : Nat) : State :=
  let c := s.comp k
  let free (i : Nat) : BitVec 16 := BitVec.ofNat 16 (Config.freeNat (s.free + i))
  match c.role with
  | some .rect => ({ s with free := s.free + 1 }).setComp k { c with acta := free 0 }
  | some .batt => ({ s with free := s.free + 2 }).setComp k { c with acta := free 0, actb := free 1 }
  | some .sens => s.setComp k { c with acta := 0, actb := 0 }
  | _ => s

/-- COMPANION_AUTONOMY (R114, R115): t_hold has passed in hold. -/
def execCompanionAutonomy (k : Link) (s : State) : Out :=
  let s := s.disarm (.companionAutonomy k)
  let c := s.comp k
  if c.hold then ok ((s.setComp k { c with hold := false, autonomous := true }).ownValues k) else ok s

/-- PORT_LIVE_LOSS (R107): the port's age reaches 4. -/
def execPortLiveLoss (k : Link) (port : Port) (s : State) : Out :=
  ok ((s.disarm (.portLiveLoss k port)).modComp k (fun c => (c.modPort port (fun x => { x with age := 4 })).rechoose))

/-! ## Seizes (R109, R116) -/

/-- The companion accepts epoch `e` on port `p`: it exceeds E_q of every live port q ≠ p and is at least E_p (R109). -/
def Comp.accepts (c : Comp) (p : Port) (e : BitVec 16) : Bool :=
  let q := match p with | .own => c.twin | .twin => c.own
  c.roleS1.isSome && (!q.live || decide (q.rank < e.toNat + 1)) && decide ((c.port p).rank ≤ e.toNat + 1)

/-- The last valid frame on port `p` (R108). -/
def Comp.lastFrame (c : Comp) (p : Port) (epl : BitVec 8) (audit : Bool) : Comp :=
  c.modPort p (fun x => { x with epl := some epl, audit := audit, passed := c.obeyed == some p && x.eplIs epl })

/-- SEIZE_ACCEPT (R109, R116): a valid seize frame on port `p`. Out of autonomy the applied values stay as they are then. -/
def State.seizeAccept (s : State) (k : Nat) (p : Port) (e : BitVec 16) : State :=
  let c := s.comp k
  if c.accepts p e then
    let s := if c.autonomous then s.ownValues k else s
    let c := (((s.comp k).modPort p (fun x => { x with ep := some e, age := 0 })).rechoose).lastFrame p (e.setWidth 8) false
    let s := s.setComp k { c with autonomous := false }
    if c.obeyed = some p then s.compAlive k else s
  else s.modComp k (fun c => if c.roleS1.isSome then c.lastFrame p (e.setWidth 8) false else c)

def execSeizeAccept (k : Link) (port : Port) (e : BitVec 16) (s : State) : Out :=
  ok ((s.disarm (.seizeAccept k port e)).seizeAccept k port e)

/-! ## A downstream frame at the companion (R62, R64, R65, R71, R77, R100, R101, R104, R107, R108, R114) -/

/-- The row of a command that the companion takes on port `p`. -/
def commandOf (k : Link) (p : Port) (op : Nat) (arg : BitVec 16) : Option Instr :=
  match op with
  | 0x01 => some (.hello k p arg)
  | 0x02 => some (.setAdvance k p arg)
  | 0x03 => some (.bootStart k p arg)
  | 0x04 => some (.setHold k p arg)
  | 0x05 => some (.bootDone k p arg)
  | 0x0F => some (.reset k p arg)
  | 0x10 => some (.feedSide k p arg)
  | 0x11 => some (.feedClear k p arg)
  | 0x12 => some (.feedHardlim k p arg)
  | _ => none

/-- Whether a frame decided in role `r` lets the command through (R104): `good` says that it has the authority of the
obeyed port. The rest is judged where the command executes. -/
def admitsCmd (r : Option Role) (op : Nat) (good : Bool) : Bool :=
  op == 1 || op == 2 || (match r with | none => decide (op < 0x10) | some _ => good && decide (0x0F ≤ op))

/-- A frame that carries NOP, or has no CMD field (R64). An image's command state opens with one of the holder (R101). -/
def Comp.nop (c : Comp) (p : Port) (holder : Bool) : Comp :=
  let c := { c with opened := c.opened || holder }
  if c.role.isNone || c.opened then c.modPort p (fun x => { x with nopSeen := true }) else c

/-- A command executes in the first frame that carries it after one with NOP (R64). `r` is the role that decides. -/
def State.compCmd (s : State) (k : Nat) (p : Port) (r : Option Role) (op : Nat) (arg : BitVec 16) (good : Bool) : State :=
  if op = 0 then s.modComp k (fun c => if c.role = r then c.nop p good else c)
  else if ((s.comp k).port p).nopSeen then
    let s := s.modComp k (fun c => c.modPort p (fun x => { x with nopSeen := false }))
    match commandOf (Fin.ofNat 96 k) p op arg with
    | some i =>
      if admitsCmd r op good then (s.modComp k (fun c => c.modPort p (fun x => { x with ruled := some r }))).arm 0 i else s
    | none => s
  else s

/-- A bootstrap-block frame (R77, R78). -/
def Comp.block (c : Comp) (p : Port) (ys : List LSym) (valid : Bool) : Comp :=
  if c.roleS1.isNone && c.bootPort == some p && c.bootFail == 0 then
    if !valid then { c with bootFail := 1, loaderErr := 1 }
    else if (symAt ys 10).toNat = c.bootGot % 256 ∧ c.bootGot < c.bootLen then
      { c with ram := writeBytes zeroByte c.ram (8 * c.bootGot) (((ys.drop 2).take 8).map LSym.val), bootGot := c.bootGot + 1 }
    else { c with bootFail := 2, loaderErr := 2 }
  else c

/-- HD carries AUTH = 1 and the role tag of `r` (R55). -/
def hdFor (r : Role) (hd : Byte) : Bool := hd.getLsbD 5 && hd.toNat / 64 == r.tag

/-- An authority frame with HD on port `p` (R107): AUTH = 1, a matching role tag and the EPL of E_p. -/
def Comp.authHd (c : Comp) (p : Port) (r : Role) (hd epl : Byte) : Bool := hdFor r hd && (c.port p).eplIs epl

/-- A valid frame with HD in S1, decided in role `r` (R62, R100, R107, R108, R116): ACTA applied early is taken back where
the EPL check fails. -/
def State.compHd (s : State) (k : Nat) (p : Port) (r : Role) (ys : List LSym) : State :=
  let hd := symAt ys 1
  let epl := symAt ys 10
  let isAudit := hd.getLsbD 4 && ys.getD 2 .bad == .k K29_7
  let isAuth := (s.comp k).authHd p r hd epl
  let s := s.modComp k (fun c =>
    let c := c.modPort p (fun x => { x with age := if isAuth then 0 else x.age })
    (if isAuth then c.rechoose else c).lastFrame p epl isAudit)
  let c := s.comp k
  let good := isAuth && (c.port p).passed && !c.autonomous
  let s := if isAuth && c.obeyed == some p then (if c.autonomous then s.modComp k (fun c => { c with miss := 0 }) else s.compAlive k) else s
  let s := if hdFor r hd && !c.autonomous && !(c.port p).passed then s.modComp k (fun c => { c with restored := c.restored + 1 }) else s
  let s := if good && c.role.isSome then s.modComp k (fun c => c.applyActs k ys) else s
  if hd.toNat / 64 = r.tag then s.compCmd k p (some r) (if isAudit then 0 else (symAt ys 2).toNat) (symPair ys 3) good else s

/-- A valid frame with HD in S1. In the loader its role tag is not judged (R100). -/
def State.compNormal (s : State) (k : Nat) (p : Port) (ys : List LSym) : State :=
  let r := (s.comp k).roleS1
  let s := s.modComp k (fun c => c.modPort p (fun x => { x with tag := some ((symAt ys 1).toNat / 64) }))
  match r with
  | none =>
    let op := if ys.getD 2 .bad == .k K29_7 then 0 else (symAt ys 2).toNat
    s.compCmd k p none op (symPair ys 3) false
  | some r => s.compHd k p r ys

/-- A downstream frame is valid (R58, R71): no code or disparity error, K-symbols in their places only, no K23.7, the CRC. -/
def downValid (ys : List LSym) : Bool :=
  ys.head? == some (.k K28_5)
    && (match ys.getD 1 .bad with | .d _ => true | .k b => b == K27_7 || b == K30_7 | .bad => false)
    && (match ys.getD 2 .bad with | .d _ => true | .k b => b == K29_7 | .bad => false)
    && ((List.range 9).all (fun i => match ys.getD (i + 3) .bad with | .d _ => true | _ => false))
    && crc8 (((ys.drop 1).take 10).map LSym.val) == (symAt ys 11).toNat

/-- S0..S6 of a frame are good and its HD has ACTA applied before the frame ends (R62). -/
def Comp.early (c : Comp) (ys : List LSym) : Bool :=
  ys.head? == some (.k K28_5)
    && ((List.range 6).all (fun i => match ys.getD (i + 1) .bad with | .d _ => true | _ => false))
    && !c.autonomous && (match c.roleS1 with | some r => hdFor r (symAt ys 1) | none => false)

/-- An invalid frame: ACTA applied early is taken back and counted (R62), a block is bad (R77), and K23.7 is obeyed (R112). -/
def State.compInvalid (s : State) (k : Nat) (p : Port) (ys : List LSym) : State :=
  let s := if (s.comp k).early ys then s.modComp k (fun c => { c with restored := c.restored + 1 }) else s
  let s := if ys.getD 1 .bad = .k K30_7 then s.modComp k (fun c => c.block p ys false) else s
  if ys.tail.contains (.k K23_7) then s.arm 0 (.protectiveAction (Fin.ofNat 96 k) p) else s

/-- A seize frame (R109): valid where its S10 equals its S3. Accepted, it counts as a NOP of the holder (R64, R101). -/
def State.compSeize (s : State) (k : Nat) (p : Port) (ys : List LSym) : State :=
  let e := symAt ys 2 ++ symAt ys 3
  if symAt ys 10 = symAt ys 3 then
    let won := (s.comp k).accepts p e
    (s.seizeAccept k p e).modComp k (fun c => c.nop p won)
  else s

/-- A frame arrives on a locked port. ROLE_OK follows the role tags of frames with HD alone: a seize or block frame carries
none and leaves it as it stands, which is the model's choice (log entry 90). -/
def State.compFrame (s : State) (k : Nat) (p : Port) (ys : List LSym) : State :=
  if !downValid ys then s.compInvalid k p ys
  else
    match ys.getD 1 .bad with
    | .k b => if b = K30_7 then s.modComp k (fun c => (c.block p ys true).nop p false) else s.compSeize k p ys
    | _ => s.compNormal k p ys

/-- An authority frame on port `p` (R107): one with HD, or a seize frame that will be accepted. -/
def Comp.authFrame (c : Comp) (p : Port) (ys : List LSym) : Bool :=
  downValid ys &&
    (match ys.getD 1 .bad with
     | .k b => b == K27_7 && symAt ys 10 == symAt ys 3 && c.accepts p (symAt ys 2 ++ symAt ys 3)
     | _ => match c.roleS1 with | some r => c.authHd p r (symAt ys 1) (symAt ys 10) | none => false)

/-- Comma lock and loss at a port (R70, R71). -/
def CompPort.comma (x : CompPort) (c : Bool) : CompPort :=
  if x.locked then
    let n := if c then 0 else x.missed + 1
    if n = 4 then { x with locked := false, missed := 0, commas := 0 } else { x with missed := n }
  else
    let n := if c then x.commas + 1 else 0
    if n = 4 then { x with locked := true, missed := 0, commas := 0 } else { x with commas := n }

/-- The link frame ends on port `p`, with the frame received or none; whether it was an authority frame. The age of the port
goes on without one (R107). -/
def State.compPort (s : State) (k : Nat) (p : Port) (ys : List LSym) : State × Bool :=
  let c := s.comp k
  let lock := (c.port p).locked
  let auth := lock && c.authFrame p ys
  let s := s.modComp k (fun c => c.modPort p (fun x => x.comma (ys.head? == some (.k K28_5))))
  let s := if lock && !ys.isEmpty then s.compFrame k p ys else s
  if auth || (c.port p).age = 4 then (s, auth)
  else
    let s := s.modComp k (fun c => c.modPort p (fun x => { x with age := min 4 (x.age + 1) }))
    (if (c.port p).age = 3 then s.arm 0 (.portLiveLoss (Fin.ofNat 96 k) p) else s, false)

/-- The count of missing frames on the obeyed port (R114). -/
def State.compMiss (s : State) (k : Nat) (alive : Port → Bool) : State :=
  let c := s.comp k
  if c.role.isNone || c.hold || c.autonomous || (match c.obeyed with | some p => alive p | none => false) then s
  else
    let s := s.modComp k (fun c => { c with miss := c.miss + 1 })
    if (s.comp k).miss = 8 then s.arm 0 (.companionHold (Fin.ofNat 96 k)) else s

/-- A received advance applies at the strobe of a frame with sequence 0 (R65). -/
def State.compStrobe0 (s : State) (k : Nat) : State :=
  let ap := fun (p : Port) (c : Comp) => match (c.port p).advNext with
    | some d => { c.modPort p (fun x => { x with adv := d, advNext := none }) with advLast := d }
    | none => c
  s.modComp k (fun c => ap .twin (ap .own c))

/-- The end of a link frame at companion `k`: the frames that its ports received, a seize frame first (R109), then the
passing of the frame. Of two seize frames that end at one instant, that of port own is evaluated first: the model's choice
(log entry 90). -/
def State.compReceive (s : State) (k : Nat) (own twin : List LSym) : State :=
  let first : Port := if twin.getD 1 .bad = .k K27_7 ∧ own.getD 1 .bad ≠ .k K27_7 then .twin else .own
  let second : Port := match first with | .own => .twin | .twin => .own
  let of := fun (p : Port) => match p with | .own => own | .twin => twin
  let a := s.compPort k first (of first)
  let b := a.1.compPort k second (of second)
  let s := b.1.compMiss k (fun p => if p = first then a.2 else b.2)
  let s := s.modComp k (fun c => { c with roleAt := none })
  if s.lf % 16 = 0 then s.compStrobe0 k else s

/-- What a port of companion `k` receives: on port own `sent`, where nothing else is given. -/
def received (rx : List CompRx) (k : Nat) (p : Port) (sent : List LSym) : List LSym :=
  match rx.find? (fun r => r.k.val == k && r.port == p) with
  | some r => r.syms
  | none => match p with | .own => sent | .twin => []

/-! ## The commands (R63, R64, R77..R79, R99, R101, R103, R104, R257) -/

/-- NOP: no effect. -/
def execNop (_k : Link) (_port : Port) (s : State) : Out := ok s

/-- HELLO: the companion acknowledges; its identity stands in its auxiliary map. ARG is 0 (R63). -/
def execHello (k : Link) (port : Port) (arg : BitVec 16) (s : State) : Out :=
  let s := (s.disarm (.hello k port arg)).modComp k (fun c => c.judged port)
  if arg = 0 then ok (s.modComp k (fun c => c.toggle port)) else ok s

/-- SET_ADVANCE: the advance applies at the next strobe 0 (R65). -/
def execSetAdvance (k : Link) (port : Port) (arg : BitVec 16) (s : State) : Out :=
  let s := (s.disarm (.setAdvance k port arg)).modComp k (fun c => c.judged port)
  if arg.toNat ≤ 400 then ok (s.modComp k (fun c => (c.modPort port (fun x => { x with advNext := some arg.toNat })).toggle port)) else ok s

/-- The bootstrap commands of port `p` are heard (R78). -/
def Comp.hears (c : Comp) (p : Port) : Bool := (c.ruling p).isNone && (c.bootPort.isNone || c.bootPort == some p || c.bootFail != 0)

/-- BOOT_START opens a transfer (R77, R78). -/
def execBootStart (k : Link) (port : Port) (arg : BitVec 16) (s : State) : Out :=
  let s := s.disarm (.bootStart k port arg)
  let heard := (s.comp k).hears port
  let s := s.modComp k (fun c => c.judged port)
  if heard then
    ok (s.modComp k (fun c => ({ c with bootPort := some port, bootLen := arg.toNat, bootGot := 0, bootFail := 0, imageValid := false }).toggle port))
  else ok s

/-- SET_HOLD: t_hold in ms, 1..10000; it applies from the next entry into hold (R63, R116). -/
def execSetHold (k : Link) (port : Port) (arg : BitVec 16) (s : State) : Out :=
  let s := s.disarm (.setHold k port arg)
  let heard := (s.comp k).hears port
  let s := s.modComp k (fun c => c.judged port)
  if heard ∧ 1 ≤ arg.toNat ∧ arg.toNat ≤ 10000 then
    ok (s.modComp k (fun c => ({ c with tHold := arg.toNat }).toggle port))
  else ok s

/-- The loader error of BOOT_DONE, 0 for a good image (R77, R79). -/
def Comp.bootCheck (c : Comp) : Nat :=
  if c.bootFail ≠ 0 then c.bootFail
  else if c.bootPort.isSome then
    let n := 8 * c.bootLen
    if c.bootGot < c.bootLen then 6
    else if crc32 (readBytes zeroByte c.ram 0 (n - 4)) = natLE (readBytes zeroByte c.ram (n - 4) 4) then 0 else 3
  else if c.imageValid then 0 else 4

/-- A frame with role tag `n` was the last one on port `p`. -/
def Comp.tagged (c : Comp) (p : Port) (n : Nat) : Comp := c.modPort p (fun x => { x with tag := some n })

/-- BOOT_DONE (R77, R79, R99): the role of a running image does not change.
Whether the image supports the role is its own, a free value (log entry 2). -/
def execBootDone (k : Link) (port : Port) (arg : BitVec 16) (s : State) : Out :=
  let s := s.disarm (.bootDone k port arg)
  let heard := (s.comp k).hears port
  let s := s.modComp k (fun c => c.judged port)
  let c := s.comp k
  if heard ∧ arg.toNat < 4 then
    let e := c.bootCheck
    let c := (c.toggle port)
    if c.role.isSome then ok (s.setComp k c) else
    let stay := fun (c : Comp) e => { c with health := 3, loaderErr := e, bootPort := none, bootFail := 0 }
    if e ≠ 0 then ok (s.setComp k (stay c e))
    else
      let supports := Config.freeNat s.free % 2 == 1
      let s := s.drawn
      let c := { c with imageValid := true }
      let sens := roleOfTag arg.toNat == .sens
      if supports then
        ok (({ s with free := s.free + (if sens then 10 else 0) }).roleTo k ({ c with
          decl := if sens then declFrom (fun i => Config.freeNat (s.free + i)) else (0, 0, 0, 0)
          role := some (roleOfTag arg.toNat), health := 0, loaderErr := 0, bootPort := none, bootFail := 0, hardLim := 45000, miss := 0
          opened := false, own := { c.own with nopSeen := false }, twin := { c.twin with nopSeen := false } }.tagged port arg.toNat))
      else ok (s.setComp k (stay c 5))
  else ok s

/-- RESET (R103): ARG is 0x5A5A; in a role image it needs authority (R104). -/
def execReset (k : Link) (port : Port) (arg : BitVec 16) (s : State) : Out :=
  let s := s.disarm (.reset k port arg)
  let obeys := ((s.comp k).ruling port).isNone || (s.comp k).underAuthority port
  let s := s.modComp k (fun c => c.judged port)
  let c := s.comp k
  if arg = 0x5A5A ∧ obeys then
    ok ((s.roleTo k (c.toggle port).toLoader).disarm (.companionAutonomy k))
  else ok s

/-- A FEED role command is accepted (R104, R257). -/
def Comp.feedCmd (c : Comp) (p : Port) : Bool := c.ruling p == some .feed && c.underAuthority p

/-- FEED_SIDE (R257). -/
def execFeedSide (k : Link) (port : Port) (arg : BitVec 16) (s : State) : Out :=
  let s := s.disarm (.feedSide k port arg)
  let takes := (s.comp k).feedCmd port
  let s := s.modComp k (fun c => c.judged port)
  let c := s.comp k
  if takes ∧ c.acta.toInt ≤ 0 ∧ arg.toNat < 2 then ok (s.setComp k ({ c with side := arg = 1 }.toggle port)) else ok s

/-- FEED_CLEAR (R257, R259). -/
def execFeedClear (k : Link) (port : Port) (arg : BitVec 16) (s : State) : Out :=
  let s := s.disarm (.feedClear k port arg)
  let takes := (s.comp k).feedCmd port
  let s := s.modComp k (fun c => c.judged port)
  let c := s.comp k
  if takes ∧ c.acta.toInt ≤ 0 ∧ arg = 0 then
    ok (s.setComp k ({ c with localTrip := false, kTrip := false, hardTrip := false }.toggle port)) else ok s

/-- FEED_HARDLIM (R257, R258). -/
def execFeedHardlim (k : Link) (port : Port) (arg : BitVec 16) (s : State) : Out :=
  let s := s.disarm (.feedHardlim k port arg)
  let takes := (s.comp k).feedCmd port
  let s := s.modComp k (fun c => c.judged port)
  let c := s.comp k
  if takes ∧ 1000 ≤ arg.toNat then ok (s.setComp k ({ c with hardLim := arg }.toggle port)) else ok s

/-- PROTECTIVE_ACTION (R59, R112, R258): K23.7 on either port. -/
def execProtectiveAction (k : Link) (port : Port) (s : State) : Out :=
  ok ((s.disarm (.protectiveAction k port)).modComp k (fun c => c.protect true))

/-- HARD_LIMIT (R258): the measured current exceeds the hard limit. -/
def execHardLimit (k : Link) (s : State) : Out := ok (s.modComp k (fun c => c.protect false))

end Sys2Proof.Machine
end

