-- ==== Sys2Proof/Machine/Links.lean ====
section
/-! DEFINITION. Machine/Links.lean: the links (03, 04): upstream frames, protection, the command channel, training,
bootstrap, seizes, audit cycles, downstream frames; and the meanings of their commands. -/

namespace Sys2Proof.Machine

/-! ## Symbols and frames (R55..R61, R69) -/

/-- S0 of a frame is the comma. -/
def isComma (ys : List LSym) : Bool := ys.head? == some (.k K28_5)

/-- An upstream frame has a code error: no comma, or a symbol from S1 on that is no data symbol (R58, R69). -/
def codeError (ys : List LSym) : Bool :=
  !isComma ys || ys.tail.any (fun y => match y with | .d _ => false | _ => true)

/-- The fields of an upstream frame (R56). -/
def upData (ys : List LSym) (trip : Bool) : UpData :=
  { st := symAt ys 1, i := symPair ys 2, v := symPair ys 4, t := symPair ys 6, x := symPair ys 8, sq := symAt ys 10, trip := trip }

/-- CRC-8 over S1..S10 against S11 (R61). -/
def crcError (ys : List LSym) : Bool := crc8 (((ys.drop 1).take 10).map LSym.val) != (symAt ys 11).toNat

/-- The CRC of a frame fails, a symbol without a value included, whatever the frame counts as (R22, R97). -/
def crcFails (ys : List LSym) : Bool := ys.tail.contains .bad || crcError ys

/-- How a received frame is judged (R69). -/
inductive UpJudge where
  | good | code | seq | crc
deriving DecidableEq, Repr

/-- Code and comma checks rank before the others; of those, S10 lies before S11 (R69). -/
def judge (ys : List LSym) (m : Nat) : UpJudge :=
  if codeError ys then .code
  else if (symAt ys 10).toNat / 16 != m % 16 then .seq
  else if crcError ys then .crc
  else .good

/-- The link frame in which a frame that has just ended began to arrive, one link frame of 75 cycles ago; a beginning up
to 16 ns early counts for the link frame that follows (R37, R348; log entry 11). -/
def State.arrival (s : State) : Nat := if s.clk.cyc % 75 < 71 then (s.lf + 31) % 32 else s.lf

/-- FAB cycle, counted from reset, in which that link frame started. -/
def State.arrivalAt (s : State) : Nat := let r := s.clk.cyc % 75; if r < 71 then s.clk.now - r - 75 else s.clk.now - r

/-! ## State changes of a link (R72, R75, R80, R281) -/

/-- Members of bootstrap round `n`. -/
def State.members (s : State) (n : Nat) : List Nat :=
  (List.range s.nLinks).filter (fun k => match (s.link k).boot with | some m => m.round == n | none => false)

/-- A round ends: GO clears, DONE sets (R76, R98). -/
def State.roundEnd (s : State) (n : Nat) : State :=
  let s := s.putBit ⟨LNK_BGO, n, n⟩ false
  let s := s.hwSet ⟨LNK_BSTAT, 4 + n, 4 + n⟩
  s.setRound n {}

/-- A member leaves its round with a BOOT code; the round ends with its last member. -/
def State.bootLeave (s : State) (k code : Nat) : State :=
  match (s.link k).boot with
  | none => s
  | some m =>
    let s := s.put (LNK_STATUS_BOOT k) code
    let s := s.modLink k (fun l => { l with boot := none, cmd := match l.cmd with | some c => if c.owner = CmdOwner.bootstrap then none else some c | none => none })
    if (s.members m.round).isEmpty then s.roundEnd m.round else s

/-- A member fails under R80. -/
def State.bootFail (s : State) (k code value : Nat) : State :=
  if (s.link k).boot.isSome then (s.linkErr k code value).bootLeave k 7 else s

/-- What ends when the link leaves TRAINED for state `new` (R80, R110, R117, R281); NOVALID is set until the first valid
frame after the next TRAINED entry (R82, log entry 28). -/
def State.leaveTrained (s : State) (k new : Nat) : State :=
  let s := s.feedFreeze k
  let s := (s.setSeize k none).setBm LNK_SEIZED k false
  let s := s.modLink k (fun l => { l with
    autonEp := false, firstSeen := false, remeasOn := false, advPend := none, reject := false, disregard := none
    mb := { l.mb with novalid := true } })
  s.bootFail k 7 new

/-- The state register of a link; leaving TRAINED takes what hangs on it along. -/
def State.linkTo (s : State) (k new : Nat) : State :=
  let was := s.trained k
  let s := s.put (LNK_STATUS_STATE k) new
  let s := if new == lsTRAINED || new == lsFAILED then s.putBit (LNK_CTRL_TRAIN k) false else s
  if was && new != lsTRAINED then s.leaveTrained k new else s

/-- The link enters TRAINED (R72, R83): the stale count restarts, STALE and NOVALID stay. -/
def State.enterTrained (s : State) (k : Nat) : State :=
  let s := (s.linkTo k lsTRAINED).put (LNK_STATUS_STALE_CNT k) 0
  s.modLink k (fun l => { l with
    missed := 0, wdogEp := false, firstSeen := false, verified := false, recovering := false })

/-- The command in progress, unless it is the training engine's: any other goes on until its toggle or TIMEOUT (R64). -/
def LinkSt.cmdKept (l : LinkSt) : Option Cmd :=
  match l.cmd with | some c => if c.owner = CmdOwner.training then none else some c | none => none

/-- A training failure: the error first, then FAILED (R72). -/
def State.trainFail (s : State) (k : Nat) : State :=
  (s.modLink k (fun l => { l with cmd := l.cmdKept, advPend := none, advAcked := none })).linkTo k lsFAILED

/-- A link is transmitting: not OFF, and the safe state has not stopped the transmitters (R72, R372). -/
def State.sending (s : State) (k : Nat) : Bool := s.lstate k != lsOFF && !s.bit FCU_STAT_TX_OFF

/-- A training step is under way, of a training or of a recovery from LOST (R72, R75). -/
def State.trainStep (s : State) (k : Nat) : Bool := decide (lsLOCK ≤ s.lstate k) && decide (s.lstate k ≤ lsVERIFY)

/-- A training is under way (R85): from the write of TRAIN to TRAINED or FAILED. A recovery from LOST is none (log
entry 29). -/
def State.inTraining (s : State) (k : Nat) : Bool := s.trainStep k && !(s.link k).recovering

/-- The advance units SET_ADVANCE may be sent in (R65). -/
def State.advWindow (s : State) : Bool := decide (17 ≤ s.lf)

/-- The re-measurement or the feed state machine has a command that a free channel takes (R65, R85). -/
def State.hwDue (s : State) (k : Nat) : Bool :=
  let l := s.link k
  s.trained k && !s.safe && ((l.advPend.isSome && s.advWindow) || (!l.fsmCmds.isEmpty && !s.bit (FSM_STATUS_FROZEN k)))

/-- LNK_CMD_STAT.BUSY (R85). -/
def State.busy (s : State) (k : Nat) : Bool :=
  let l := s.link k
  s.inTraining k || l.boot.isSome || l.cmd.isSome || s.hwDue k

/-- EN = 0 ends what the command channel is at (R72, R80). -/
def State.cmdAbort (s : State) (k : Nat) : State :=
  let s := match (s.link k).cmd with
    | some c => if c.owner = CmdOwner.supervisor then (s.linkErr k 8 1).hwSet (LNK_CMD_STAT_FAIL k) else s
    | none => s
  (s.bootFail k 7 lsOFF).modLink k (fun l => { l with cmd := none })

/-- EN = 0 takes the link to OFF (R72). -/
def State.linkOff (s : State) (k : Nat) : State :=
  let training := s.trainStep k
  let s := s.cmdAbort k
  let s := if training then s.linkErr k 8 1 else s
  let s := s.linkTo k lsOFF
  s.modLink k (fun l => { l with
    offPend := false, cmd := none, fsmCmds := [], advPend := none, advAcked := none, kind := .none, tripPos := none, tripReq := false
    rd := false, rdUp := false, down := [], queue := [], badFrame := none, arrived := false, commas := 0, missed := 0, verified := false, recovering := false })

/-- TRAIN from OFF or FAILED (R72). -/
def State.linkTrain (s : State) (k : Nat) : State :=
  let s := (s.put (LNK_STATUS_STATE k) lsLOCK).putBit (LNK_CTRL_TRAIN k) true
  s.modLink k (fun l => { l with commas := 0, lockFrames := 0, missed := 0, verified := false, recovering := false, cmd := l.cmdKept, advPend := none, advAcked := none })

/-! ## The upstream frame (R69..R75, R105, R113, R117) -/

/-- ROLE_OK in a valid frame (R89, R105). -/
def State.trackRole (s : State) (k : Nat) (u : UpData) : State :=
  let ok := stRoleOk u.st
  let s := s.putBit (LNK_STATUS_ROLE_OK k) ok
  let boot := s.get (LNK_STATUS_BOOT k)
  if ok then s.modLink k (fun l => { l with roleEp := false })
  else if s.trained k && (boot == 0 || boot == 6) then
    let s := s.inc LNK_CNT_ROLEX_COUNT
    if (s.link k).roleEp then s
    else ((s.raiseN (64 + k) 0x04 u.st.toNat).detect (96 + k)).modLink k (fun l => { l with roleEp := true })
  else s

/-- AUTONOMOUS in a valid frame on a trained link (R110, R111, R117). -/
def State.trackAuton (s : State) (k : Nat) (u : UpData) : State :=
  let au := stAuton u.st
  let first := !(s.link k).firstSeen
  let s := s.modLink k (fun l => { l with firstSeen := true })
  if au then
    let s := if (s.link k).autonEp then s
      else ((s.raiseN (64 + k) 0x07 u.st.toNat).inc LNK_CNT_AUTON_COUNT).modLink k (fun l => { l with autonEp := true })
    if s.holder then s.setBm LNK_SEIZED k false else s
  else
    let s := if (s.link k).autonEp then (s.raiseN (64 + k) 0x08 u.st.toNat).modLink k (fun l => { l with autonEp := false }) else s
    if first && s.holder then s.startSeize k 2 else s

/-- AUTH_OK in a valid frame (R113, R345). -/
def State.trackAuth (s : State) (k : Nat) (u : UpData) (skip : Bool) : State :=
  let ok := stAuthOk u.st
  let s := s.setBm LNK_AUTHOK k ok
  if ok then s.modLink k (fun l => { l with authEp := false, reject := false })
  else if s.holder && s.seized k && !skip then
    let s := (s.inc LNK_CNT_AUTHX_COUNT).modLink k (fun l => { l with reject := true })
    if (s.link k).authEp then s
    else ((s.raiseN (64 + k) 0x05 u.st.toNat).detect (96 + k)).modLink k (fun l => { l with authEp := true })
  else s

/-- What the ST of a valid frame drives. Frames that R553 disregards count for nothing of authority and autonomy. A frame that
shows AUTONOMOUS = 1 and AUTH_OK = 0 on a seized link unseizes it first and is then not counted as a reject: the model's
choice (log entry 90). -/
def State.trackSt (s : State) (k : Nat) (u : UpData) : State :=
  let skip := (s.link k).disregards s.arrivalAt
  let s := s.putBit (LNK_STATUS_AUTONOMOUS k) (stAuton u.st)
  let s := s.trackRole k u
  let s := if s.trained k && !(skip && stAuton u.st) then s.trackAuton k u else s
  let s := s.trackAuth k u skip
  let s := if s.trained k && !s.holder then
      s.modLink k (fun l => { l with auditValid := l.auditValid + 1, auditOk := l.auditOk || stAuthOk u.st })
    else s
  s.modLink k (fun l => { l with autonLast := stAuton u.st })

/-- The loader map's own values (R79, R89, R551). -/
def State.trackLoader (s : State) (k : Nat) (u : UpData) : State :=
  if stRoleOk u.st then s
  else if u.sq.toNat % 16 = 1 then s.modLink k (fun l => { l with ramKib := some u.x.toNat })
  else if u.sq.toNat % 16 = 2 then s.putBit (LNK_STATUS_IMAGE_VALID k) (u.x.getLsbD 0)
  else s

/-- The upstream queue takes a valid frame; full, it loses its oldest entry (R34). -/
def State.queueUp (s : State) (k : Nat) (u : UpData) : State :=
  let q := (s.link k).queue
  let s := if 4 ≤ q.length then s.inc (LNK_CNT_OVF_COUNT k) else s
  let q := if 4 ≤ q.length then q.drop 1 else q
  let e := s.queueEntry 64 k u
  e.1.modLink k (fun l => { l with queue := q ++ [e.2] })

/-- Comma lock and loss (R70, R72, R75). -/
def State.trackComma (s : State) (k : Nat) (c : Bool) : State :=
  let st := s.lstate k
  if st == lsLOCK || st == lsLOST then
    let n := if c then (s.link k).commas + 1 else 0
    let s := s.modLink k (fun l => { l with commas := n })
    if n < 4 then s
    else if st == lsLOCK then s.linkTo k lsHELLO
    else if s.bit (LNK_CTRL_AUTO_RETRAIN k) then (s.linkTo k lsVERIFY).modLink k (fun l => { l with recovering := true })
    else s
  else
    let n := if c then 0 else (s.link k).missed + 1
    let s := s.modLink k (fun l => { l with missed := n, remeasOk := l.remeasOk && c })
    if st == lsTRAINED && n == 4 then s.arm 0 (.linkLost (Fin.ofNat 96 k)) else s

/-- A frame judged (R69): queued, or counted. A CRC that fails is noted whichever counter the frame ranks under (R23). -/
def State.takeFrame (s : State) (k : Nat) (ys : List LSym) : State :=
  let trip := (s.link k).tripped
  let s := s.modLink k (fun l => { l with tripped := false, noCmp := false })
  let s := if trip && crcFails ys then s.inc (LNK_CNT_TRIPX_COUNT k) else s
  let u := upData ys trip
  let s := if crcFails ys then s.modLink k (fun l => { l with badFrame := some u }) else s
  match judge ys s.arrival with
  | .code => s.inc (LNK_CNT_CODE_COUNT k)
  | .seq => s.inc (LNK_CNT_SEQ_COUNT k)
  | .crc => s.inc (LNK_CNT_CRC_COUNT k)
  | .good => ((s.queueUp k u).trackLoader k u).trackSt k u

/-- A whole upstream frame on link `k`. -/
def State.upstream (s : State) (k : Nat) (ys : List LSym) : State :=
  let st := s.lstate k
  if st == lsOFF || decide (s.nLinks ≤ k) then s
  else
    let s := s.modLink k (fun l => { l with arrived := true, rdUp := ys.foldl (fun r y => r ^^ flipsRd y) l.rdUp })
    let s := s.trackComma k (isComma ys)
    if st == lsLOCK then s else s.takeFrame k ys

/-- UPSTREAM_FRAME (R69). A frame has 12 symbols. -/
def execUpstreamFrame (k : Link) (f : UpFrame) (s : State) : Out :=
  if f.syms.length = 12 then ok (s.upstream k f.syms) else .refused (.illFormed "UPSTREAM_FRAME")

/-! ## Protection (R22, R59, R261, R262) -/

/-- A comparison pre-empts the downstream frame from symbol `pos` on (R59). -/
def State.preempt (s : State) (k cmp : Nat) (x : BitVec 16) (pos : Nat) : State :=
  let s := s.modLink k (fun l => { l with tripped := true })
  let s := match (s.link k).tripPos with
    | some _ => s
    | none =>
      let s := s.modLink k (fun l => { l with tripPos := some pos, auditNon := true, down := l.down.take pos ++ List.replicate (l.down.length - pos) (LSym.k K23_7) })
      let s := (s.inc (LNK_CNT_TRIP_COUNT k)).arm 0 (.protectiveAction (Fin.ofNat 96 k) .own)
      (s.raiseN (64 + k) 0x0D (cmp + x.toNat * 0x10000)).tripTrigger k
  s.feedComparator k cmp

/-- RECT links in an over-voltage or under-voltage condition, other than `k` (R363). -/
def State.otherRect (s : State) (k : Nat) (ep : LinkSt → Bool) : Bool :=
  (List.range s.nLinks).any (fun i => i != k && s.role i == rlRECT && ep (s.link i))

/-- The over-voltage comparison (R262). -/
def State.compareOv (s : State) (k : Nat) (x : BitVec 16) : State :=
  let cond := decide ((s.ovEff k : Int) < s16 x)
  let ep := (s.link k).ovEp
  let raised := cond && (s.link k).ovRaised
  let s := s.modLink k (fun l => { l with ovEp := cond, ovRaised := raised })
  if !cond then s
  else
    let s := if s.role k == rlRECT && !ep && !s.otherRect k (fun l => l.ovEp) then s.detect 74 else s
    if s.bit (LNK_PROT_CTRL_OV_ACT k) then s.preempt k 2 x 8
    else
      let s := s.hwSet (LNK_PROT_CTRL_OV_EV k)
      if s.role k == rlFEED && !raised then (s.raiseN (160 + k) 0x03 x.toNat).modLink k (fun l => { l with ovRaised := true }) else s

/-- The under-voltage comparison (R262). -/
def State.compareUv (s : State) (k : Nat) (x : BitVec 16) : State :=
  let cond := s.uvActive k && decide (s16 x < (s.uvEff k : Int))
  let ep := (s.link k).uvEp
  let raised := cond && (s.link k).uvRaised
  let s := s.modLink k (fun l => { l with uvEp := cond, uvRaised := raised })
  if !cond then s
  else
    let s := if s.role k == rlRECT && !ep && !s.otherRect k (fun l => l.uvEp) then s.detect 73 else s
    if s.bit (LNK_PROT_CTRL_UV_ACT k) then s.preempt k 3 x 8
    else
      let s := s.hwSet (LNK_PROT_CTRL_UV_EV k)
      if s.role k == rlFEED && !raised then (s.raiseN (160 + k) 0x04 x.toNat).modLink k (fun l => { l with uvRaised := true }) else s

/-- The fast-trip comparison (R261). -/
def State.compareI (s : State) (k : Nat) (x : BitVec 16) : State :=
  let ft : Int := s.ftEff k
  if ft < s16 x || s16 x < -ft then s.preempt k 1 x 6 else s

/-- PROTECTION_COMPARE (R22): the I or the V field of an upstream frame is decoded, the I field first. A frame with a bad
S2 or S3 is not compared at all. -/
def execProtectionCompare (k : Link) (vField : Bool) (x : BitVec 16) (bad : Bool) (s : State) : Out :=
  let s := if vField then s else s.modLink k (fun l => { l with tripped := false, noCmp := bad })
  if !s.trained k || s.bit FCU_STAT_TX_OFF || bad || (s.link k).noCmp then ok s
  else if vField then ok ((s.compareOv k x).compareUv k x)
  else ok (s.compareI k x)

/-! ## The command channel (R63..R65, R85) -/

/-- A command enters the channel. -/
def State.putCmd (s : State) (k : Nat) (owner : CmdOwner) (op : BitVec 8) (arg : BitVec 16) : State :=
  s.modLink k (fun l => { l with cmd := some { owner := owner, op := op, arg := arg, waits := l.seize.isSome && l.boot.isNone } })

/-- The bootstrap command a member owes at its step (R76). -/
def State.bootCmd (s : State) (k : Nat) : Option (BitVec 8 × BitVec 16) :=
  match (s.link k).boot with
  | none => none
  | some m =>
    match s.get (LNK_STATUS_BOOT k) with
    | 2 => if m.acked then none else some (0x03, BitVec.ofNat 16 (s.get ⟨LNK_BIMG_LEN m.round, 15, 0⟩))
    | 4 => some (0x04, BitVec.ofNat 16 (s.get (LNK_BOOT_THOLD_MS k)))
    | 5 => if m.done then none else some (0x05, BitVec.ofNat 16 (s.role k))
    | _ => none

/-- The next command of a free channel, by the precedence of R85. -/
def State.nextCmd (s : State) (k : Nat) : State :=
  let l := s.link k
  if l.cmd.isSome || (l.seize.isSome && l.boot.isNone) || s.safe then s
  else if s.lstate k == lsHELLO then s.putCmd k .training 0x01 0
  else if s.lstate k == lsADVANCE && l.advAcked.isNone then
    match l.advPend with
    | some d => if s.advWindow then s.putCmd k .training 0x02 (BitVec.ofNat 16 d) else s
    | none => s
  else if !s.trained k then s
  else
    match s.bootCmd k with
    | some (op, arg) => s.putCmd k .bootstrap op arg
    | none =>
      if l.boot.isSome then s
      else
        match l.advPend, s.advWindow with
        | some d, true => (s.putCmd k .remeasure 0x02 (BitVec.ofNat 16 d)).modLink k (fun l => { l with advPend := none })
        | _, _ =>
          match l.fsmCmds with
          | (op, arg) :: t => if (s.bit (FSM_STATUS_FROZEN k)) then s else (s.putCmd k .fsm op arg).modLink k (fun l => { l with fsmCmds := t })
          | [] => s

/-- A toggle of CMD_ACK is seen (R64): what the acknowledgement brings. -/
def State.cmdAcked (s : State) (k : Nat) (c : Cmd) : State :=
  let s := s.modLink k (fun l => { l with cmd := some { c with acked := true } })
  match c.owner with
  | .supervisor => (if c.op = 0x11 then s.feedCleared k else s).hwSet (LNK_CMD_STAT_DONE k)
  | .fsm => s
  | .remeasure => s.put (LNK_TIMING_ADV k) c.arg.toNat
  | .training =>
    if c.op = 0x01 then s.linkTo k lsMEASURE
    else (s.put (LNK_TIMING_ADV k) c.arg.toNat).modLink k (fun l => { l with advAcked := some c.arg.toNat, advPend := none })
  | .bootstrap =>
    if c.op = 0x03 then
      (s.put (LNK_STATUS_BOOT k) 1).modLink k (fun l => { l with boot := l.boot.map (fun m => { m with acked := true }) })
    else if c.op = 0x05 then
      let s := s.modLink k (fun l => { l with boot := l.boot.map (fun m => { m with done := true, outcome := 0, loaderErr := 0 }) })
      if s.holder then s.startSeize k 2 else s
    else s

/-- The NOP frame that closes a command has left (R64). -/
def State.cmdClosed (s : State) (k : Nat) : State :=
  match (s.link k).cmd with
  | none => s
  | some c =>
    let s := s.modLink k (fun l => { l with cmd := none })
    if c.owner = CmdOwner.bootstrap then
      if c.op = 0x04 then s.put (LNK_STATUS_BOOT k) 5
      else if c.op = 0x03 then s.modLink k (fun l => { l with boot := l.boot.map (fun m => { m with closed := true }) })
      else s
    else s

/-- Frames after which a command without a toggle has failed (R64). -/
def State.cmdLimit (s : State) (k : Nat) (c : Cmd) : Nat :=
  if c.op = 0x05 then 16 * s.get (LNK_WDOG_BOOT_TMO k) else s.get (LNK_WDOG_CMD_TMO k)

/-- A command fails with TIMEOUT (R64). -/
def State.cmdTimeout (s : State) (k : Nat) (c : Cmd) : State :=
  let s := s.linkErr k 4 c.op.toNat
  let s := s.modLink k (fun l => { l with cmd := none })
  match c.owner with
  | .supervisor => s.hwSet (LNK_CMD_STAT_FAIL k)
  | .training => s.trainFail k
  | .bootstrap => s.bootLeave k 7
  | _ => s

/-- CMD_TIMEOUT (R64): the command's frames have all gone out, and the consumer cycle of the last one has brought no toggle
either (R5, R81). -/
def execCmdTimeout (k : Link) (s : State) : Out :=
  let s := s.disarm (.cmdTimeout k)
  match (s.link k).cmd with
  | some c => if !c.acked && decide (s.cmdLimit k c ≤ c.frames) then ok (s.cmdTimeout k c) else ok s
  | none => ok s

/-! ## Training steps (R72..R75) -/

/-- LOCK_TIMEOUT (R72): 1024 link frames in LOCK. -/
def execLockTimeout (k : Link) (s : State) : Out :=
  let s := s.disarm (.lockTimeout k)
  if s.lstate k == lsLOCK && decide (1024 ≤ (s.link k).lockFrames) then ok ((s.linkErrOpen k 7).trainFail k) else ok s

/-- Half of a round trip, to the nearest unit, ties up (R73). -/
def halfUp (x : Int) : Int := (x + 1) / 2

/-- MEASURE_DONE (R73): the mean round trip of 16 frames; above 2047, RTT holds 2047 (log entry 28). -/
def execMeasureDone (k : Link) (mean : Nat) (s : State) : Out :=
  if s.lstate k == lsMEASURE then
    let s := s.put (LNK_TIMING_RTT k) (min mean 2047)
    let d := (halfUp mean).toNat
    if 400 < d then ok ((s.linkErr k 2 mean).trainFail k)
    else ok ((s.linkTo k lsADVANCE).modLink k (fun l => { l with advPend := some d, advAcked := none }))
  else ok s

/-- VERIFY_DONE (R74, R75): the mean offset of 16 frames; OFS holds its low 8 bits (log entry 28). -/
def execVerifyDone (k : Link) (mean : Int) (s : State) : Out :=
  if s.lstate k == lsVERIFY then
    let s := s.put (LNK_TIMING_OFS k) (ofInt 8 mean)
    if -2 ≤ mean && mean ≤ 2 then ok (s.enterTrained k)
    else if (s.link k).verified then ok ((s.linkErrOpen k 6).trainFail k)
    else ok ((s.linkTo k lsMEASURE).modLink k (fun l => { l with verified := true }))
  else ok s

/-- A re-measured link stores its offset, and sends its new advance when it has changed by more than 2 units (R38, R74); in
the safe state it sends none (R552). The rounding of OFS / 2 and an offset beyond 8 bits: log entry 28. -/
def State.remeasured (s : State) (k : Nat) (mean : Int) : State :=
  let s := s.put (LNK_TIMING_OFS k) (ofInt 8 mean)
  let d : Int := s.get (LNK_TIMING_ADV k)
  let dn := d + halfUp mean
  if -4 ≤ mean && mean ≤ 4 then s
  else if 0 ≤ dn && dn ≤ 400 then (if s.safe then s else (s.takeChannel k).modLink k (fun l => { l with advPend := some dn.toNat }))
  else s.linkErr k 2 (ofInt 16 dn)

/-- REMEASURE (R38): the re-measurement of link `k` over link frames 0..15 gave the mean offset `mean`. -/
def execRemeasure (k : Link) (mean : Int) (s : State) : Out :=
  let l := s.link k
  if l.remeasOn then
    let s := s.modLink k (fun l => { l with remeasOn := false })
    if l.remeasOk && s.trained k then ok (s.remeasured k mean) else ok s
  else ok s

/-- The links that a major frame with MFN mod 1024 = 0 re-measures (R38). -/
def State.remeasStart (s : State) (k : Nat) : State :=
  if s.mfn % 1024 == 0 && s.trained k && s.bit (LNK_CTRL_AUTO_REMEAS k) then
    s.modLink k (fun l => { l with remeasOn := true, remeasOk := true })
  else s

/-- An acknowledged advance is applied at frame 0 (R72). -/
def State.advApply (s : State) (k : Nat) : State :=
  if s.lstate k == lsADVANCE && (s.link k).advAcked.isSome then
    (s.linkTo k lsVERIFY).modLink k (fun l => { l with advAcked := none })
  else s

/-- LINK_LOST (R70): four frames without the expected comma. -/
def execLinkLost (k : Link) (s : State) : Out :=
  let s := s.disarm (.linkLost k)
  if s.trained k && decide (4 ≤ (s.link k).missed) then
    let s := s.hwSet (LNK_STATUS_LOST_EV k)
    let s := (s.raiseN (64 + k) 0x01 (s.get (LNK_STATUS_STALE_CNT k))).detect (96 + k)
    ok ((s.linkTo k lsLOST).modLink k (fun l => { l with commas := 0, missed := 0 }))
  else ok s

/-- LINK_WDOG (R83): the stale count has reached LIMIT. -/
def execLinkWdog (k : Link) (s : State) : Out :=
  let s := s.disarm (.linkWdog k)
  let lim := s.get (LNK_WDOG_LIMIT k)
  if s.trained k && lim != 0 && decide (lim ≤ s.get (LNK_STATUS_STALE_CNT k)) && !(s.link k).wdogEp then
    let s := (s.hwSet (LNK_STATUS_WDOG k)).modLink k (fun l => { l with wdogEp := true })
    ok (((s.raiseN (64 + k) 0x02 lim).detect (96 + k)).feedFreeze k)
  else ok s

/-! ## Seizes and audits (R111, R113, R119) -/

/-- SEIZE_FAIL (R111): four seize frames without the unpre-empted ones it needs. -/
def execSeizeFail (k : Link) (s : State) : Out :=
  let s := s.disarm (.seizeFail k)
  match (s.link k).seize with
  | some z =>
    if 4 ≤ z.sent then ok (((s.setSeize k none).raiseN (64 + k) 0x0A s.epoch).detect (96 + k)) else ok s
  | none => ok s

/-- One bit of LNK_RESEIZE written 1 (R111, R119). -/
def State.reseize (s : State) (k : Nat) : State :=
  if s.trained k && s.holder then (if (s.link k).seize.isSome then s else s.startSeize k 2)
  else (s.raiseN (64 + k) 0x0A s.epoch).detect (96 + k)

/-- LNK_RESEIZE w. -/
def State.wReseize (w : Nat) (v : Word) (s : State) : State :=
  s.forN 32 (fun i t => if tb v i && decide (32 * w + i < t.nLinks) then t.reseize (32 * w + i) else t)

/-- RESEIZE (R111). -/
def execReseize (who : Who) (w : Fin 3) (v : Word) (s : State) : Out :=
  ok (s.busWrite who (LNK_RESEIZE w) v (State.wReseize w v))

/-- The end of an audit cycle on a link (R113). -/
def State.auditLink (s : State) (k : Nat) : State :=
  let l := s.link k
  let s := s.modLink k (fun l => { l with auditValid := 0, auditOk := false })
  if !s.trained k || s.holder || l.auditValid == 0 || l.auditBad then s
  else if l.auditOk then (s.setBm LNK_AUDITOK k true).modLink k (fun l => { l with auditEp := false })
  else
    let s := (s.setBm LNK_AUDITOK k false).inc LNK_CNT_AUDITX_COUNT
    if l.auditEp then s
    else ((s.raiseN (64 + k) 0x06 l.auditValid).detect (96 + k)).modLink k (fun l => { l with auditEp := true })

/-- AUDIT_CYCLE (R113). -/
def execAuditCycle (s : State) : Out := ok (s.forN s.nLinks (fun k t => t.auditLink k))

/-! ## Authority in force (R106, R110, R111, R118, R120) -/

/-- `LNK_EPOCH` changes: EPOCH_CHANGE on every trained link whose epoch changed; a falling HOLDER unseizes every link, a
rising one makes a seize of `need` frames pending where R111 asks for it. -/
def State.setAuthority (s : State) (holder : Bool) (epoch need : Nat) : State :=
  let was := s.holder
  let changed := epoch != s.epoch
  let s := (s.putBit LNK_EPOCH_HOLDER holder).put ⟨LNK_EPOCH, 15, 0⟩ epoch
  s.forN s.nLinks (fun k t =>
    let t := if changed && t.trained k then t.raiseN (64 + k) 0x0B epoch else t
    if was && !holder then (t.setSeize k none).setBm LNK_SEIZED k false
    else if !was && holder && t.trained k && !(t.link k).autonLast then t.startSeize k need
    else t)

/-! ## Bootstrap rounds (R76..R80) -/

/-- LNK_BERR takes a code and a value; ERR goes to the source of link `k` (R98). -/
def State.bootErr (s : State) (k code value : Nat) : State :=
  let s := ((s.put ⟨LNK_BERR, 31, 16⟩ value).hwSet LNK_BERR_ERRV).put ⟨LNK_BERR, 3, 0⟩ code
  s.raiseN (64 + k) 0x03 (code + value % 0x10000 * 0x10000)

/-- GO of round `n` is written 1 (R76, R98). -/
def State.bootGo (s : State) (n : Nat) : State :=
  if s.bit ⟨LNK_BGO, n, n⟩ then s.bootErr ((s.members n).headD 0) 3 n
  else (s.putBit ⟨LNK_BGO, n, n⟩ true).setRound n { step := .requested }

/-- Links that a round of descriptor `n` would take now (R76). -/
def State.candidates (s : State) (n : Nat) : List Nat :=
  (List.range s.nLinks).filter (fun k => s.bit (LNK_BOOT_EN k) && s.get (LNK_BOOT_DESC k) == n && s.trained k && (s.link k).boot.isNone)

/-- A block of `len` bytes lies wholly in DTCM or in the xSPI read window (R76). -/
def imageInside (a len : Nat) : Bool :=
  (decide (0x18000000 ≤ a) && decide (a + len ≤ 0x18040000)) || (decide (0x20000000 ≤ a) && decide (a + len ≤ 0x30000000))

/-- Block `b` of round `n` is read, once for all its members (R76, R77). -/
def State.blockTo (s : State) (n b : Nat) : State :=
  let r := s.round n
  let a := r.addr + 8 * b
  let x := if a < 0x20000000 then s.dtcmFetch a 8 else (s, readBytes erasedByte s.flash (a - 0x20000000) 8)
  x.1.setRound n { r with step := .blocks b, data := x.2 }

/-- A candidate joins the round, unless its RAM is too small (R79). -/
def State.bootJoin (s : State) (n len k : Nat) : State :=
  let fits := match (s.link k).ramKib with | some r => decide (8 * len ≤ 1024 * r) | none => true
  if fits then
    ((s.takeChannel k).put (LNK_STATUS_BOOT k) (if len = 0 then 4 else 2)).modLink k (fun l => { l with boot := some { round := n } })
  else (s.linkErr k 1 len).put (LNK_STATUS_BOOT k) 7

/-- Round `n` starts (R76, R79). -/
def State.roundStart (s : State) (n : Nat) : State :=
  let a := s.get ⟨LNK_BIMG_ADDR n, 31, 3⟩ * 8
  let len := s.get ⟨LNK_BIMG_LEN n, 15, 0⟩
  let ks := s.candidates n
  if len != 0 && !imageInside a (8 * len) then (s.bootErr (ks.headD 0) 2 (a / 0x10000)).roundEnd n
  else
    let s := ks.foldl (fun t k => t.bootJoin n len k) s
    if (s.members n).isEmpty then s.roundEnd n
    else s.setRound n { step := if len = 0 then .closing else .starting, addr := a, len := len }

/-- BOOT_ROUND_START (R76). The safe state starts no round. -/
def execBootRoundStart (n : Fin 4) (s : State) : Out :=
  let s := s.disarm (.bootRoundStart n)
  if (s.round n).step = .requested && !s.safe then ok (s.roundStart n) else ok s

/-- Every member of round `n` takes a BOOT code. -/
def State.membersTo (s : State) (n code : Nat) (p : BootMember → Bool) : State :=
  (s.members n).foldl (fun t k => if (match (t.link k).boot with | some m => p m | none => false) then t.put (LNK_STATUS_BOOT k) code else t) s

/-- What a round does before the next downstream frame (R76, R77). The wait for the acknowledgements is over when the last
member has acknowledged BOOT_START or, its CMD_TMO having expired, left the round (R64, R80). -/
def State.roundStep (s : State) (n : Nat) : State :=
  let r := s.round n
  match r.step with
  | .starting =>
    if (s.members n).all (fun k => match (s.link k).boot with | some m => m.closed | none => true)
      then (s.blockTo n 0).membersTo n 3 (fun m => m.acked) else s
  | .blocks b =>
    if b + 1 < r.len then s.blockTo n (b + 1)
    else (s.setRound n { r with step := .closing }).membersTo n 4 (fun m => m.acked)
  | _ => s

/-- BOOT_OUTCOME (R77): 16 link frames after the toggle without ROLE_OK = 1. -/
def execBootOutcome (k : Link) (s : State) : Out :=
  let s := s.disarm (.bootOutcome k)
  match (s.link k).boot with
  | some m => if m.done && decide (16 ≤ m.outcome) then ok (s.bootFail k 5 m.loaderErr) else ok s
  | none => ok s

/-- A member's consumer cycle after the BOOT_DONE toggle (R77). -/
def State.bootWatch (s : State) (k : Nat) (fresh : Bool) : State :=
  match (s.link k).boot with
  | some m =>
    if !m.done then s
    else
      let u := (s.link k).mb.data
      if fresh && stRoleOk u.st then s.bootLeave k 6
      else
        let e := if fresh && u.sq.toNat % 16 == 4 then u.x.toNat else m.loaderErr
        let s := s.modLink k (fun l => { l with boot := some { m with outcome := m.outcome + 1, loaderErr := e } })
        if m.outcome = 15 then s.arm 0 (.bootOutcome (Fin.ofNat 96 k)) else s
  | none => s

/-! ## The downstream frame (R55, R60, R61, R64, R110) -/

/-- HD (R55). -/
def State.hd (s : State) (k : Nat) (auth audit : Bool) : Byte :=
  BitVec.ofNat 8 (s.role k * 0x40 + (if auth then 0x20 else 0) + (if audit then 0x10 else 0) + s.lf % 16)

/-- A frame of 12 symbols from S1..S4, the actuation fields and S10, with its CRC (R55, R61). -/
def frameSyms (s1 s2 : LSym) (arg : BitVec 16) (act : ActCopy) (s10 : Byte) : List LSym :=
  let body := [s1, s2, .d (arg.extractLsb' 8 8), .d (arg.extractLsb' 0 8), .d (act.acta.extractLsb' 8 8), .d (act.acta.extractLsb' 0 8),
    .d (act.actb.extractLsb' 8 8), .d (act.actb.extractLsb' 0 8), .d act.bgt, .d s10]
  (.k K28_5 :: body) ++ [.d (BitVec.ofNat 8 (crc8 (body.map LSym.val)))]

/-- A bootstrap-block frame (R60). -/
def blockSyms (bs : List Byte) (b : Nat) : List LSym :=
  let body := .k K30_7 :: (bs.map LSym.d ++ [.d (BitVec.ofNat 8 b)])
  (.k K28_5 :: body) ++ [.d (BitVec.ofNat 8 (crc8 (body.map LSym.val)))]

/-- A frame with HD, CMD and ARG (R55). -/
def State.normalSyms (s : State) (k : Nat) (auth audit : Bool) (cmd : LSym) (arg : BitVec 16) (act : ActCopy) : List LSym :=
  frameSyms (.d (s.hd k auth audit)) cmd arg act (BitVec.ofNat 8 s.epoch)

/-- The command channel leaves the frame to a pending seize (R111): no command is in progress but one that waits for it, and
the link is in no bootstrap round. -/
def LinkSt.channelFree (l : LinkSt) : Bool := l.boot.isNone && (match l.cmd with | some c => c.waits | none => true)

/-- The frame of link `k` and what it is, by R110, R60, R64, R65 and, in the safe state, R372 and R552. -/
def State.frameFor (s : State) (k : Nat) (act : ActCopy) : List LSym × FrameKind :=
  let l := s.link k
  let auth := s.trained k && s.holder && s.seized k
  let nop : LSym := .d 0
  let plain := (s.normalSyms k auth false nop 0 act, FrameKind.normal)
  let audit := (s.normalSyms k false true (.k K29_7) 0 act, FrameKind.audit)
  let idle := if s.trained k && !s.holder then audit else plain
  let block := match l.boot with
    | some m => if m.acked then (match (s.round m.round).step with | .blocks b => some (b, (s.round m.round).data) | _ => none) else none
    | none => none
  if s.safe then idle
  else
    match block with
    | some (b, bs) => (blockSyms bs b, .block)
    | none =>
      let seizeDue := l.seize.any (fun z => z.ready && decide (z.sent < 4)) && s.trained k && s.holder && l.channelFree
      if seizeDue then
        (frameSyms (.k K27_7) (.d (BitVec.ofNat 8 (s.epoch / 256))) (BitVec.ofNat 16 (s.epoch % 256 * 256)) act (BitVec.ofNat 8 s.epoch), .seize)
      else
        match l.cmd with
        | some c =>
          if c.waits && l.seize.isSome then idle
          else if c.acked then (s.normalSyms k auth false nop 0 act, .close)
          else if c.op = 0x02 ∧ s.lf < 17 then plain
          else (s.normalSyms k auth false (.d c.op) c.arg act, .cmd)
        | none => idle

/-- The seize frame that has left counts, unless a trip pre-empted it (R111, R553). -/
def State.seizeFrameLeft (s : State) (k : Nat) (whole : Bool) : State :=
  match (s.link k).seize with
  | none => s
  | some z =>
    let z := { z with need := if whole then z.need - 1 else z.need, sent := z.sent + 1 }
    if z.need = 0 then
      let s := (s.setSeize k none).setBm LNK_SEIZED k true
      (s.modLink k (fun l => { l with disregard := some s.clk.now, reject := false })).raiseN (64 + k) 0x09 s.epoch
    else
      let s := s.setSeize k (some z)
      if 4 ≤ z.sent then s.arm 0 (.seizeFail (Fin.ofNat 96 k)) else s

/-- What the end of a link's downstream frame brings (R52, R64, R111, R351, R553). -/
def State.frameEnd (s : State) (k : Nat) : State :=
  let l := s.link k
  let s := s.modLink k (fun l => { l with
    kind := .none, tripPos := none, down := []
    rd := l.down.foldl (fun r y => r ^^ flipsRd y) l.rd
    sentActs := ((if l.tripPos.isNone && l.kind != .none && l.kind != .block
      then some (l.last.acta, l.last.actb) else none) :: l.sentActs).take 5 })
  let whole := l.tripPos.isNone
  match l.kind with
  | .seize => s.seizeFrameLeft k whole
  | .close => s.cmdClosed k
  | .cmd =>
    match l.cmd with
    | some c =>
      let c := if whole || c.op = 0x05 then { c with frames := c.frames + 1 } else c
      let s := s.modLink k (fun l => { l with cmd := some c })
      if !c.acked && decide (s.cmdLimit k c ≤ c.frames) then s.arm 8 (.cmdTimeout (Fin.ofNat 96 k)) else s
    | none => s
  | _ => s

/-- The next actuation values of a link: the oldest copy, else those of the last frame (R84). -/
def State.nextAct (s : State) (k : Nat) : ActCopy × List (Entry ActCopy) :=
  match (s.link k).copies with
  | a :: t => (a.val, t)
  | [] => ((s.link k).last, [])

/-- Link `k` sends no frame in this link frame: the copy made for it and the trip asked for it are over with it (R34, R263). -/
def State.skipFrame (s : State) (k : Nat) : State := s.modLink k (fun l => { l with copies := l.copies.drop 1, tripReq := false })

/-- Link `k` sends its frame of this link frame (R55, R59, R113, R263). -/
def State.sendFrame (s : State) (k : Nat) : State :=
  let a := s.nextAct k
  let f := s.frameFor k a.1
  let l := s.link k
  let req := l.tripReq
  let syms := if req then f.1.take 1 ++ List.replicate 11 (LSym.k K23_7) else f.1
  let cmd := match l.cmd with
    | some c => if f.2 = .cmd && !c.sent then some { c with sent := true, base := l.ack } else some c
    | none => none
  let first := s.lf % 16 == 0
  let s := if f.2 = .cmd && l.cmd.any (fun c => !c.sent && c.op == 0x11) then s.modFeed k (fun f => { f with kAfter := false }) else s
  let s := s.setLink k { l with
    auditNon := (!first && l.auditNon) || f.2 != .audit || req, auditBad := if first then l.auditNon else l.auditBad
    last := a.1, copies := a.2, down := syms, kind := f.2, tripPos := if req then some 1 else none, tripReq := false, cmd := cmd }
  if req then ((s.inc (LNK_CNT_TRIP_COUNT k)).arm 0 (.protectiveAction (Fin.ofNat 96 k) .own)).tripTrigger k else s

/-- A link that was disabled goes OFF; one in LOCK counts the link frame (R72). -/
def State.linkFrameStart (s : State) (k : Nat) : State :=
  let s := if (s.link k).offPend then s.linkOff k else s
  if s.lstate k == lsLOCK then
    let s := s.modLink k (fun l => { l with lockFrames := l.lockFrames + 1 })
    if (s.link k).lockFrames = 1024 then s.arm 0 (.lockTimeout (Fin.ofNat 96 k)) else s
  else s

/-- What the safe state ends on link `k` (R552). -/
def State.safeLink (s : State) (k : Nat) : State :=
  let s := s.setSeize k none
  let s := match (s.link k).cmd with
    | some c => if c.owner = CmdOwner.supervisor then (s.linkErr k 8 2).hwSet (LNK_CMD_STAT_FAIL k) else s
    | none => s
  let s := if s.lstate k == lsHELLO || s.lstate k == lsADVANCE then (s.linkErr k 8 2).trainFail k else s
  let s := s.bootFail k 8 2
  s.modLink k (fun l => { l with cmd := none, advPend := none })

/-- In the safe state the links send HOLD or audit frames until the transmitters stop, and no operation that needs a
command goes on (R372, R552). -/
def State.safeLinks (s : State) : State :=
  if s.safe then (s.forN s.nLinks (fun k t => t.safeLink k)).putBit FCU_STAT_HOLDING (!s.bit FCU_STAT_TX_OFF) else s

/-- The links' part of the start of a link frame: the frames before it end, the rounds go on, and every transmitting link
sends. -/
def State.downstream (s : State) (rx : List CompRx) : State :=
  let s := s.forN s.nLinks (fun k t =>
    let l := t.link k
    (if t.sending k || l.kind != .none then t.frameEnd k else t).compReceive k (received rx k .own (if l.kind = .none then [] else l.down)) (received rx k .twin []))
  let s := s.safeLinks
  let s := s.forN s.nLinks (fun k t => t.linkFrameStart k)
  let s := s.forN 4 (fun n t => t.roundStep n)
  s.forN s.nLinks (fun k t => if t.sending k then (t.nextCmd k).sendFrame k else t.skipFrame k)

/-! ## The mailbox's part of the consumer cycle (R23, R34, R81, R82, R551) -/

/-- Whether a slot of the map in force is signed (R67). -/
def slotSigned (loader : Bool) (role slot : Nat) : Bool :=
  if loader then false
  else if role = rlFEED then [0, 1, 2, 3, 4, 5, 8].contains slot
  else if role = rlRECT then [2, 3, 4].contains slot
  else if role = rlBATT then [0, 1, 2, 3, 4].contains slot
  else false

/-- Strobe of the samples that become current in link frame `m`, and its major frame (R57, R82). -/
def State.strobe (s : State) : Nat × Nat :=
  let m := s.lf
  ((m + 30) % 32, if m < 2 then (s.mfn + 0xFFFFFFFF) % 0x100000000 else s.mfn)

/-- CMD_ACK of a valid frame: a toggle acknowledges the command in progress (R64). -/
def State.seeAck (s : State) (k : Nat) (u : UpData) : State :=
  let ackNow := stAck u.st
  let s := match (s.link k).cmd with
    | some c => if c.sent && !c.acked && c.base != ackNow then s.cmdAcked k c else s
    | none => s
  s.modLink k (fun l => { l with ack := ackNow })

/-- A frame becomes current in link `k`'s mailbox. -/
def State.mailFresh (s : State) (k : Nat) (u : UpData) : State :=
  let slot := u.sq.toNat % 16
  let x := if slotSigned (!stRoleOk u.st) (s.role k) slot then sext16 u.x else zext16 u.x
  let tr := s.trained k
  let j := s.strobe
  let s := s.put (LNK_STATUS_STALE_CNT k) 0
  let s := s.modLink k (fun l => { l with wdogEp := false, mb := { l.mb with
    stale := false, novalid := l.mb.novalid && !tr, strobe := BitVec.ofNat 5 j.1, mfn := BitVec.ofNat 32 j.2, data := u
    aux := SMap.set (fun _ => 0) l.mb.aux slot x } })
  s.seeAck k u

/-- No frame: the interval of link `k` is stale (R81, R83). -/
def State.mailStale (s : State) (k : Nat) : State :=
  let crc := (s.link k).badFrame.isSome
  let s := s.inc (LNK_STATUS_STALE_CNT k)
  let s := s.modLink k (fun l => { l with mb := { l.mb with stale := true, crcf := crc } })
  let lim := s.get (LNK_WDOG_LIMIT k)
  if s.trained k && lim != 0 && decide (lim ≤ s.get (LNK_STATUS_STALE_CNT k)) && !(s.link k).wdogEp then s.arm 0 (.linkWdog (Fin.ofNat 96 k)) else s

/-- Before a link is TRAINED its frames come too late to become current (R73, R554), and their toggles are seen in the
consumer cycle that discards them (log entry 11). -/
def State.lateAck (s : State) (k : Nat) (q : List UpData) : State :=
  if s.trained k then s
  else match q.getLast? with
    | some u => s.seeAck k u
    | none => s

/-- A link frame that brought no frame brought no comma either (R70). -/
def State.mailSilent (s : State) (k : Nat) : State :=
  let l := s.link k
  let s := s.modLink k (fun l => { l with arrived := false })
  if l.arrived || s.lstate k == lsOFF then s else s.trackComma k false

/-- The upstream queue of link `k` is read: the entries that can be, and a detection for each that cannot (R34). -/
def State.readQueue (s : State) (k : Nat) : State × List UpData :=
  let q := (s.link k).queue
  let bad := (q.filter (fun e => !e.good)).length
  let s := s.modLink k (fun l => { l with queue := [], mbPrev := if s.feedXfer then l.mb else {} })
  (s.forN bad (fun _ t => t.detect 53), (q.filter Entry.good).map (·.val))

/-- The new frame is written into the buffer that is not current; one that cannot be read there does not become current
(R361). -/
def State.mailCode (s : State) (k : Nat) : State × Bool :=
  let e := s.queueEntry 66 k ()
  if e.2.good then (e.1, true) else (e.1.detect 53, false)

/-- Link `k` at its consumer cycle: the newest matching frame becomes current (R81). The frames that follow the BOOT_DONE
toggle count for the outcome (R77). -/
def State.mailUpdate (s : State) (k : Nat) : State × Bool :=
  let s := s.mailSilent k
  let watched := match (s.link k).boot with | some m => m.done | none => false
  let watch := fun (s : State) (fresh : Bool) => if watched then s.bootWatch k fresh else s
  let r := s.readQueue k
  let good := (r.2.filter (fun u => u.sq.toNat / 16 == (s.lf + 31) % 16)).getLast?
  let s := r.1.incBy (LNK_CNT_LATE_COUNT k) (r.2.length - (if good.isSome then 1 else 0))
  match good with
  | some u =>
    let c := s.mailCode k
    if c.2 then (watch (c.1.mailFresh k u) true, true) else (watch (c.1.mailStale k) false, false)
  | none => (watch ((s.mailStale k).lateAck k r.2) false, false)

/-! ## Register operations (R84, R85, R88, R90, R93, R98) -/

/-- The seven counters of a link and the four global ones (R88, R119). -/
def State.clearLinkCounters (s : State) (k : Nat) : State :=
  let s := [LNK_CNT_CRC_COUNT k, LNK_CNT_CODE_COUNT k, LNK_CNT_SEQ_COUNT k, LNK_CNT_TRIPX_COUNT k, LNK_CNT_OVF_COUNT k,
    LNK_CNT_LATE_COUNT k, LNK_CNT_TRIP_COUNT k].foldl (fun t f => t.put f 0) s
  [LNK_CNT_ROLEX_COUNT, LNK_CNT_AUTHX_COUNT, LNK_CNT_AUDITX_COUNT, LNK_CNT_AUTON_COUNT].foldl (fun t f => t.put f 0) s

/-- LNK_CTRL (R72, R88); in SCRAPPED the link stays off (R437). -/
def State.wLnkCtrl (k : Nat) (v : Word) (s : State) : State :=
  let old := s.role k
  let was := s.bit (LNK_CTRL_EN k)
  let st := s.lstate k
  s.regWrite (LNK_CTRL k) v (bitsOf v 13 12 == old || st == lsOFF || st == lsFAILED) (fun s =>
    let s := if tb v 15 then s.clearLinkCounters k else s
    let s := if s.role k != old then (if (s.purse k).on then (s.feedRoleGone k).purseDrop k else s.feedRoleGone k) else s
    let s := if was && !tb v 0 && st != lsOFF then (s.cmdAbort k).modLink k (fun l => { l with offPend := true })
      else if !was && tb v 0 then s.modLink k (fun l => { l with rd := false, rdUp := false }) else s
    if tb v 1 && tb v 0 && !(s.link k).offPend && (st == lsOFF || st == lsFAILED) && !s.scrapped then s.linkTrain k else s)

/-- A field of an error register that clears all three (R90, R98). -/
def State.wErr (a : Nat) (v : Word) (s : State) : State := s.clearErr ⟨a, 15, 15⟩ v

/-- A supervisor opcode that R93 lets through. -/
def cmdLegal (op arg : Nat) : Bool := (op == 0x0F && arg == 0x5A5A) || (decide (0x10 ≤ op) && decide (op ≤ 0x3F))

/-- LNK_CMD (R85, R93, R373). A reserved encoding is refused with ACCESS alone, also where R85 would refuse the write (log
entry 29). -/
def State.wLnkCmd (k : Nat) (v : Word) (s : State) : State :=
  let op := bitsOf v 7 0
  let arg := bitsOf v 23 8
  if s.safe then s.access (LNK_CMD k)
  else if op = 0 then s
  else if !cmdLegal op arg then s.access (LNK_CMD k)
  else if !s.trained k then s.linkErr k 9 (s.lstate k)
  else if s.busy k then s.linkErrOpen k 3
  else
    let old := s.word (LNK_CMD k)
    ((s.apply (LNK_CMD k) v).putCmd k .supervisor (BitVec.ofNat 8 op) (BitVec.ofNat 16 arg)).modLink k (fun l =>
      { l with cmd := l.cmd.map (fun c => { c with askedAt := s.clk.now, before := old }) })

/-- LNK_ACT (R84, R373). -/
def State.wLnkAct (k : Nat) (v : Word) (s : State) : State :=
  s.regWrite (LNK_ACT k) v (s.bit (LNK_CTRL_ACT_SRC k) && !s.safe) id

/-- LNK_BGO (R76, R98). -/
def State.wLnkBgo (v : Word) (s : State) : State := s.forN 4 (fun n t => if tb v n then t.bootGo n else t)

/-! ## Commands that are one register write -/

/-- TRAIN (R72). -/
def execTrain (who : Who) (k : Link) (v : Word) (s : State) : Out :=
  ok (s.busWrite who (LNK_CTRL k) (withBit v 1) (State.wLnkCtrl k (withBit v 1)))

/-- LINK_DISABLE (R72): the write has EN = 0. -/
def execLinkDisable (who : Who) (k : Link) (v : Word) (s : State) : Out :=
  let v := v &&& ~~~1
  ok (s.busWrite who (LNK_CTRL k) v (State.wLnkCtrl k v))

/-- LNK_CNT_CLR (R88). -/
def execLnkCntClr (who : Who) (k : Link) (v : Word) (s : State) : Out :=
  ok (s.busWrite who (LNK_CTRL k) (withBit v 15) (State.wLnkCtrl k (withBit v 15)))

/-- LNK_ACT_WRITE (R84). -/
def execLnkActWrite (who : Who) (k : Link) (v : Word) (s : State) : Out :=
  ok (s.busWrite who (LNK_ACT k) v (State.wLnkAct k v))

/-- BOOT_GO (R76). -/
def execBootGo (who : Who) (v : Word) (s : State) : Out :=
  ok (s.busWrite who LNK_BGO v (State.wLnkBgo v))

end Sys2Proof.Machine
end

