-- ==== Sys2Proof/Machine/Flags.lean ====
section
/-! DEFINITION. Machine/Flags.lean: what the Teller's operations compute from exact integers: saturation (R127), the
conditions of CMP (R168), the operations of PLOG (R169), the quotients of DIV (R172). -/

namespace Sys2Proof.Machine

/-- A value with the flag that says whether a saturation made it (R127). -/
abbrev Sat32 := BitVec 32 × Bool

/-- Saturation to −2^31..2^31 − 1. -/
def sat32 (i : Int) : Sat32 :=
  if i < -2147483648 then (BitVec.ofInt 32 (-2147483648), true)
  else if 2147483647 < i then (BitVec.ofInt 32 2147483647, true)
  else (BitVec.ofInt 32 i, false)

/-- Saturation of an accumulator to −2^63..2^63 − 1. -/
def sat64 (i : Int) : BitVec 64 × Bool :=
  if i < -9223372036854775808 then (BitVec.ofInt 64 (-9223372036854775808), true)
  else if 9223372036854775807 < i then (BitVec.ofInt 64 9223372036854775807, true)
  else (BitVec.ofInt 64 i, false)

/-- Saturation to −32768..32767 (R177). -/
def sat16 (i : Int) : BitVec 16 × Bool :=
  if i < -32768 then (BitVec.ofInt 16 (-32768), true) else if 32767 < i then (BitVec.ofInt 16 32767, true) else (BitVec.ofInt 16 i, false)

/-- Saturation of a threshold to 0..32767 (R180). -/
def satThresh (i : Int) : BitVec 15 × Bool :=
  if i < 0 then (0, true) else if 32767 < i then (32767, true) else (BitVec.ofInt 15 i, false)

/-- The conditions of CMP (R168). -/
def condHolds (c : Cond) (a b : BitVec 32) : Bool :=
  match c with
  | .eq => a == b
  | .ne => a != b
  | .lt => a.slt b
  | .ge => !a.slt b
  | .le => a.sle b
  | .gt => !a.sle b
  | .ltu => a.ult b
  | .geu => !a.ult b

/-- The operations of PLOG (R169). -/
def predOpEval (o : PredOp) (a b : Bool) : Bool :=
  match o with
  | .and => a && b
  | .or => a || b
  | .xor => a ^^ b
  | .andn => a && !b

/-- The dividend of a DIV mode (R172). -/
def divScale (m : DivMode) : Int := match m with | .int32 => 1 | .q31 => 2147483648 | .q16 => 65536

/-- DIV (R172): truncated toward zero, saturated; division by zero always sets SAT. -/
def divSat (m : DivMode) (a b : Int) : Sat32 :=
  if b = 0 then
    if 0 < a then (BitVec.ofInt 32 2147483647, true)
    else if a < 0 then (BitVec.ofInt 32 (-2147483648), true)
    else (0, true)
  else sat32 ((a * divScale m).tdiv b)

/-- The shifts take operand b as an unsigned number (R167). -/
def shl32 (a b : BitVec 32) : BitVec 32 := if b.toNat ≤ 31 then a <<< b.toNat else 0
def shr32 (a b : BitVec 32) : BitVec 32 := if b.toNat ≤ 31 then a >>> b.toNat else 0
def asr32 (a b : BitVec 32) : BitVec 32 := if b.toNat ≤ 31 then a.sshiftRight b.toNat else a.sshiftRight 31

/-- CLAMP (R170): min(max(x, a), b). -/
def clampInt (x a b : Int) : Int := min (max x a) b

/-- RAMP (R171). -/
def rampInt (x g d : Int) : Int :=
  if d ≤ 0 then x else if g - x ≤ d ∧ x - g ≤ d then g else if x < g then x + d else x - d

/-- RDA's shift and rounding (R163). -/
def rdaInt (acc : Int) (s : Nat) (rnd : Bool) : Int :=
  if rnd && decide (1 ≤ s) then (acc + 2 ^ (s - 1)) / 2 ^ s else acc / 2 ^ s

end Sys2Proof.Machine
end

