-- ==== Sys2Proof/Machine/Operands.lean ====
section
/-! DEFINITION. Machine/Operands.lean: a Teller engine's operands (R122, R132, R157, R166): registers, predicates, guards;
whether it issues in this cycle; results on their way (R128..R131). -/

namespace Sys2Proof.Machine

/-! ## Registers -/

/-- Data register `r`, as it reads in this cycle (R129). -/
def State.dreg (s : State) (n : Nat) (r : Reg) : BitVec 32 := SMap.get (fun _ => 0) (s.eng n).d r
/-- The same as a signed number. -/
def State.dint (s : State) (n : Nat) (r : Reg) : Int := (s.dreg n r).toInt
/-- Accumulator `a`, signed. -/
def State.acc (s : State) (n : Nat) (a : Acc4) : Int := (SMap.get (fun _ => 0) (s.eng n).a a).toInt
/-- Predicate `p`; P0 reads 1 always. -/
def State.pred (s : State) (n : Nat) (p : Pred) : Bool := if p = 0 then true else (s.eng n).p.getLsbD p
/-- Operand b of the X slot: a register, or a sign-extended immediate (R166). -/
def State.opb (s : State) (n : Nat) (b : OpB) : BitVec 32 :=
  match b with
  | .reg r => s.dreg n r
  | .imm i => i.signExtend 32

/-! ## Issue (R123, R132, R142, R144) -/

/-- States of an engine (R144). -/
def esSTOPPED : Nat := 0
def esARMED : Nat := 1
def esRUNNING : Nat := 2
def esSTOPPING : Nat := 3
def esHALTED : Nat := 4
def State.estate (s : State) (n : Nat) : Nat := s.get (TEL_STATUS_STATE n)

/-- The task that runs in this cycle: within its length, quashed or not (R142, R151). -/
def State.running (s : State) (n : Nat) : Option Task :=
  match (s.eng n).task with
  | none => none
  | some t =>
    if (s.estate n == esRUNNING || s.estate n == esSTOPPING) && decide (t.c0 ≤ s.clk.now) && decide (s.clk.now < t.c0 + t.len) then some t
    else none

/-- The running task, if its bundles issue in this cycle: those of a quashed one issue as NOP (R142). -/
def State.issuing (s : State) (n : Nat) : Option Task :=
  match s.running n with
  | none => none
  | some t => if (match t.quash with | some q => decide (s.clk.now < q) | none => true) then some t else none

/-- A slot executes: its predicate, inverted by the negate bit, reads 1 (R132). -/
def State.guard (s : State) (n : Nat) (q : Guard) : Bool := s.pred n q.p != q.neg

/-- Runs `f` on the task whose bundle issues, if the slot executes. -/
def State.issue (s : State) (n : Nat) (q : Guard) (f : Task → State) : State :=
  match s.issuing n with
  | some t => if s.guard n q then f t else s
  | none => s

/-- Bundle address issuing now (R123). -/
def State.bundleAt (s : State) (t : Task) : Nat := t.base + (s.clk.now - t.c0)

/-! ## Results (R128..R131, R142) -/

/-- A quashed task's result that would land in or after the quash cycle is discarded (R142). -/
def Task.drops (t : Task) (due : Nat) : Bool := match t.quash with | some q => decide (q ≤ due) | none => false

/-- A result of latency `lam` sets out. -/
def State.result (s : State) (n : Nat) (t : Task) (slot : SlotPos) (lam : Nat) (dest : Dest) (v : Sat32) : State :=
  let due := s.clk.now + lam - 1
  if t.drops due then s
  else s.modEng n (fun e => { e with results := e.results ++
    [{ due := due, slot := slot, dest := dest, val := v.1, sat := v.2, issued := s.clk.now, addr := s.bundleAt t }] })

/-- A predicate's result; a write to P0 has no effect (R122). -/
def State.resultP (s : State) (n : Nat) (t : Task) (p : Pred) (b : Bool) : State :=
  if p = 0 then s else s.result n t .x 1 (.pred p) (if b then 1 else 0, false)

/-- A multiply-accumulate operation sets out for its stage t + 2 (R130). -/
def State.accOp (s : State) (n : Nat) (t : Task) (slot : SlotPos) (a : Acc4) (clear : Bool) (add : Int) : State :=
  let due := s.clk.now + 2
  if t.drops due then s
  else s.modEng n (fun e => { e with accs := e.accs ++
    [{ due := due, slot := slot, acc := a, clear := clear, add := add, addr := s.bundleAt t }] })

/-- A saturation that takes effect now sets SAT (R127). -/
def State.noteSat (s : State) (n : Nat) (b : Bool) : State := if b then s.hwSet (TEL_STATUS_SAT n) else s

end Sys2Proof.Machine
end

