-- ==== Sys2Proof/Machine/TellerBase.lean ====
section
/-! DEFINITION. Machine/TellerBase.lean: what every part of a Teller shares (05, 07): faults, quash and halt, the memories
with their error code, digests, the windows of a binding. -/

namespace Sys2Proof.Machine

/-! ## Banks (R186, R195) -/

def State.active (s : State) (n : Nat) : Option Nat :=
  if s.get (TEL_SCH_STAT_BANK0 n) == 3 then some 0 else if s.get (TEL_SCH_STAT_BANK1 n) == 3 then some 1 else none
def State.bankState (s : State) (n x : Nat) : Nat := if x = 0 then s.get (TEL_SCH_STAT_BANK0 n) else s.get (TEL_SCH_STAT_BANK1 n)
def State.setBank (s : State) (n x st : Nat) : State := if x = 0 then s.put (TEL_SCH_STAT_BANK0 n) st else s.put (TEL_SCH_STAT_BANK1 n) st
def State.entry (s : State) (n x e : Nat) : BitVec 64 := SMap.get (fun _ => 0) s.ents (n * 1024 + 512 * x + e)
def State.descr (s : State) (n x d : Nat) : BitVec 64 := SMap.get (fun _ => 0) s.binds (n * 512 + 256 * x + d)

/-- Fields of an entry (R185). -/
def enEN (w : BitVec 64) : Bool := w.getLsbD 63
def enSTART (w : BitVec 64) : Nat := (w.extractLsb' 51 12).toNat
def enCODE (w : BitVec 64) : Nat := (w.extractLsb' 39 12).toNat
def enLEN (w : BitVec 64) : Nat := (w.extractLsb' 27 12).toNat
def enSLOT (w : BitVec 64) : Nat := (w.extractLsb' 23 4).toNat
def enRDIV (w : BitVec 64) : Nat := (w.extractLsb' 20 3).toNat
def enPHASE (w : BitVec 64) : Nat := (w.extractLsb' 13 7).toNat
def enBIND (w : BitVec 64) : Nat := (w.extractLsb' 5 8).toNat
def enNBIND (w : BitVec 64) : Nat := (w.extractLsb' 1 4).toNat
def enINITOFF (w : BitVec 64) : Bool := w.getLsbD 0

/-- Fields of a binding descriptor (R189). -/
def bdLINK (w : BitVec 64) : Nat := (w.extractLsb' 57 7).toNat
def bdROLE (w : BitVec 64) : Nat := (w.extractLsb' 55 2).toNat
def bdRD (w : BitVec 64) : Bool := w.getLsbD 54
def bdWA (w : BitVec 64) : Bool := w.getLsbD 53
def bdWB (w : BitVec 64) : Bool := w.getLsbD 52
def bdTF (w : BitVec 64) : Bool := w.getLsbD 51
def bdTO (w : BitVec 64) : Bool := w.getLsbD 50
def bdTU (w : BitVec 64) : Bool := w.getLsbD 49
def bdBGT (w : BitVec 64) : Bool := w.getLsbD 48
def bdRSTROBE (w : BitVec 64) : Nat := (w.extractLsb' 43 5).toNat
def bdWFRAME (w : BitVec 64) : Nat := (w.extractLsb' 38 5).toNat

/-- Data-ready cycle of strobe j and last write cycle of frame k (R191). -/
def dataReady (j : Nat) : Nat := (75 * (j + 2) + 8) % 2400
def lastWrite (k : Nat) : Nat := if k = 0 then 2387 else 75 * k - 13

/-- Code word of an entry and of a descriptor among those of an engine's banks (R153). -/
def wordOfEntry (x e : Nat) : Nat := 256 * x + e / 2
def wordOfDescr (x d : Nat) : Nat := 512 + 128 * x + d / 2

/-! ## Faults (R140, R152..R154) -/

/-- The TEL_FAULT bit of a code (R152). -/
def telFlag (n code : Nat) : Fld :=
  match code with
  | 1 => TEL_FAULT_CONTRACT n
  | 2 => TEL_FAULT_PMEM_UE n
  | 3 => TEL_FAULT_DMEM_UE n
  | 4 => TEL_FAULT_RANGE n
  | 5 => TEL_FAULT_WCONF n
  | 6 => TEL_FAULT_DRAIN n
  | 7 => TEL_FAULT_HDR n
  | _ => TEL_FAULT_SAFE_HALT n

/-- A fault of engine `n`: its flag, the first one captured, its event, its collector input (R140, R363). -/
def State.telFault (s : State) (n code slot addr entry : Nat) : State :=
  let s := s.hwSet (telFlag n code)
  let s := if s.bit (TEL_FAULT_INFO_VALID n) then s else
    let s := s.hwSet (TEL_FAULT_INFO_VALID n)
    let s := s.put (TEL_FAULT_INFO_SLOT n) slot
    let s := s.put (TEL_FAULT_INFO_ADDR n) addr
    let s := s.put (TEL_FAULT_INFO_CODE n) code
    let s := s.put (TEL_FAULT_INFO_ENTRY n) entry
    (s.put (TEL_FAULT_CYC_MFN n) (s.mfn % 4096)).put (TEL_FAULT_CYC_CYC n) s.clk.cyc
  let s := s.raiseN (256 + n) code (slot * 0x10000000 + addr * 0x10000 + entry)
  if code = 2 ∨ code = 3 then s.detect (20 + n) else if code = 8 then s else s.detect (36 + n)

/-- The slot number of TEL_FAULT_INFO (R153). -/
def slotNum (p : SlotPos) : Nat := match p with | .m0 => 0 | .m1 => 1 | .x => 2 | .l => 3

/-- A refusal or an early stop of the analyser (R244, R246, R247, R249). -/
def State.fraFail (s : State) (code : Nat) : State := ((s.put FRA_STAT_ERR code).hwSet FRA_STAT_FAIL).raiseN 63 0x02 code

/-- The run is over. -/
def State.fraIdle (s : State) : State := ((s.putBit FRA_STAT_RUN false).putBit FRA_STAT_ARMED false).putBit FRA_CTRL_GO false

/-- The analyser stops early (R247): STOP and a change of HOLDER at its next boundary, with the first cause that came (R248,
R251); a quash, an engine that leaves RUNNING and the safe state at once. The safe state stops an armed run too (log
entry 73). -/
def State.fraAbort (s : State) (code : Nat) : State :=
  if code = 5 ∨ code = 8 then
    if s.bit FRA_STAT_RUN && s.fra.stop.isNone then { s with fra := { s.fra with stop := some code } } else s
  else if s.bit FRA_STAT_RUN || (code == 9 && s.bit FRA_STAT_ARMED) then
    { (s.fraFail code).fraIdle with fra := { tail := s.bit FRA_STAT_RUN, goMfn := s.fra.goMfn } }
  else s

/-- The analyser's target is slot `slot` of engine `n`. -/
def State.fraTarget (s : State) (n slot : Nat) : Bool := s.get FRA_CTRL_ENGINE == n && s.get FRA_CTRL_SLOT == slot

/-- The running task is quashed from FAB cycle `from_` on (R142). -/
def State.quash (s : State) (n from_ : Nat) : State :=
  match (s.eng n).task with
  | none => s
  | some t =>
    let q := match t.quash with | some q => min q from_ | none => from_
    let first := t.quash.isNone
    let s := s.modEng n (fun e => { e with
      task := some { t with quash := some q }
      results := e.results.filter (fun r => decide (r.due < q)), accs := e.accs.filter (fun a => decide (a.due < q))
      digq := e.digq ||| (1 <<< t.slot) })
    if first then
      let s := s.inc (TEL_CNT_QUASH_COUNT n)
      if s.fraTarget n t.slot then s.fraAbort 6 else s
    else s

/-- The state of an engine; RUN and STOP read as R150 gives. -/
def State.engTo (s : State) (n st : Nat) : State :=
  let was := s.estate n
  let s := ((s.put (TEL_STATUS_STATE n) st).putBit (TEL_CTRL_RUN n) (st == esARMED)).putBit (TEL_CTRL_STOP n) (st == esSTOPPING)
  if was == esRUNNING && st != esRUNNING && s.get FRA_CTRL_ENGINE == n then s.fraAbort 7 else s

/-- A halt (R144): no bundle issues, results in flight are discarded. A quashed task is over with it, without the end at which
R143 would clear EN (log entry 88). -/
def State.telHalt (s : State) (n : Nat) : State :=
  (s.engTo n esHALTED).modEng n (fun e => { e with task := none, results := [], accs := [], haltAt := none, loadUe := none })

/-! ## The memories and their error code (R139, R141, R360, R361) -/

/-- The checker of a memory of engine `n` (R371). -/
def EMem.checker (m : EMem) (n : Nat) : Nat := match m with | .prog => n | .ctx => 16 + n | .scr => 32 + n | .bank => 48 + n
/-- Code words of a memory (R121, R186). -/
def EMem.words (m : EMem) : Nat := match m with | .prog => 4096 | .ctx => 512 | .scr => 512 | .bank => 768
/-- The code of its uncorrectable errors; bank words take DMEM_UE (log entry 13). -/
def EMem.ueCode (m : EMem) : Nat := match m with | .prog => 2 | _ => 3
/-- A code word's number in TEL_FAULT_INFO.ADDR (R153). -/
def EMem.addr (m : EMem) (w : Nat) : Nat := match m with | .prog => w | .ctx => w | .scr => 512 + w | .bank => 1024 + w

/-- A corrected read: counted, flagged, to be written back (R139, R141, R363). -/
def State.telCe (s : State) (n : Nat) (m : EMem) (w : Nat) : State :=
  let s := match m with | .prog => s.hwSet (TEL_FAULT_PMEM_CE n) | _ => s.hwSet (TEL_FAULT_DMEM_CE n)
  let s := (s.inc (TEL_CNT_CE_COUNT n)).detect 52
  s.modEng n (fun e => { e with wb := if e.wb.contains (m, w) then e.wb else e.wb ++ [(m, w)] })

/-- A checked read of a code word: the state after a correction, and whether the word is uncorrectable. -/
def State.telRead (s : State) (n : Nat) (m : EMem) (w : Nat) : State × Bool :=
  match s.eccRead (m.checker n) w with
  | .clean => (s, false)
  | .corrected => (s.telCe n m w, false)
  | .bad => (s, true)

/-- The scrub reports a code word again only after a write of it (R141). -/
def Eng.written (e : Eng) (m : EMem) (w : Nat) : Eng :=
  match m with
  | .prog => if e.ueProg = some w then { e with ueProg := none } else e
  | .ctx => if e.ueCtx = some w then { e with ueCtx := none } else e
  | .scr => if e.ueScr = some w then { e with ueScr := none } else e
  | .bank => if e.ueBank = some w then { e with ueBank := none } else e

/-- A write encodes its code word anew (R371). -/
def State.telEncode (s : State) (n : Nat) (m : EMem) (w : Nat) : State :=
  (s.encode (m.checker n) w).modEng n (fun e => e.written m w)

/-- Memory `m` of engine `n` is used in this FAB cycle (R141). -/
def State.use (s : State) (n : Nat) (m : EMem) : State :=
  s.modEng n (fun e => { e with used := (s.clk.now, if e.used.1 = s.clk.now then m :: e.used.2 else [m]) })

/-- Memory `m` of engine `n` has been used in this FAB cycle. -/
def State.inUse (s : State) (n : Nat) (m : EMem) : Bool := (s.eng n).used.1 == s.clk.now && (s.eng n).used.2.contains m

/-- A store narrower than a code word is merged; a merge read that is uncorrectable discards it and raises the store's
source (R361), and one that is corrected counts (R139). -/
def State.telMerge (s : State) (n : Nat) (m : EMem) (w : Nat) (op : State → State) : State :=
  let r := (s.use n m).telRead n m w
  if r.2 then r.1.detect (20 + n) else (op r.1).telEncode n m w

def State.ctxWord (s : State) (n i : Nat) : Word := SMap.get (fun _ => 0) s.ctx (n * 2048 + i)
def State.scrWord (s : State) (n i : Nat) : Word := SMap.get (fun _ => 0) s.scr (n * 2048 + i)

/-- A word of engine `n`'s context or scratch is written: the instant is kept, and a transfer that the holder serves
records it (R355); scratch words are numbered from 2048. -/
def State.memWritten (s : State) (n a : Nat) (v : Word) : State :=
  let s := s.modEng n (fun e => { e with lastMem := some s.clk.now })
  match s.twn.serve with
  | some x => if x.sel = n && x.started && !x.closed then
      { s with twn := { s.twn with serve := some { x with jr := x.jr ++ [(s.mfn % 65536, a, v)] } } } else s
  | none => s

def State.putCtx (s : State) (n i : Nat) (v : Word) : State :=
  { s with ctx := SMap.set (fun _ => 0) s.ctx (n * 2048 + i) v }.memWritten n i v
def State.putScr (s : State) (n i : Nat) (v : Word) : State :=
  { s with scr := SMap.set (fun _ => 0) s.scr (n * 2048 + i) v }.memWritten n (2048 + i) v
def State.bundle (s : State) (n a : Nat) : BitVec 128 := SMap.get (fun _ => 0) s.prog (n * 4096 + a)

/-! ## Digests (R148) -/

/-- The six bytes that a write of word `i` feeds: tag and value. -/
def digBytes (sup : Bool) (i : Nat) (v : Word) : List Byte := bytesLE (i % 128 + if sup then 0x8000 else 0) 2 ++ bytesLE v.toNat 4

/-- Feeds bytes to the digest of a slot. -/
def State.feedDigest (s : State) (n slot : Nat) (bs : List Byte) : State :=
  s.modEng n (fun e =>
    let c := (SMap.get (fun _ => 0) e.dig slot).toNat ^^^ 0xFFFFFFFF
    { e with dig := SMap.set (fun _ => 0) e.dig slot (BitVec.ofNat 32 (crc32Run c bs ^^^ 0xFFFFFFFF)) })

/-- The digest of each slot and the quash bits become readable, and the running ones restart (R148, R230). -/
def State.digestLatch (s : State) (n : Nat) : State :=
  let e := s.eng n
  let s := s.forN 16 (fun i t => t.put (TEL_DIGEST_DIGEST n i) (SMap.get (fun _ => 0) e.dig i).toNat)
  let s := s.put (TEL_DIGQ_QUASHED n) e.digq.toNat
  let s := s.modEng n (fun e => { e with dig := [], digq := 0, cupdFeed := none })
  match e.cupdFeed with
  | some (slot, bs) => s.feedDigest n slot bs
  | none => s

/-- A collision of a task store with another write (R147, R231, R237). -/
def State.telCollide (s : State) (n : Nat) : State := (s.hwSet (TEL_FAULT_COLLIDE n)).inc (TEL_CNT_COLLIDE_COUNT n)

end Sys2Proof.Machine
end

