-- ==== Sys2Proof/Machine/Twin.lean ====
section
/-! DEFINITION. Machine/Twin.lean: the twin link (12): lanes and cells, the heartbeat, claims, handover, takeover and yield,
shadow comparison, time alignment, forwarded commands; and the meanings of their commands. -/

namespace Sys2Proof.Machine

/-! ## Cells (R337, R338) -/

/-- Bits `hi..lo` of a number. -/
def slice (n hi lo : Nat) : Nat := n / 2 ^ lo % 2 ^ (hi + 1 - lo)

/-- A cell's word from its TYPE, INDEX and payload. -/
def cellWord (ty idx : Nat) (pay : BitVec 112) : BitVec 128 := BitVec.ofNat 128 (pay.toNat + idx % 256 * 2 ^ 112 + ty * 2 ^ 120)

/-- A payload from values and the position of each one's lowest bit. -/
def payload (fs : List (Nat × Nat)) : BitVec 112 := BitVec.ofNat 112 (fs.foldl (fun a f => a + f.1 * 2 ^ f.2) 0)

def boolNat (b : Bool) : Nat := if b then 1 else 0

/-- Payload bits that a TYPE leaves unnamed below its fields: they are 0 (R338). -/
def reservedPay (ty idx pay : Nat) : Bool :=
  match ty with
  | 0x00 => pay != 0
  | 0x01 => slice pay 1 0 != 0
  | 0x02 => slice pay 15 0 != 0
  | 0x03 => slice pay 20 0 != 0
  | 0x04 => decide (89 < idx) || (idx == 89 && slice pay 15 0 != 0)
  | 0x05 => slice pay 71 0 != 0
  | 0x07 => slice pay 74 0 != 0
  | 0x08 => slice pay 71 0 != 0
  | 0x09 => slice pay 75 0 != 0
  | 0x0A => decide (idx ≤ 15) && slice pay 99 96 != 0
  | 0x0B => slice pay 7 1 != 0
  | 0x0C => idx % 4 == 2 && slice pay 111 32 != 0
  | _ => decide (0x0C < ty)

/-- Symbols C0..C19 of a cell with word `w`, lane sequence `seq` and error `m` in its check bits (R337). -/
def cellSyms (w : BitVec 128) (seq : Nat) (m : BitVec 17) : List LSym :=
  let c := (eccBits w ^^^ m).toNat
  .k 0xBC :: ((bytesLE w.toNat 16) ++ (bytesLE c 2) ++ [BitVec.ofNat 8 (c / 65536 * 128 + seq % 128)]).map LSym.d

/-- The byte of a data symbol. -/
def symByte (y : LSym) : Option Byte := match y with | .d b => some b | _ => none

/-- C0 is the comma of a cell. -/
def cellComma (c : Cell) : Bool := c.syms.head? == some (.k 0xBC)

/-- Every symbol is one that the layout has in its place: a symbol that is not counts as a code error (R337, R339). -/
def cellCoded (c : Cell) : Bool := cellComma c && c.syms.length == 20 && (c.syms.drop 1).all (fun y => (symByte y).isSome)

/-- Bytes C1..C19. -/
def cellBytes (c : Cell) : List Byte := (c.syms.drop 1).filterMap symByte

/-- Lane sequence of a received cell. -/
def cellSeq (c : Cell) : Nat := ((cellBytes c).getD 18 0).toNat % 128

/-- The word of a received cell as its check bits leave it; none where it has a code error or its word cannot be corrected
(R337, R339, R360). -/
def cellRead (c : Cell) : Option (BitVec 128) :=
  if cellCoded c then
    let n := natLE (cellBytes c)
    eccDecode (BitVec.ofNat 128 n) (BitVec.ofNat 17 (n / 2 ^ 128 % 65536 + n / 2 ^ 151 * 65536))
  else none

def State.lane (s : State) (l : Nat) : Lane := SMap.get (fun _ => {}) s.twn.lanes l
def State.setLane (s : State) (l : Nat) (x : Lane) : State := { s with twn := { s.twn with lanes := SMap.set (fun _ => {}) s.twn.lanes l x } }
def State.modTwn (s : State) (f : Twn → Twn) : State := { s with twn := f s.twn }

/-- Lane `l` is UP; the lowest one that is. -/
def State.laneUp (s : State) (l : Nat) : Bool := (s.get TWN_STAT_LANE_UP).testBit l
def State.lowestLane (s : State) : Option Nat := if s.laneUp 0 then some 0 else if s.laneUp 1 then some 1 else none
def State.linkUp (s : State) : Bool := s.bit TWN_STAT_LINK_UP

/-- The own unit bit (R336). -/
def State.unitBit (s : State) : Nat := s.get SYS_STRAP_UNIT_ID

/-- C_known (R341). -/
def State.cKnown (s : State) : Nat := max (s.epoch / 2) (max s.twn.cPeer (s.get TWN_CSEED_SEED))

/-- The epoch this unit takes next (R106). -/
def State.nextEpoch (s : State) : Nat := 2 * (s.cKnown + 1) + s.unitBit

/-- An event of source 353 with its EXT (R380). -/
def State.raiseTwin (s : State) (cause value : Nat) : State :=
  s.raiseEv { src := 353, cause := cause, value := BitVec.ofNat 32 value, stamp := 0, order := 0
              ext := BitVec.ofNat 64 (s.epoch + boolNat s.holder * 0x10000) }

/-! ## Readiness (R352) -/

/-- The worst class of an active fault: 0 none or INFO .. 3 CRITICAL (R338, R352). -/
def State.worstClass (s : State) : Nat :=
  (List.range 192).foldl (fun a i => if s.bmBit FCU_FLAG i then max a (s.get (FCU_SCFG_CLASS i)) else a) 0

/-- Links that satisfy `p`. -/
def State.countLinks (s : State) (p : Nat → Bool) : Nat := ((List.range s.nLinks).filter p).length

/-- NOT_READY (R352). -/
def State.notReady (s : State) : Bool :=
  if s.holder then
    match s.twn.peerHealth with
    | none => true
    | some (h, t) => !s.linkUp || decide (t + 4800 < s.clk.now) || slice h.toNat 22 22 == 0
  else !s.bit TWN_STAT_READY

/-- NOT_READY follows. -/
def State.notReadyPut (s : State) : State := s.putBit TWN_STAT_NOT_READY s.notReady

/-- What ages with the FAB cycles: VALID of the peer's last AUTH cell, and its last HEALTH cell (R352, R358). -/
def State.twinAge (s : State) : State :=
  let past := fun (t : Option Nat) => t.any (fun t => t + 4801 == s.clk.now)
  let s := if past s.twn.lastAuth then s.putBit TWN_PEER_VALID false else s
  if past (s.twn.peerHealth.map (·.2)) then s.notReadyPut else s

/-- The conditions of READY on a standby (R352). -/
def State.readyNow (s : State) : Bool :=
  let h := match s.twn.peerHealth with | some (h, _) => h.toNat | none => 0
  s.bit TWN_CTRL_EN && s.linkUp && s.bit TWN_STAT_HB_OK && s.bit TWN_STAT_MFN_OK && s.bit TWN_STAT_SHADOW_OK
    && (List.range s.nLinks).all (fun k => !(s.link k).echoEpA && !(s.link k).echoEpB)
    && s.twn.peerHealth.isSome && s.countLinks s.trained == slice h 40 34
    && (List.range s.nLinks).all (fun k => !s.trained k || s.bmBit LNK_AUDITOK k)
    && s.get TWN_BUILD_BUILD_ID == slice h 95 64 && decide (s.worstClass ≤ 1) && !s.safe

/-- READY takes a value; a change raises READY. -/
def State.readyPut (s : State) (b : Bool) : State :=
  let s := if s.bit TWN_STAT_READY != b then (s.putBit TWN_STAT_READY b).raiseN 356 0x02 (boolNat b) else s
  s.notReadyPut

/-! ## Transfers end (R355) -/

/-- The transfer in progress ends without being applied. -/
def State.xferFail (s : State) (err : Nat) : State :=
  match s.twn.xfer with
  | none => s
  | some x =>
    let s := s.feedsBack x.kept
    let s := s.modTwn (fun t => { t with xfer := none, xLane := none, xcells := [], moved := SMap.ins t.moved x.sel s.mfn })
    let s := ((s.put TWN_XFER_STAT_ERR err).hwSet TWN_XFER_STAT_FAIL).putBit TWN_XFER_STAT_BUSY false
    ((s.putBit TWN_XFER_STAT_DEFER false).putBit TWN_XFER_CTRL_GO false).raiseN 359 0x02 (x.sel * 256 + err)

/-- The holder's side of a transfer is over. -/
def State.serveOver (s : State) : State :=
  match s.twn.serve with
  | some x => s.modTwn (fun t => { t with
      serve := none, xLane := none, moved := if x.closed then t.moved else SMap.ins t.moved x.sel s.mfn })
  | none => s

/-- A change of HOLDER fails the transfer on both sides. -/
def State.xferHolder (s : State) : State := (s.xferFail 5).serveOver

/-! ## Authority moves (R343..R347) -/

/-- HOLDER and EPOCH change, with all that follows. -/
def State.authority (s : State) (holder : Bool) (epoch need : Nat) : State :=
  let moved := s.holder != holder
  let s := (s.setAuthority holder epoch need).putBit TWN_STAT_HOLDER holder
  if moved then
    let s := (s.xferHolder).fraAbort 8
    let s := s.modTwn (fun t => { t with release := t.release && !holder, reject := 0, blocked := none, exhausted := false })
    if holder then s.readyPut false else s.notReadyPut
  else s

/-- The holder gives up authority with RELEASE (R347, R372). -/
def State.releaseAuth (s : State) : State := (s.authority false s.epoch 2).modTwn (fun t => { t with release := true })

/-- FAB cycles from now to the decision cycle of link frame `j` of major frame `m` (R343). -/
def State.toDecision (s : State) (m j : Nat) : Int :=
  let n : Nat := (m + 2 ^ 32 - s.mfn) % 2 ^ 32
  let d : Int := if n < 2147483648 then (n : Int) else (n : Int) - 2 ^ 32
  d * 2400 + 75 * j - 13 - s.clk.cyc

/-- The holder asks for a handover at link frame `j` of major frame `m`. -/
def State.hoStart (s : State) (m j : Nat) : State :=
  (s.putBit TWN_CTRL_HANDOVER true).modTwn (fun t => { t with ho := some { mfn := m, frame := j } })

/-- SWITCHOVER on a holder (R347): a handover, else a release, else nothing. A handover already asked for stands where its
ACK is there or its decision comes no later (log entry 45). -/
def State.switchover (s : State) : State :=
  if !s.holder then s
  else if s.linkUp && s.bit TWN_STAT_PEER_READY then
    let f := (s.clk.cyc + 613 + 74) / 75
    let m := (s.mfn + f / 32) % 2 ^ 32
    let j := f % 32
    let kept := match s.twn.ho with | some h => h.ack.isSome || decide (s.toDecision h.mfn h.frame ≤ s.toDecision m j) | none => false
    if kept then s else ((s.put TWN_HO_FRAME j).put TWN_HO_MFN_MFN m).hoStart m j
  else if s.linkUp then s.releaseAuth
  else s

/-- Whether the decision cycle of a handover has come (R343). -/
def State.decisionDue (s : State) : Bool :=
  match s.twn.ho, s.twn.hoAck with
  | some h, _ => decide (s.toDecision h.mfn h.frame ≤ 0)
  | none, some (m, j, _) => decide (s.toDecision m j ≤ 0)
  | none, none => false

/-- HANDOVER_DECISION (R343). A standby whose ACK has not left stays one. -/
def execHandoverDecision (s : State) : Out :=
  match s.twn.ho, s.twn.hoAck with
  | some h, _ =>
    let s := (s.putBit TWN_CTRL_HANDOVER false).modTwn (fun t => { t with ho := none })
    match h.ack with
    | some e => if s.holder then ok ((s.authority false e 2).raiseTwin 0x04 e) else ok (s.raiseTwin 0x05 5)
    | none => ok (s.raiseTwin 0x05 (h.nack.getD 4))
  | none, some (_, _, e) =>
    let sent := s.twn.hoSent
    let s := s.modTwn (fun t => { t with hoAck := none, hoSent := false })
    if s.holder || !sent then ok s else ok ((s.authority true e 1).raiseTwin 0x04 e)
  | none, none => ok s

/-- CLAIM_DECIDE (R342): at the next major-frame start; with EN = 0 the claim stays pending. -/
def execClaimDecide (s : State) : Out :=
  if !s.bit TWN_CTRL_CLAIM || !s.bit TWN_CTRL_EN then ok s
  else
    let t := s.twn
    let recent := fun (x : Option Nat) (n : Nat) => match x with | some m => decide ((s.mfn + 2 ^ 32 - m) % 2 ^ 32 ≤ n) | none => false
    let why : Nat :=
      if s.holder then 1
      else if s.bit TWN_STAT_NO_CLAIM then 2
      else if t.clashed then 3
      else if s.bit TWN_STAT_AUTH_IN then 4
      else if recent t.peerHeld 2 then 5
      else if 32767 ≤ s.cKnown then 6
      else if recent t.peerClaim 1 && s.unitBit == 1 then 7
      else 0
    let s := s.putBit TWN_CTRL_CLAIM false
    if why = 0 then
      let e := s.nextEpoch
      ok ((s.authority true e 2).raiseTwin 0x02 e)
    else
      let s := if why = 6 then s.raiseTwin 0x01 s.cKnown else s
      ok (s.raiseTwin 0x03 why)

/-! ## The heartbeat and takeover (R340, R344) -/

/-- HEARTBEAT (R340, R346): the levels of TWN_HBI and TWN_AUTH_IN behind their synchronisers. -/
def execHeartbeat (s : State) (hbi : Bool := true) (authIn : Bool := false) : Out :=
  ok ((s.modTwn (fun t => { t with hbi := hbi, hbSeen := t.hbSeen || hbi != t.hbi })).putBit TWN_STAT_AUTH_IN authIn)

/-- The first failing condition of R344, 0 where all hold. -/
def State.takeoverBlock (s : State) : Nat :=
  let t := s.twn
  let rel := t.peerReleased
  if !rel && !s.bit TWN_STAT_PEER_HOLDER && !t.missAuth then 1
  else if !rel && (match t.lastCell with | some c => decide (s.clk.now < c + 150) | none => false) then 2
  else if !(s.get TWN_CFG_TAKEOVER == 2 || (s.get TWN_CFG_TAKEOVER == 1 && (if rel then s.bit TWN_STAT_READY else t.missReady))) then 3
  else if s.bit TWN_STAT_NO_CLAIM || t.clashed || decide (32767 ≤ s.cKnown) then 4
  else 0

/-- The takeover of an evaluation (R344). An episode reports each condition when it becomes the first that fails. -/
def State.takeover (s : State) : State :=
  let due := s.twn.peerReleased || decide (s.get TWN_CFG_MISS_N ≤ s.get TWN_STAT_MISS)
  if s.holder || !s.bit TWN_CTRL_EN then s
  else if !due then s.modTwn (fun t => { t with blocked := none, exhausted := false })
  else
    let why := s.takeoverBlock
    if why = 0 then
      let e := s.nextEpoch
      (s.authority true e 2).raiseTwin 0x06 e
    else
      let s := if 32767 ≤ s.cKnown && !s.twn.exhausted then (s.raiseTwin 0x01 s.cKnown).modTwn (fun t => { t with exhausted := true }) else s
      if s.twn.blocked == some why then s else (s.raiseTwin 0x07 why).modTwn (fun t => { t with blocked := some why })

/-- SHADOW_OK follows TWN_DIVG, DIG_OK_N and the run of equal frames (R350). -/
def State.shadowPut (s : State) : State :=
  s.putBit TWN_STAT_SHADOW_OK (s.word TWN_DIVG == 0 && decide (s.get TWN_CFG_DIG_OK_N ≤ s.twn.digRun))

/-- HB_OK while the heartbeat runs (R340). -/
def State.hbOk (s : State) : State :=
  if s.bit TWN_CTRL_HB_EN then s.putBit TWN_STAT_HB_OK (decide (s.get TWN_STAT_MISS < s.get TWN_CFG_MISS_N)) else s

/-- The count of missed heartbeats (R340). -/
def State.hbCount (s : State) : State :=
  let seen := s.twn.hbSeen
  let miss := s.get TWN_STAT_MISS
  let n := s.get TWN_CFG_MISS_N
  if seen then
    let s := if s.twn.lost then (s.raiseN 354 0x02 miss).modTwn (fun t => { t with lost := false }) else s
    (s.put TWN_STAT_MISS 0).hbOk
  else
    let s := if miss = 0 then s.modTwn (fun t => { t with missAuth := t.authPrev, missReady := s.bit TWN_STAT_READY }) else s
    let s := ((s.inc TWN_STAT_MISS).inc TWN_CNT_HBMISS_COUNT).hbOk
    if n ≤ s.get TWN_STAT_MISS && !s.twn.lost then
      ((s.raiseN 354 0x01 (s.get TWN_STAT_MISS)).detect 76).modTwn (fun t => { t with lost := true })
    else s

/-- HEARTBEAT_EVALUATE (R340, R344). The evaluations of the link frames part the FAB cycles among them, so an edge counts
for the first evaluation that does not lie before it. -/
def execHeartbeatEvaluate (s : State) : Out :=
  let s := (if s.bit TWN_CTRL_HB_EN then s.hbCount else s).takeover
  ok (s.modTwn (fun t => { t with authPrev := s.bit TWN_STAT_AUTH_IN, hbSeen := false, hbAt := some s.clk.now, peerReleased := false }))

/-- TWN_HBO and TWN_AUTH_OUT (R340, R346): both are low in reset. -/
def State.sideband (s : State) (reset : Bool) : Bool × Bool := (!reset && s.twn.hbo, !reset && s.holder)

/-! ## Lanes (R339) -/

/-- LINK_UP follows the lanes. -/
def State.lanesPut (s : State) (m : Nat) : State := ((s.put TWN_STAT_LANE_UP m).putBit TWN_STAT_LINK_UP (m != 0)).notReadyPut

/-- The command or transfer whose lane went down fails with LINK (R339). -/
def State.fwdEnd (s : State) (rsp : Nat) : State :=
  let s := (s.disarm .fwdTimeout).modTwn (fun t => { t with fwd := [], fwdLane := none })
  let s := ((s.put TWN_FWD_TXS_RSP rsp).hwPut TWN_FWD_TXS_FAIL (rsp != 1)).hwSet TWN_FWD_TXS_DONE
  let s := (s.putBit TWN_FWD_TXS_BUSY false).putBit TWN_FWD_TX_SEND false
  s.raiseN 358 0x02 (rsp * 0x10000 + s.get TWN_FWD_TX_TAG)

/-- A lane goes DOWN, or loses its lock (R339). -/
def State.laneDrop (s : State) (l : Nat) : State :=
  let x := s.lane l
  let s := (s.setLane l { x with commas := 0, good := 0, bad := 0, rxSeq := none }).disarm (.laneDown (Fin.ofNat 2 l))
  if s.laneUp l then
    let s := (s.lanesPut (s.get TWN_STAT_LANE_UP - 2 ^ l)).raiseN 355 0x01 l
    let s := if s.twn.fwdLane == some l && !s.twn.fwd.isEmpty then s.fwdEnd 7 else s
    let s := if s.twn.xLane == some l then (s.xferFail 2).serveOver.modTwn (fun t => { t with xLane := none }) else s
    match s.ldg.mir with
    | some (l', _) => if l' = l then s.mirrorBack else s
    | none => s
  else s

/-- LANE_DOWN (R339). -/
def execLaneDown (lane : Fin 2) (s : State) : Out := ok (s.laneDrop lane)

/-- FAB cycles of 128 symbols (R339). -/
def commaLimit : Nat := 103

/-- The comma of a cell on a lane (R339): four at the spacing of a cell lock it; a locked lane waits for the next one. -/
def State.laneComma (s : State) (l : Nat) (comma : Bool) : State :=
  let x := s.lane l
  let s := s.setLane l { x with commas := if comma then min 4 (x.commas + 1) else if 4 ≤ x.commas then x.commas else 0 }
  if comma && decide (4 ≤ (s.lane l).commas) then (s.putBit SYS_CLKSTAT_TWN_LOCK true).arm commaLimit (.laneDown (Fin.ofNat 2 l)) else s

/-- A cell with a code error or an uncorrectable word (R339, R361). -/
def State.laneBad (s : State) (l : Nat) : State :=
  let x := s.lane l
  let s := ((s.setLane l { x with good := 0, bad := x.bad + 1 }).inc TWN_CNT_UE_COUNT).detect 54
  if 4 ≤ x.bad + 1 then s.laneDrop l else s

/-- A cell free of both; its lane may come UP (R339). -/
def State.laneGood (s : State) (l : Nat) : State :=
  let x := s.lane l
  let s := s.setLane l { x with good := x.good + 1, bad := 0 }
  if 16 ≤ x.good + 1 && !s.laneUp l then (s.lanesPut (s.get TWN_STAT_LANE_UP + 2 ^ l)).raiseN 355 0x02 l else s

/-- A lane receives a cell; the word is there where it may be used (R339). The place of a cell in the lane sequence goes by
the cells before it, also by one that was discarded. -/
def State.laneCell (s : State) (l : Nat) (c : Cell) : State × Option (BitVec 128) :=
  let s := s.laneComma l (cellComma c)
  let x := s.lane l
  let s := s.setLane l { x with rdRx := c.syms.foldl (fun r y => r ^^ flipsRd y) x.rdRx }
  if x.commas < 4 then (s, none)
  else
    let want := x.rxSeq.map (fun n => (n + 1) % 128)
    match cellRead c with
    | none => ((s.setLane l { s.lane l with rxSeq := want }).laneBad l, none)
    | some w =>
      let s := (s.setLane l { s.lane l with rxSeq := some (cellSeq c) }).laneGood l
      if want.any (· != cellSeq c) then (s.inc TWN_CNT_UE_COUNT, none)
      else (s, if s.laneUp l then some w else none)

/-- A cell arrives (R339, R361): the lane, the receive queue, the reserved values, then its TYPE's own effect. -/
def State.cellIn (s : State) (l : Nat) (c : Cell) (ty : BitVec 128 → Nat) (f : Nat → Nat → State → State) : State :=
  if !s.bit TWN_CTRL_LANE_EN then s
  else
    let x := s.laneCell l c
    match x.2 with
    | none => x.1
    | some w =>
      let idx := slice w.toNat 119 112
      let pay := slice w.toNat 111 0
      let s := x.1.encode 67 l
      let e := s.eccRead 67 l
      let s := s.setEcc 67 l 0
      if e == .bad then s.detect 54
      else
        let s := s.modTwn (fun t => { t with lastCell := some s.clk.now })
        if reservedPay (ty w) idx pay then s.raiseN 355 0x03 (ty w) else f idx pay s

/-- The TYPE a received IDLE row carries: IDLE, or a reserved one. -/
def idleType (w : BitVec 128) : Nat := let t := slice w.toNat 127 120; if t ≤ 0x0C then 0 else t

/-- IDLE_CELL (R339). -/
def execIdleCell (lane : Fin 2) (c : Cell) (s : State) : Out :=
  ok (s.cellIn lane c idleType (fun _ _ s => s))

/-- LEDGER_CELL (R391). -/
def execLedgerCell (lane : Fin 2) (c : Cell) (s : State) : Out :=
  ok (s.cellIn lane c (fun _ => 0x0C) (fun idx pay s => s.mirrorCell lane idx pay))

/-- TWN_RX_LOCK_LOSS (R363, R473). -/
def execTwnRxLockLoss (s : State) : Out := ok (((s.putBit SYS_CLKSTAT_TWN_LOCK false).raiseN 32 0x03 10).detect 10)

/-! ## AUTH cells (R336, R341, R343, R345) -/

/-- A standby answers REQ for link frame `j` of major frame `m` (R343); an ACK sent stands until its decision cycle. -/
def State.hoAnswer (s : State) (m j : Nat) : State :=
  let t := s.twn
  let same := match t.hoAck with | some (m', j', _) => m' == m && j' == j | none => false
  let told := match t.hoNack with | some (m', j', _) => m' == m && j' == j | none => false
  if same || told || (t.hoAck.isSome && t.hoSent) then s
  else
    let why : Nat :=
      if !s.bit TWN_STAT_READY || decide (32767 ≤ s.cKnown) then 1
      else if s.toDecision m j < 0 then 2
      else if s.get TWN_CFG_TAKEOVER = 0 then 3
      else 0
    let s := if 32767 ≤ s.cKnown then s.raiseTwin 0x01 s.cKnown else s
    if why = 0 then s.modTwn (fun t => { t with hoAck := some (m, j, s.nextEpoch), hoSent := false, hoNack := none })
    else s.modTwn (fun t => { t with hoNack := some (m, j, why) })

/-- The handover traffic of a peer's AUTH cell. -/
def State.hoTraffic (s : State) (pay : Nat) : State :=
  let op := slice pay 60 59
  let why := slice pay 58 56
  let m := slice pay 55 24
  let j := slice pay 23 19
  let e := slice pay 18 3
  let s := if op = 0 then s.modTwn (fun t => { t with hoNack := none }) else s
  if op = 1 then (if s.holder then s else s.hoAnswer m j)
  else
    match s.twn.ho with
    | some h =>
      if h.mfn = m ∧ h.frame = j then
        if op = 2 then s.modTwn (fun t => { t with ho := some { h with ack := some e } })
        else if op = 3 then s.modTwn (fun t => { t with ho := some { h with nack := some why } })
        else s
      else s
    | none => s

/-- A valid AUTH cell (R341, R343, R345). A holder keeps its authority where the cell carries its own unit bit (R336). -/
def State.authCell (s : State) (pay : Nat) (clash : Bool) : State :=
  let e := slice pay 95 80
  let ck := slice pay 79 65
  let hold := slice pay 64 64 == 1
  let held := s.bit TWN_STAT_PEER_HOLDER
  let moved := s.bit TWN_PEER_VALID && held != hold
  let s := ((s.putBit TWN_PEER_VALID true).putBit TWN_PEER_HOLDER hold).putBit TWN_PEER_READY (slice pay 63 63 == 1)
  let s := ((s.put TWN_PEER_COUNTER ck).put TWN_PEER_UNIT (slice pay 2 2)).putBit TWN_STAT_PEER_HOLDER hold
  let s := s.modTwn (fun t => { t with
    lastAuth := some s.clk.now, cPeer := max t.cPeer (max ck (e / 2))
    peerHeld := if hold then some s.mfn else t.peerHeld
    peerClaim := if slice pay 62 62 = 1 then some s.mfn else t.peerClaim
    peerReleased := if slice pay 61 61 = 1 && !hold then true else if hold then false else t.peerReleased
    release := t.release && !hold })
  let s := if s.linkUp then s.putBit TWN_STAT_NO_CLAIM false else s
  let s :=
    if !s.holder then (if hold && e != s.epoch then s.authority false e 2 else s)
    else if hold && !clash && decide (s.epoch < e) && s.bit TWN_CTRL_EN then (s.authority false e 2).raiseTwin 0x08 1
    else s
  let s := if moved then s.xferHolder else s
  s.hoTraffic pay

/-- The own unit bit in a peer's AUTH cell (R336): the event and the fault of the first one since reset. -/
def State.clash (s : State) : State :=
  if s.twn.clashed then s.hwSet TWN_STAT_CLASH
  else (((s.hwSet TWN_STAT_CLASH).modTwn (fun t => { t with clashed := true })).raiseTwin 0x09 s.unitBit).detect 75

/-- AUTH_CELL (R336, R341). -/
def execAuthCell (lane : Fin 2) (c : Cell) (s : State) : Out :=
  ok (s.cellIn lane c (fun _ => 0x01) (fun _ pay s =>
    let same := slice pay 2 2 == s.unitBit
    (if same then s.clash else s).authCell pay same))

/-! ## TIME cells and alignment (R353) -/

/-- The conditions of R40 under which T may be loaded. -/
def State.loadAllowed (s : State) : Bool := s.get TBS_SYNC_CTRL_MODE == 3 && !s.anyTrained

/-- A pending alignment takes T and MFN from a TIME cell. -/
def State.timeAlign (s : State) (t mfn : Nat) : State :=
  if s.bit TWN_CTRL_TALIGN then
    let l := (t + 1920) % 2 ^ 64
    let s := (s.put TBS_LOAD_LO_T l).put TBS_LOAD_HI_T (l / 2 ^ 32)
    let s := (s.putBit TBS_STATUS_LOAD_PEND true).putBit TWN_CTRL_TALIGN false
    { s with clk := { s.clk with loadMfn := some (BitVec.ofNat 32 (mfn + 1)) } }
  else s

/-- TIME_CELL (R353). -/
def execTimeCell (lane : Fin 2) (c : Cell) (s : State) : Out :=
  ok (s.cellIn lane c (fun _ => 0x02) (fun _ pay s =>
    let m := slice pay 47 16
    let s := if m = s.mfn then s.putBit TWN_STAT_MFN_OK true else (s.putBit TWN_STAT_MFN_OK false).raiseN 356 0x03 (m % 65536)
    s.timeAlign (slice pay 111 48) m))

/-- HEALTH_CELL (R352). -/
def execHealthCell (lane : Fin 2) (c : Cell) (s : State) : Out :=
  ok (s.cellIn lane c (fun _ => 0x03) (fun _ pay s =>
    let s := s.modTwn (fun t => { t with peerHealth := some (BitVec.ofNat 112 pay, s.clk.now) })
    (s.putBit TWN_STAT_PEER_READY (slice pay 22 22 == 1)).notReadyPut))

/-! ## Digests (R350) -/

/-- TEL_DIGEST of context `i`, 0 for one that the member lacks (R358). -/
def State.ctxDigest (s : State) (i : Nat) : Nat := if i / 16 < s.nEngines then s.get (TEL_DIGEST_DIGEST (i / 16) (i % 16)) else 0

/-- The own digests of the last major frame as DIGEST payload `i` (R338). -/
def State.digestPay (s : State) (i : Nat) : BitVec 112 :=
  let m := (s.mfn + 0xFFFF) % 65536
  if i ≤ 85 then payload [(m, 96), (s.ctxDigest (3 * i), 64), (s.ctxDigest (3 * i + 1), 32), (s.ctxDigest (3 * i + 2), 0)]
  else if i ≤ 88 then
    payload ((m, 96) :: (List.range 6).map (fun j =>
      let n := 6 * (i - 86) + j
      (if n < s.nEngines then s.get (TEL_DIGQ_QUASHED n) else 0, 16 * j)))
  else payload [(s.mint.digMfn % 65536, 96), (s.get MNT_DIGEST_DIGEST, 64), (s.bat.digMfn % 65536, 48), (s.get BAT_DIGEST_DIGEST, 16)]

def State.peerDig (s : State) (i : Nat) : Nat := (SMap.get (fun _ => 0) s.twn.dig i).toNat

/-- Both sets of the last major frame are complete. -/
def State.digComplete (s : State) : Bool :=
  (List.range 90).all (fun i => s.twn.dig.any (fun e => e.1 == i) && (i == 89 || slice (s.peerDig i) 111 96 == (s.mfn + 0xFFFF) % 65536))
    && (match s.twn.peerHealth with | some (h, _) => slice h.toNat 111 96 == s.mfn % 65536 | none => false)

/-- The engine whose state is being transferred. -/
def State.xferEngine (s : State) (n : Nat) : Bool :=
  (match s.twn.xfer with | some x => x.sel == n | none => false) || (match s.twn.serve with | some x => x.sel == n | none => false)

/-- Major frames from frame `m` to now, negative while it is still to come. -/
def State.framesSince (s : State) (m : Nat) : Int :=
  let n : Nat := (s.mfn + 2 ^ 32 - m) % 2 ^ 32
  if n < 2147483648 then (n : Int) else (n : Int) - 2 ^ 32

/-- The block of transfer `sel` was being transferred in the frame that is `ago` before this one, or later (R350, R355). -/
def State.movedSince (s : State) (sel ago : Nat) : Bool :=
  s.xferEngine sel || s.twn.moved.any (fun e => e.1 == sel && decide (s.framesSince e.2 ≤ ago))

/-- The lowest context of engine `n` whose digest differs from the peer's; its first where only the quash bits do. -/
def State.engDiff (s : State) (n : Nat) : Option Nat :=
  let peerCtx := fun i => slice (s.peerDig (i / 3)) (32 * (2 - i % 3) + 31) (32 * (2 - i % 3))
  match (List.range 16).find? (fun c => peerCtx (16 * n + c) != s.ctxDigest (16 * n + c)) with
  | some c => some (16 * n + c)
  | none => if slice (s.peerDig (86 + n / 6)) (16 * (n % 6) + 15) (16 * (n % 6)) != s.get (TEL_DIGQ_QUASHED n) then some (16 * n) else none

/-- A mismatch of the block whose bit of TWN_DIVG is `b` (R350). -/
def State.digMismatch (s : State) (b idx : Nat) : State :=
  let new := !(bitsOf (s.word TWN_DIVG) b b == 1)
  let s := (s.put ⟨TWN_DIVG, b, b⟩ 1).inc TWN_CNT_DIGX_COUNT
  let s := if s.bit TWN_DIGX_VALID then s else
    ((s.hwSet TWN_DIGX_VALID).put TWN_DIGX_INDEX idx).put ⟨TWN_DIGX, 15, 0⟩ (s.mfn + 0xFFFF)
  if new then (s.raiseN 356 0x01 idx).detect 77 else s

/-- The comparison of one block: it goes on with the state and whether all were equal so far. -/
def State.digBlock (x : State × Bool) (b : Nat) (diff : Option Nat) : State × Bool :=
  match diff with
  | some i => (x.1.digMismatch b i, false)
  | none => x

/-- All comparisons of a frame (R350). -/
def State.digCompare (s : State) : State × Bool :=
  let run := (match s.twn.peerHealth with | some (h, _) => slice h.toNat 63 48 | none => 0)
  let x := (List.range s.nEngines).foldl (fun x n =>
    if run.testBit n && s.twn.ownRun.getLsbD n && !s.movedSince n 1 then State.digBlock x n (s.engDiff n) else x) (s, true)
  let p := s.peerDig 89
  let own := (s.digestPay 89).toNat
  let old := fun m => ((s.mfn + 65536 - m) % 65536)
  let x := if slice p 111 96 = slice own 111 96 && slice p 95 64 != slice own 95 64 && !s.movedSince 17 (old (slice own 111 96)) then State.digBlock x 16 (some 256) else x
  if slice p 63 48 = slice own 63 48 && slice p 47 16 != slice own 47 16 && !s.movedSince 18 (old (slice own 63 48)) then State.digBlock x 17 (some 257) else x

/-- DIGEST_COMPARE (R350): once per frame; a frame whose cells are incomplete only ends the run of equal ones. -/
def execDigestCompare (s : State) : Out :=
  let s := s.disarm .digestCompare
  if !s.bit TWN_CTRL_CMP_EN || s.twn.compared == some s.mfn then ok s
  else
    let s := s.modTwn (fun t => { t with compared := some s.mfn })
    let x := if s.digComplete then s.digCompare else (s, false)
    let s := x.1.modTwn (fun t => { t with digRun := if x.2 then t.digRun + 1 else 0, dig := [] })
    ok s.shadowPut

/-- DIGEST_CELL (R350). -/
def execDigestCell (lane : Fin 2) (c : Cell) (s : State) : Out :=
  ok (s.cellIn lane c (fun _ => 0x04) (fun idx pay s =>
    let s := s.modTwn (fun t => { t with dig := SMap.ins t.dig idx (BitVec.ofNat 112 pay) })
    if s.digComplete then s.arm 0 .digestCompare else s))

/-! ## The echo check (R351) -/

/-- Auxiliary slots of the echoes of ACTA and ACTB. -/
def echoSlots (role : Nat) : Option (Nat × Nat) :=
  if role = rlFEED then some (4, 5) else if role = rlRECT then some (2, 3) else if role = rlBATT then some (3, 4) else none

/-- What one field of the downstream frame `i` back carried. -/
def LinkSt.sentAt (l : LinkSt) (b : Bool) (i : Nat) : Option (BitVec 16) :=
  match l.sentActs[i]? with
  | some (some (x, y)) => some (if b then y else x)
  | _ => none

/-- One field of the check, ACTB where `b`: `none` skipped, else passed or failed. -/
def LinkSt.echoPass (l : LinkSt) (b : Bool) (e : BitVec 16) : Option Bool :=
  match l.sentAt b (if b then 3 else 2), l.sentAt b (if b then 4 else 3) with
  | some x, some y => some (e == x || e == y)
  | _, _ => none

/-- The result of a check of one field on link `k` (R351). -/
def State.echoResult (s : State) (k : Nat) (b pass : Bool) (e : BitVec 16) : State :=
  let l := s.link k
  let n := (if b then l.echoFailB else l.echoFailA) + 1
  let put := fun (s : State) (n : Nat) (ep : Bool) =>
    s.modLink k (fun l => if b then { l with echoFailB := n, echoEpB := ep } else { l with echoFailA := n, echoEpA := ep })
  let ep := if b then l.echoEpB else l.echoEpA
  if pass then put s 0 false
  else if s.get TWN_CFG_ECHO_LIM ≤ n && !ep then
    let s := (put s n true).inc TWN_CNT_ECHOX_COUNT
    let s := if s.bit TWN_ECHOX_VALID then s else
      (((s.hwSet TWN_ECHOX_VALID).putBit TWN_ECHOX_FIELD b).put TWN_ECHOX_LINK k).put ⟨TWN_ECHOX, 15, 0⟩ e.toNat
    (s.raiseN 357 0x01 (k * 256 + boolNat b)).detect 78
  else put s n ep

/-- The check of the frame that link `k` brought at the consumer cycle. -/
def State.echoCheck (s : State) (k : Nat) : State :=
  let u := (s.link k).mb.data
  if s.holder || !s.bit TWN_CTRL_CMP_EN || !s.trained k || stTrip u.st || stAuton u.st || !stRoleOk u.st
      || !s.bit TWN_STAT_SHADOW_OK then s
  else
    match echoSlots (s.role k) with
    | none => s
    | some (sa, sb) =>
      let slot := u.sq.toNat % 16
      let b := slot == sb
      if slot = sa ∨ slot = sb then
        match (s.link k).echoPass b u.x with
        | some p => s.echoResult k b p u.x
        | none => s
      else s

/-! ## Yield by rejection, and renewed seizes (R345) -/

/-- R553 disregards the frame that link `k` brought. -/
def State.disregarded (s : State) (k : Nat) : Bool :=
  let l := s.link k
  l.disregards (s.clk.now - s.clk.cyc % 75 - 75) && (!stAuthOk l.mb.data.st || stAuton l.mb.data.st)

/-- The evaluation of a link frame: `fresh` says which links brought a valid frame. -/
def State.yieldEval (s : State) (fresh : Nat → Bool) : State :=
  let seen := fun k => s.seized k && fresh k && !s.disregarded k
  let bad := s.countLinks (fun k => seen k && (s.link k).reject)
  let all := s.countLinks seen
  if s.holder && s.bit TWN_CTRL_EN && decide (all < 2 * bad) then
    if 1 ≤ s.twn.reject then
      ((s.putBit TWN_STAT_NO_CLAIM true).authority false s.epoch 2).raiseTwin 0x08 2
    else s.modTwn (fun t => { t with reject := t.reject + 1 })
  else s.modTwn (fun t => { t with reject := 0 })

/-- RESEIZE_EN at a major-frame start. -/
def State.reseizeAll (s : State) : State :=
  if s.holder && s.bit TWN_CFG_RESEIZE_EN then
    s.forN s.nLinks (fun k t =>
      let l := t.link k
      if t.trained k && l.firstSeen && !l.autonLast && l.seize.isNone && (!t.seized k || l.reject) then t.startSeize k 2 else t)
  else s

/-! ## The twin's part of a major-frame start -/

/-- HEALTH payload (R338). -/
def State.healthPay (s : State) : BitVec 112 :=
  payload [(s.mfn % 65536, 96), (s.get TWN_BUILD_BUILD_ID, 64), (s.twn.ownRun.toNat, 48), (s.countLinks s.trained, 41),
    (s.countLinks s.seized, 34), (s.countLinks (fun k => s.trained k && s.bmBit LNK_AUDITOK k), 27), (s.worstClass, 25),
    (boolNat s.safe, 24), (boolNat (s.bit TWN_STAT_SHADOW_OK), 23), (boolNat (s.bit TWN_STAT_READY), 22), (boolNat s.holder, 21)]

/-- READY, the cells due, and the digests to send. -/
def State.twinFrame (s : State) (running : Nat → Bool) : State :=
  let s := if s.holder then s.notReadyPut else s.readyPut s.readyNow
  let run := (List.range s.nEngines).foldl (fun (a : BitVec 16) n => if running n then a ||| (1#16 <<< n) else a) 0
  let s := s.modTwn (fun t => { t with ownRun := run, timeDue := true, digNext := 0 })
  (s.modTwn (fun t => { t with health := some s.healthPay })).reseizeAll

/-! ## Forwarded commands (R354) -/

/-- A response waits to be sent. -/
def State.fwdReply (s : State) (tag status : Nat) : State :=
  let w := cellWord 0x07 0 (payload [(tag, 96), (status, 92), (s.epoch, 76), (boolNat s.holder, 75)])
  let s := if status = 1 then s else s.inc TWN_CNT_NACK_COUNT
  s.modTwn (fun t => { t with rsp := t.rsp ++ [w] })

/-- The check on arrival of the last cell. -/
def State.fwdCheck (s : State) (r : FwdRx) : State :=
  let s := s.modTwn (fun t => { t with fwdRx := none })
  let role := if r.target = 2 then s.holder else if r.target = 3 then !s.holder else r.target == s.unitBit
  if !role then s.fwdReply r.tag 2
  else if 2 ≤ r.target && r.epoch != s.epoch then s.fwdReply r.tag 3
  else if s.bit TWN_FWD_RXS_FULL then s.fwdReply r.tag 4
  else if 32 < r.len || !(List.range ((r.len + 2) / 3)).all (fun i => r.cells.contains i) then s.fwdReply r.tag 5
  else
    let s := s.forN r.len (fun i t => t.setWord (TWN_FWD_RXBUF i) (SMap.get (fun _ => 0) r.words i))
    let s := ((s.hwSet TWN_FWD_RXS_FULL).put TWN_FWD_RXS_TARGET r.target).put TWN_FWD_RXS_LEN r.len
    let s := (s.put TWN_FWD_RXS_TAG r.tag).putBit TWN_FWD_RXE_HOLDER s.holder
    ((s.put TWN_FWD_RXE_EPOCH s.epoch).raiseN 358 0x01 r.tag).fwdReply r.tag 1

/-- FWD_HDR (R354). -/
def execFwdHdr (lane : Fin 2) (c : Cell) (s : State) : Out :=
  ok (s.cellIn lane c (fun _ => 0x05) (fun _ pay s =>
    let r : FwdRx := { target := slice pay 111 110, len := slice pay 109 104, tag := slice pay 103 88, epoch := slice pay 87 72 }
    if r.len = 0 then s.fwdCheck r else s.modTwn (fun t => { t with fwdRx := some r })))

/-- FWD_DATA (R354). -/
def execFwdData (lane : Fin 2) (c : Cell) (s : State) : Out :=
  ok (s.cellIn lane c (fun _ => 0x06) (fun idx pay s =>
    match s.twn.fwdRx with
    | none => s
    | some r =>
      if slice pay 111 96 = r.tag then
        let ws := (List.range 3).foldl (fun m j => SMap.ins m (3 * idx + j) (BitVec.ofNat 32 (slice pay (32 * j + 31) (32 * j)))) r.words
        let r := { r with words := ws, cells := idx :: r.cells }
        if idx + 1 = (r.len + 2) / 3 then s.fwdCheck r else s.modTwn (fun t => { t with fwdRx := some r })
      else s))

/-- FWD_RSP (R354): a response that comes when no command waits for it is discarded. -/
def execFwdRsp (lane : Fin 2) (c : Cell) (s : State) : Out :=
  ok (s.cellIn lane c (fun _ => 0x07) (fun _ pay s =>
    if s.bit TWN_FWD_TXS_BUSY && slice pay 111 96 == s.get TWN_FWD_TX_TAG then s.fwdEnd (slice pay 95 92) else s))

/-- FWD_TIMEOUT (R354). -/
def execFwdTimeout (s : State) : Out :=
  let s := s.disarm .fwdTimeout
  ok (if s.bit TWN_FWD_TXS_BUSY then s.fwdEnd 6 else s)

/-- SEND (R354). -/
def State.fwdSend (s : State) : State :=
  let len := s.get TWN_FWD_TX_LEN
  let tag := s.get TWN_FWD_TX_TAG
  if 32 < len then
    (((s.put TWN_FWD_TXS_RSP 5).hwSet TWN_FWD_TXS_FAIL).hwSet TWN_FWD_TXS_DONE).raiseN 358 0x02 (0x50000 + tag)
  else
    let w := fun i => if i < len then (s.word (TWN_FWD_TXBUF i)).toNat else 0
    let hdr := cellWord 0x05 0 (payload [(s.get TWN_FWD_TX_TARGET, 110), (len, 104), (tag, 88), (s.epoch, 72)])
    let data := (List.range ((len + 2) / 3)).map (fun i =>
      cellWord 0x06 i (payload [(tag, 96), (w (3 * i), 0), (w (3 * i + 1), 32), (w (3 * i + 2), 64)]))
    let s := ((s.putBit TWN_FWD_TX_SEND true).putBit TWN_FWD_TXS_BUSY true).put TWN_FWD_TXS_RSP 0
    (s.modTwn (fun t => { t with fwd := hdr :: data, fwdLane := none })).arm (64 * 75 + 74 - s.clk.cyc % 75) .fwdTimeout

/-! ## Register operations (R341, R354, R357, R358) -/

/-- CNT_CLR. -/
def State.twnCntClr (s : State) : State :=
  [TWN_CNT_UE_COUNT, TWN_CNT_HBMISS_COUNT, TWN_CNT_DIGX_COUNT, TWN_CNT_ECHOX_COUNT, TWN_CNT_NACK_COUNT].foldl (fun t f => t.put f 0) s

/-- HANDOVER (R343, R358). -/
def State.hoWrite (s : State) : State :=
  if !s.holder then s.raiseTwin 0x05 5
  else if s.twn.ho.isSome then s
  else s.hoStart (s.get TWN_HO_MFN_MFN) (s.get TWN_HO_FRAME)

/-- TWN_CTRL. -/
def State.wTwnCtrl (v : Word) (s : State) : State :=
  s.regWrite TWN_CTRL v (!(tb v 31 && tb v 30)) (fun s =>
    let s := if tb v 4 then s.twnCntClr else s
    let s := if tb v 2 then s else (s.laneDrop 0).laneDrop 1
    let s := if tb v 1 then s.hbOk else s.modTwn (fun t => { t with hbo := false })
    let s := if tb v 29 then (if s.loadAllowed then s.putBit TWN_CTRL_TALIGN true else s.access TWN_CTRL) else s
    let s := if tb v 31 then s.putBit TWN_CTRL_CLAIM true else s
    if tb v 30 then s.hoWrite else s)

/-- TWN_CFG: HB_OK follows MISS_N (R340), SHADOW_OK follows DIG_OK_N (R350). -/
def State.wTwnCfg (v : Word) (s : State) : State := s.regWrite TWN_CFG v true (fun s => s.hbOk.shadowPut)

/-- TWN_CSEED (R341). -/
def State.wTwnCseed (v : Word) (s : State) : State :=
  s.regWrite TWN_CSEED v (!s.holder && decide (s.cKnown < bitsOf v 14 0)) id

/-- TWN_FWD_TX: not while a command is in flight. -/
def State.wFwdTx (v : Word) (s : State) : State :=
  if s.bit TWN_FWD_TXS_BUSY then s
  else s.regWrite TWN_FWD_TX v true (fun s => if tb v 31 then s.fwdSend else s)

/-- GO (R355, R358). -/
def State.xferGo (s : State) : State :=
  let sel := s.get TWN_XFER_CTRL_SEL
  let refuse := fun (s : State) (e : Nat) =>
    ((s.put TWN_XFER_STAT_ERR e).hwSet TWN_XFER_STAT_FAIL).raiseN 359 0x02 (sel * 256 + e)
  if s.holder then refuse s 3
  else if sel ≤ 15 && decide (s.nEngines ≤ sel) then refuse s 6
  else
    let m := (s.mfn + 4) % 2 ^ 32
    let xw := s.get TWN_XFER_CTRL_XW
    let s := ((s.put TWN_XFER_STAT_ERR 0).putBit TWN_XFER_STAT_BUSY true).putBit TWN_XFER_CTRL_GO true
    s.modTwn (fun t => { t with
      xfer := some { sel := sel, xw := xw, m := m }, xLane := none
      xcells := t.xcells ++ [cellWord 0x08 sel (payload [(xw, 104), (m, 72)])] })

/-- TWN_XFER_CTRL: not while a transfer is in progress. -/
def State.wXferCtrl (v : Word) (s : State) : State :=
  if s.twn.xfer.isSome then s else s.regWrite TWN_XFER_CTRL v true (fun s => if tb v 31 then s.xferGo else s)

/-! ## Commands that are one register write -/

def State.twnBit (s : State) (who : Who) (b : Nat) (v : Word) : State := s.busWrite who TWN_CTRL (withBit v b) (State.wTwnCtrl (withBit v b))
/-- CLAIM (R342). -/
def execClaim (who : Who) (v : Word) (s : State) : Out := ok (s.twnBit who 31 v)
/-- HANDOVER (R343). -/
def execHandover (who : Who) (v : Word) (s : State) : Out := ok (s.twnBit who 30 v)
/-- TALIGN (R353). -/
def execTalign (who : Who) (v : Word) (s : State) : Out := ok (s.twnBit who 29 v)
/-- TWN_CNT_CLR (R358). -/
def execTwnCntClr (who : Who) (v : Word) (s : State) : Out := ok (s.twnBit who 4 v)
/-- FWD_SEND (R354). -/
def execFwdSend (who : Who) (v : Word) (s : State) : Out := ok (s.busWrite who TWN_FWD_TX (withBit v 31) (State.wFwdTx (withBit v 31)))
/-- XFER_GO (R355). -/
def execXferGo (who : Who) (v : Word) (s : State) : Out := ok (s.busWrite who TWN_XFER_CTRL (withBit v 31) (State.wXferCtrl (withBit v 31)))

end Sys2Proof.Machine
end

