-- ==== Sys2Proof/Machine/Clock.lean ====
section
/-! DEFINITION. Machine/Clock.lean: the clocks and the timebase (02): the clock monitors, the PLLs, the rate of TCK, the
supplies' status, the load of T, and alignment to SYNC_IN. -/

namespace Sys2Proof.Machine

/-! ## Clock monitors and PLLs (R31, R43, R473) -/

/-- The fault source of a monitored clock (R363). -/
def clkSource (m : ClkMon) : Nat :=
  match m with | .mon => 2 | .ref => 4 | .fab => 5 | .sup => 6 | .lnk => 7 | .tbs => 8 | .aon => 9

/-- Every monitored clock. -/
def clkMons : List ClkMon := [.mon, .ref, .fab, .sup, .lnk, .tbs, .aon]

/-- The second window in a row outside the tolerance is the entry into the fault (R31, R362, R473). -/
def State.clockFault (s : State) (m : ClkMon) : State :=
  let s := { s with clk := { s.clk with clkFault := m :: s.clk.clkFault } }
  let s := if m = .mon then s else s.raiseN 32 0x03 (clkSource m)
  s.detect (clkSource m)

/-- The count of a clock in a window, and the nominal count as a fraction (R30, R31): 6.4 µs of each clock, 256 cycles of
40 MHz in 160 of REF, and 40 MHz over 32.768 kHz for AON. -/
def clkCount (m : ClkMon) (c : ClkCounts) : Nat × Nat × Nat :=
  match m with
  | .ref => (c.ref, 160, 1)
  | .fab => (c.fab, 1600, 1)
  | .sup => (c.sup, 2560, 1)
  | .lnk => (c.lnk, 2560, 1)
  | .tbs => (c.tbs, 1280, 1)
  | .aon => (c.aon, 156250, 128)
  | .mon => (c.mon, 256, 1)

/-- A count outside ±8 % of nominal (R31). -/
def clkBad (c : ClkCounts) (m : ClkMon) : Bool :=
  let n := clkCount m c
  decide (100 * n.1 * n.2.2 < 92 * n.2.1 ∨ 108 * n.2.1 < 100 * n.1 * n.2.2)

/-- CLOCK_CHECK (R31): a window ends with its counts. -/
def execClockCheck (cnt : ClkCounts) (s : State) : Out :=
  let bad := clkMons.filter (clkBad cnt)
  let s := clkMons.foldl (fun t m =>
    if bad.contains m && s.clk.badWin.contains m && !s.clk.clkFault.contains m then t.clockFault m else t) s
  ok { s with clk := { s.clk with badWin := bad, clkFault := s.clk.clkFault.filter bad.contains } }

/-- Whether a PLL is locked. -/
def State.pllLocked (s : State) (p : Pll) : Bool :=
  match p with | .frame => s.bit SYS_CLKSTAT_FRAME_LOCK | .system => s.bit SYS_CLKSTAT_SYS_LOCK

/-- A PLL's lock as the status registers show it. -/
def State.putPll (s : State) (p : Pll) (b : Bool) : State :=
  match p with
  | .frame => (s.putBit SYS_CLKSTAT_FRAME_LOCK b).putBit TBS_STATUS_PLL_LOCK b
  | .system => s.putBit SYS_CLKSTAT_SYS_LOCK b

def pllNum (p : Pll) : Nat := match p with | .frame => 0 | .system => 1

/-- PLL_UNLOCK (R473, R363). -/
def execPllUnlock (p : Pll) (s : State) : Out :=
  if s.pllLocked p then 
    ok ((((s.putPll p false).raiseN 32 0x01 (pllNum p)).raiseN 32 0x03 (11 + pllNum p)).detect (11 + pllNum p)) else ok s

/-- PLL_LOCK (R473). -/
def execPllLock (p : Pll) (s : State) : Out :=
  let s := s.disarm (.pllLock p)
  if s.pllLocked p then ok s else ok ((s.putPll p true).raiseN 32 0x02 (pllNum p))

/-! ## Supplies (R473, R539) -/

/-- PWRGOOD_FALL (R473, R363). -/
def execPwrgoodFall (s : State) : Out := ok (((s.putBit SYS_PWRSTAT_PWRGOOD false).raiseN 34 0x03 0).detect 15)
/-- PWRGOOD_RISE (R473). -/
def execPwrgoodRise (s : State) : Out := ok ((s.putBit SYS_PWRSTAT_PWRGOOD true).raiseN 34 0x04 0)

/-- VPP_VLT within its range, in both registers that show it. -/
def State.putVpp (s : State) (b : Bool) : State := (s.putBit SYS_PWRSTAT_VPP_OK b).putBit VLT_STAT_VPP_OK b

/-- VPP_IN (R473). -/
def execVppIn (s : State) : Out := ok ((s.putVpp true).raiseN 34 0x05 0)
/-- VPP_OUT (R473). -/
def execVppOut (s : State) : Out := ok ((s.putVpp false).raiseN 34 0x06 0)

/-! ## The load of T (R40) -/

/-- TBS_CTRL (R40, R42). A LOAD while the load of a time alignment is pending makes it a plain load: the MFN to be set is
dropped (log entry 27). -/
def State.wTbsCtrl (v : Word) (s : State) : State :=
  if !tb v 0 then s
  else if s.loadAllowed then { s.putBit TBS_STATUS_LOAD_PEND true with clk := { s.clk with loadMfn := none } }
  else s.access TBS_CTRL

/-- TBS_LOAD_LO and TBS_LOAD_HI: not while a load is pending (R40). -/
def State.wTbsLoad (a : Nat) (v : Word) (s : State) : State := s.regWrite a v (!s.bit TBS_STATUS_LOAD_PEND) id

/-- TIME_LOAD (R40): the write has LOAD = 1. -/
def execTimeLoad (who : Who) (v : Word) (s : State) : Out := ok (s.busWrite who TBS_CTRL (withBit v 0) (State.wTbsCtrl (withBit v 0)))

/-- TIME_LOAD_APPLY (R40, R353): at the start of a major frame, which then starts at T = L. No frame is lengthened and no
strobe moves: an arrival measured before it is told in the new T. -/
def execTimeLoadApply (s : State) : Out :=
  if s.bit TBS_STATUS_LOAD_PEND then
    let l : Nat := s.get TBS_LOAD_HI_T * 2 ^ 32 + s.get TBS_LOAD_LO_T
    let moved := (l : Int) - s.clk.tBase.toNat
    let s := match s.clk.loadMfn with
      | some m => s.put TBS_MFN_MFN m.toNat
      | none => s
    let s : State := { s with clk := { s.clk with
      tBase := BitVec.ofNat 64 l, loadMfn := none, align := s.clk.align.map (fun a => (a.1 + moved, a.2)) } }
    ok ((s.put TBS_MFOFS_OFS (l % 1920)).putBit TBS_STATUS_LOAD_PEND false)
  else ok s

/-! ## The grid (R36, R41, R46) -/

/-- The frame in progress began `d` ticks ago, the grid phase being `ofs` (R36); the FAB cycle is the first of that tick. -/
def State.rebase (s : State) (d ofs : Nat) : State :=
  let s := { s with clk := { s.clk with tBase := s.T - BitVec.ofNat 64 d, cyc := (d * 5 + 3) / 4 } }
  s.put TBS_MFOFS_OFS ofs

/-- TBS_MFOFS (R36, R41): in ALIGN alone; the frame that the new phase gives is then in progress. -/
def State.wTbsMfofs (v : Word) (s : State) : State :=
  s.regWrite TBS_MFOFS v (s.get TBS_SYNC_CTRL_MODE == 3) (fun s =>
    let ofs := s.get TBS_MFOFS_OFS
    s.rebase ((s.T.toNat + 1920 - ofs) % 1920) ofs)

/-- A pulse is due within 2 major frames, to the last FAB cycle of the tick in which they end (R5, R47). -/
def State.awaitPulse (s : State) : State := s.arm (s.toTickEnd 4800) .syncMissing

/-- TBS_SYNC_CTRL (R47, R48): in FOLLOWER a pulse is due within 2 major frames. -/
def State.wTbsSync (v : Word) (s : State) : State :=
  let m := bitsOf v 1 0
  let old := s.get TBS_SYNC_CTRL_MODE
  s.regWrite TBS_SYNC_CTRL v (!(old == 2 && (m == 1 || m == 3) && s.anyTrained)) (fun s =>
    if m = old then s
    else
      let s := { s with clk := { s.clk with syncGood := 0, syncBad := 0, missing := false, align := none } }
      if m = 2 then s.awaitPulse else s.disarm .syncMissing)

/-! ## SYNC_OUT and SYNC_IN (R45, R46, R47) -/

/-- A pulse is driven on SYNC_OUT: 8 ticks wide at the start of an epoch, else 4 (R45). -/
def State.drivePulse (s : State) (wide : Bool) : State :=
  { s with clk := { s.clk with syncOut := some (s.T, if wide then 8 else 4) } }

/-- A number held to the range of TBS_SYNC_STAT.ERR (R49). -/
def satErr (e : Int) : Int := max (-32767) (min 32767 e)

/-- The distance of an arrival from the nearest start of a major frame (R46, R47, R49). -/
def fromGrid (e : Int) : Int := (e + 960) % 1920 - 960

/-- SYNC_PULSE (R45..R47): a pulse arrived `err` ticks from the nearest start of a major frame on the own grid; `wide`
marks the start of an epoch. The start of the frame in progress, told from T, may lie before T = 0 (R36). In ALIGN and FOLLOWER it is repeated on SYNC_OUT. Each SYNC_LOST follows the fourth bad pulse
of a run; a run that goes on raises and sets nothing more until a good pulse has come (log entry 27). -/
def execSyncPulse (err : Int) (wide : Bool) (s : State) : Out :=
  let mode := s.get TBS_SYNC_CTRL_MODE
  let at_ := err - s.get TBS_SYNC_CTRL_DLY
  let e := fromGrid at_
  let near : Int := (s.T.toNat : Int) - (s.clk.cyc * 4 / 5 : Nat) + (if s.clk.cyc < 1200 then 0 else 1920 : Nat)
  if mode = 3 then
    let s := (s.drivePulse wide).put TBS_SYNC_STAT_ERR (ofInt 16 (satErr e))
    let good := if -1 ≤ e ∧ e ≤ 1 then s.clk.syncGood + 1 else 0
    let s := { s with clk := { s.clk with syncGood := good, align := some (near + at_, wide) } }
    ok (if 4 ≤ good then s.putBit TBS_SYNC_STAT_LOCKED true else s)
  else if mode = 2 then
    let s := (s.drivePulse wide).put TBS_SYNC_STAT_ERR (ofInt 16 (satErr e))
    let s := ({ s with clk := { s.clk with missing := false } }).awaitPulse
    let bad := if -2 ≤ e ∧ e ≤ 2 then 0 else min 5 (s.clk.syncBad + 1)
    let s := { s with clk := { s.clk with syncBad := bad } }
    if bad = 4 then
      ok (((s.putBit TBS_SYNC_STAT_LOCKED false).hwSet TBS_SYNC_STAT_SYNC_LOST).raiseN 41 0x01 (ofInt 32 (satErr e)))
    else ok s
  else ok s

/-- SYNC_ALIGN (R46): at a major-frame start in ALIGN the grid moves to the last pulse; the parity of MFN follows its
width. -/
def execSyncAlign (s : State) : Out :=
  match s.clk.align with
  | none => ok s
  | some (tp, wide) =>
    let s := { s with clk := { s.clk with align := none } }
    if s.get TBS_SYNC_CTRL_MODE ≠ 3 then ok s
    else
      let now : Int := s.T.toNat
      let d := ((now - tp) % 1920).toNat
      let n := (now - tp) / 1920
      let odd := (n + (if wide then 0 else 1)) % 2 == 1
      let s := s.rebase d (((now - d) % 1920).toNat)
      let m := s.mfn
      ok (s.put TBS_MFN_MFN (if (m % 2 == 1) == odd then m else if m % 2 = 1 then m - 1 else m + 1))

/-- SYNC_MISSING (R47): no pulse within 2 major frames; once until a pulse comes. -/
def execSyncMissing (s : State) : Out :=
  let s := s.disarm .syncMissing
  if s.get TBS_SYNC_CTRL_MODE = 2 && !s.clk.missing then
    let s := { s with clk := { s.clk with missing := true } }
    ok ((s.hwSet TBS_SYNC_STAT_SYNC_LOST).raiseN 41 0x02 0)
  else ok s

end Sys2Proof.Machine
end

