-- ==== Sys2Proof/Machine/Crypto.lean ====
section
/-! DEFINITION. Machine/Crypto.lean: SHA-384 (FIPS 180-4) and the verification of ECDSA P-384 signatures (FIPS 186-5), the standards
that the spec's list of standards names (00) and that R419 and R454 use; their contents are PRESUMED from those
standards (log entry 16). -/

namespace Sys2Proof.Machine

/-! ## SHA-384 -/

abbrev Word64 := BitVec 64

/-- The round constants. -/
def shaK : List Word64 :=
  [0x428A2F98D728AE22, 0x7137449123EF65CD, 0xB5C0FBCFEC4D3B2F, 0xE9B5DBA58189DBBC, 0x3956C25BF348B538,
    0x59F111F1B605D019, 0x923F82A4AF194F9B, 0xAB1C5ED5DA6D8118, 0xD807AA98A3030242, 0x12835B0145706FBE,
    0x243185BE4EE4B28C, 0x550C7DC3D5FFB4E2, 0x72BE5D74F27B896F, 0x80DEB1FE3B1696B1, 0x9BDC06A725C71235,
    0xC19BF174CF692694, 0xE49B69C19EF14AD2, 0xEFBE4786384F25E3, 0x0FC19DC68B8CD5B5, 0x240CA1CC77AC9C65]
  ++ [0x2DE92C6F592B0275, 0x4A7484AA6EA6E483, 0x5CB0A9DCBD41FBD4, 0x76F988DA831153B5, 0x983E5152EE66DFAB,
    0xA831C66D2DB43210, 0xB00327C898FB213F, 0xBF597FC7BEEF0EE4, 0xC6E00BF33DA88FC2, 0xD5A79147930AA725,
    0x06CA6351E003826F, 0x142929670A0E6E70, 0x27B70A8546D22FFC, 0x2E1B21385C26C926, 0x4D2C6DFC5AC42AED,
    0x53380D139D95B3DF, 0x650A73548BAF63DE, 0x766A0ABB3C77B2A8, 0x81C2C92E47EDAEE6, 0x92722C851482353B]
  ++ [0xA2BFE8A14CF10364, 0xA81A664BBC423001, 0xC24B8B70D0F89791, 0xC76C51A30654BE30, 0xD192E819D6EF5218,
    0xD69906245565A910, 0xF40E35855771202A, 0x106AA07032BBD1B8, 0x19A4C116B8D2D0C8, 0x1E376C085141AB53,
    0x2748774CDF8EEB99, 0x34B0BCB5E19B48A8, 0x391C0CB3C5C95A63, 0x4ED8AA4AE3418ACB, 0x5B9CCA4F7763E373,
    0x682E6FF3D6B2B8A3, 0x748F82EE5DEFB2FC, 0x78A5636F43172F60, 0x84C87814A1F0AB72, 0x8CC702081A6439EC]
  ++ [0x90BEFFFA23631E28, 0xA4506CEBDE82BDE9, 0xBEF9A3F7B2C67915, 0xC67178F2E372532B, 0xCA273ECEEA26619C,
    0xD186B8C721C0C207, 0xEADA7DD6CDE0EB1E, 0xF57D4F7FEE6ED178, 0x06F067AA72176FBA, 0x0A637DC5A2C898A6,
    0x113F9804BEF90DAE, 0x1B710B35131C471B, 0x28DB77F523047D84, 0x32CAAB7B40C72493, 0x3C9EBE0A15C9BEBC,
    0x431D67C49C100D4C, 0x4CC5D4BECB3E42B6, 0x597F299CFC657E2A, 0x5FCB6FAB3AD6FAEC, 0x6C44198C4A475817]

/-- The eight working words. -/
structure Sha where
  a : Word64
  b : Word64
  c : Word64
  d : Word64
  e : Word64
  f : Word64
  g : Word64
  h : Word64
deriving DecidableEq, Repr

/-- The initial hash value of SHA-384. -/
def shaInit : Sha :=
  { a := 0xCBBB9D5DC1059ED8, b := 0x629A292A367CD507, c := 0x9159015A3070DD17, d := 0x152FECD8F70E5939
    e := 0x67332667FFC00B31, f := 0x8EB44A8768581511, g := 0xDB0C2E0D64F98FA7, h := 0x47B5481DBEFA4FA4 }

def Sha.add (x y : Sha) : Sha :=
  { a := x.a + y.a, b := x.b + y.b, c := x.c + y.c, d := x.d + y.d, e := x.e + y.e, f := x.f + y.f, g := x.g + y.g, h := x.h + y.h }

/-- One round with its constant and its word of the message schedule. -/
def Sha.round (x : Sha) (k w : Word64) : Sha :=
  let s1 := x.e.rotateRight 14 ^^^ x.e.rotateRight 18 ^^^ x.e.rotateRight 41
  let t1 := x.h + s1 + ((x.e &&& x.f) ^^^ (~~~x.e &&& x.g)) + k + w
  let s0 := x.a.rotateRight 28 ^^^ x.a.rotateRight 34 ^^^ x.a.rotateRight 39
  let t2 := s0 + ((x.a &&& x.b) ^^^ (x.a &&& x.c) ^^^ (x.b &&& x.c))
  { a := t1 + t2, b := x.a, c := x.b, d := x.c, e := x.d + t1, f := x.e, g := x.f, h := x.g }

/-- The next word of the message schedule from the 16 before it. -/
def shaNext (w : List Word64) : Word64 :=
  let x := w.getD 14 0
  let y := w.getD 1 0
  (x.rotateRight 19 ^^^ x.rotateRight 61 ^^^ (x >>> 6)) + w.getD 9 0 + (y.rotateRight 1 ^^^ y.rotateRight 8 ^^^ (y >>> 7)) + w.getD 0 0

/-- The rounds of one block: the constants left, the next 16 words of the schedule, the working words. -/
def shaRounds : List Word64 → List Word64 → Sha → Sha
  | [], _, x => x
  | k :: ks, w, x => shaRounds ks (w.drop 1 ++ [shaNext w]) (x.round k (w.getD 0 0))

/-- The number that bytes spell, most significant byte first. -/
def natBE (bs : List Byte) : Nat := bs.foldl (fun n b => n * 256 + b.toNat) 0

/-- The 16 words of a block of 128 bytes. -/
def shaWords (bs : List Byte) : List Word64 := (List.range 16).map (fun i => BitVec.ofNat 64 (natBE ((bs.drop (8 * i)).take 8)))

/-- `n` blocks. -/
def shaBlocks : Nat → List Byte → Sha → Sha
  | 0, _, x => x
  | n + 1, bs, x => shaBlocks n (bs.drop 128) (x.add (shaRounds shaK (shaWords bs) x))

/-- The message with its padding: a one bit, zeros, and its length in bits in 16 bytes. -/
def shaPad (bs : List Byte) : List Byte :=
  bs ++ [0x80] ++ List.replicate ((239 - bs.length % 128) % 128) 0 ++ (List.range 16).map (fun i => BitVec.ofNat 8 (8 * bs.length / 256 ^ (15 - i)))

/-- SHA-384 (R419, R454). -/
def sha384 (bs : List Byte) : BitVec 384 :=
  let m := shaPad bs
  let x := shaBlocks (m.length / 128) m shaInit
  x.a ++ x.b ++ x.c ++ x.d ++ x.e ++ x.f

/-! ## ECDSA P-384 -/

/-- The field prime, the order of the base point, the curve's coefficient, and the base point. -/
def p384P : Nat := 2 ^ 384 - 2 ^ 128 - 2 ^ 96 + 2 ^ 32 - 1
def p384N : Nat := 0xFFFFFFFFFFFFFFFFFFFFFFFFFFFFFFFFFFFFFFFFFFFFFFFFC7634D81F4372DDF581A0DB248B0A77AECEC196ACCC52973
def p384B : Nat := 0xB3312FA7E23EE7E4988E056BE3F82D19181D9C6EFE8141120314088F5013875AC656398D8A2ED19D2A85C8EDD3EC2AEF
def p384G : Nat × Nat :=
  (0xAA87CA22BE8B05378EB1C71EF320AD746E1D3B628BA79B9859F741E082542A385502F25DBF55296C3A545E3872760AB7,
   0x3617DE4A96262C6F5D9E98BF9292DC29F8F41DBD289A147CE9DA3113B5F0B8C00A60B1CE1D7E819D7A431D7C90EA0E5F)

/-- `b ^ e` modulo `m`, over the low `k` bits of `e`, most significant first. -/
def powMod (m b e : Nat) : Nat → Nat
  | 0 => 1
  | k + 1 => let r := powMod m b (e / 2) k; r * r * (if e % 2 = 1 then b else 1) % m

/-- The inverse modulo a prime below 2^384. -/
def invMod (m a : Nat) : Nat := powMod m a (m - 2) 384

/-- A point in Jacobian coordinates; `z = 0` is the point at infinity. -/
structure JacPt where
  x : Nat
  y : Nat
  z : Nat
deriving DecidableEq, Repr

/-- `a - b` modulo the field prime, for `b` below it. -/
def fsub (a b : Nat) : Nat := (a + p384P - b) % p384P

/-- A point and itself. -/
def JacPt.dbl (q : JacPt) : JacPt :=
  let p := p384P
  let z2 := q.z * q.z % p
  let m := 3 * (fsub q.x z2 * (q.x + z2) % p) % p
  let y2 := q.y * q.y % p
  let s := 4 * (q.x * y2 % p) % p
  let x := fsub (m * m % p) (2 * s % p)
  { x := x, y := fsub (m * fsub s x % p) (8 * (y2 * y2 % p) % p), z := 2 * (q.y * q.z % p) % p }

/-- The sum of two points. -/
def JacPt.add (q r : JacPt) : JacPt :=
  let p := p384P
  if q.z = 0 then r
  else if r.z = 0 then q
  else
    let q2 := q.z * q.z % p
    let r2 := r.z * r.z % p
    let u1 := q.x * r2 % p
    let u2 := r.x * q2 % p
    let s1 := q.y * (r2 * r.z % p) % p
    let s2 := r.y * (q2 * q.z % p) % p
    if u1 = u2 then
      if s1 = s2 then q.dbl else { x := 1, y := 1, z := 0 }
    else
      let h := fsub u2 u1
      let t := fsub s2 s1
      let h2 := h * h % p
      let h3 := h2 * h % p
      let v := u1 * h2 % p
      let x := fsub (t * t % p) ((h3 + 2 * v) % p)
      { x := x, y := fsub (t * fsub v x % p) (s1 * h3 % p), z := q.z * r.z % p * h % p }

/-- `k · q` over the low `n` bits of `k`. -/
def JacPt.mul (q : JacPt) (k : Nat) : Nat → JacPt
  | 0 => { x := 1, y := 1, z := 0 }
  | n + 1 => let r := (q.mul (k / 2) n).dbl; if k % 2 = 1 then r.add q else r

/-- A public key of 97 bytes: an uncompressed point of the curve. -/
def p384Key (key : List Byte) : Option JacPt :=
  let x := natBE ((key.drop 1).take 48)
  let y := natBE ((key.drop 49).take 48)
  if key.length = 97 ∧ key.getD 0 0 = 4 ∧ x < p384P ∧ y < p384P ∧ (y * y + 3 * x) % p384P = (x * x % p384P * x + p384B) % p384P then
    some { x := x, y := y, z := 1 }
  else none

/-- The signature `r`, `s`, each of 48 bytes and most significant byte first, verifies over the SHA-384 of the message. -/
def ecdsaVerify (key msg sig : List Byte) : Bool :=
  let r := natBE (sig.take 48)
  let s := natBE ((sig.drop 48).take 48)
  match p384Key key with
  | none => false
  | some q =>
    if r = 0 ∨ p384N ≤ r ∨ s = 0 ∨ p384N ≤ s then false
    else
      let w := invMod p384N s
      let g : JacPt := { x := p384G.1, y := p384G.2, z := 1 }
      let t := (g.mul ((sha384 msg).toNat * w % p384N) 384).add (q.mul (r * w % p384N) 384)
      let zi := invMod p384P t.z
      t.z != 0 && t.x * (zi * zi % p384P) % p384P % p384N == r

end Sys2Proof.Machine
end

