-- ==== Sys2Proof/Machine/Vault.lean ====
section
/-! DEFINITION. Machine/Vault.lean: the Vault (16): cells and margins, integrity, lifecycle and rollback, the scan, the
programming commands, the shadow override and the read window. -/

namespace Sys2Proof.Machine

/-! ## Layout (R423) -/

/-- First and last word of a region. -/
def vltWords (r : Nat) : Nat × Nat :=
  match r with
  | 0 => (0, 31) | 1 => (32, 95) | 2 => (96, 111) | 3 => (112, 127) | 4 => (128, 223) | 5 => (224, 255) | 6 => (256, 383) | _ => (384, 511)

/-- The region of a word. -/
def vltRegion (w : Nat) : Nat := ((List.range 8).find? (fun r => decide (w ≤ (vltWords r).2))).getD 7

/-- Words of a region, ascending. -/
def vltList (r : Nat) : List Nat := (List.range ((vltWords r).2 + 1 - (vltWords r).1)).map (· + (vltWords r).1)

/-- A CRC-protected region, which also has locks (R423, R426). -/
def vltProtected (r : Nat) : Bool := r != 3 && r != 5

/-! ## Cells and margins (R426..R429) -/

def vget (m : SMap Word) (w : Nat) : Word := SMap.get (fun _ => 0) m w
def State.modVlt (s : State) (f : Vlt → Vlt) : State := { s with vlt := f s.vlt }

/-- A word at normal margin: a bit reads 1 when either copy does. -/
def Vlt.normal (x : Vlt) (w : Nat) : Word := vget x.aN w ||| vget x.bN w
/-- A word at strict margin. -/
def Vlt.strict (x : Vlt) (w : Nat) : Word := vget x.aS w ||| vget x.bS w
/-- The weak bits of a word (R427). -/
def Vlt.weak (x : Vlt) (w : Nat) : Word :=
  (vget x.aN w ^^^ vget x.aS w) ||| (vget x.bN w ^^^ vget x.bS w) ||| (vget x.aS w ^^^ vget x.bS w)
/-- Lock fuses (R426). -/
def Vlt.wlock (x : Vlt) (r : Nat) : Bool := (x.normal 512).getLsbD r
def Vlt.rlock (x : Vlt) (r : Nat) : Bool := (x.normal 513).getLsbD r

/-- Ones in a word. -/
def ones32 (w : Word) : Nat := weight w.toNat 32

/-- Ones of a reading in a list of words. -/
def onesIn (f : Nat → Word) (ws : List Nat) : Nat := (ws.map (fun w => ones32 (f w))).foldl (· + ·) 0

/-- CRC-32 of a region's words but the last (R425). -/
def vltCrc (f : Nat → Word) (r : Nat) : Nat := crc32 ((vltList r).dropLast.flatMap (fun w => bytesLE (f w).toNat 4))

/-- The stored CRC matches. -/
def vltCrcOk (f : Nat → Word) (r : Nat) : Bool := vltProtected r && (f (vltWords r).2).toNat == vltCrc f r

/-! ## Lifecycle and rollback (R433, R434) -/

/-- Ones in field `f` of LIFECYCLE. -/
def lcOnes (g : Nat → Word) (f : Nat) : Nat := onesIn g ((List.range 4).map (fun i => 112 + 4 * f + i))
/-- A field is set. -/
def lcSet (g : Nat → Word) (f : Nat) : Bool := decide (64 < lcOnes g f)
/-- The lifecycle state. -/
def lcState (g : Nat → Word) : Nat := if lcSet g 3 then 4 else if lcSet g 2 then 3 else if lcSet g 1 then 2 else if lcSet g 0 then 1 else 0
/-- Fields that mark LIFECYCLE weak. -/
def lcWeak (g : Nat → Word) : Bool :=
  (List.range 4).any (fun f => !lcSet g f && (decide (0 < lcOnes g f) || decide (f < lcState g)))

/-- Ones in step `n` of ROLLBACK. -/
def rbOnes (g : Nat → Word) (n : Nat) : Nat := weight (bitsOf (g (224 + n / 4)) (8 * (n % 4) + 7) (8 * (n % 4))) 8
def rbSet (g : Nat → Word) (n : Nat) : Bool := decide (5 ≤ rbOnes g n)
/-- The rollback value. -/
def rbValue (g : Nat → Word) : Nat := (List.range 128).foldl (fun v n => if rbSet g n then n + 1 else v) 0
/-- Steps that mark ROLLBACK weak. -/
def rbWeak (g : Nat → Word) : Bool :=
  (List.range 128).any (fun n => !rbSet g n && (decide (0 < rbOnes g n) || decide (n < rbValue g)))

/-- The lifecycle state in force, and the rollback value. -/
def State.lc (s : State) : Nat := s.get VLT_LC_LC
def State.rollback (s : State) : Nat := s.get VLT_LC_RB
def lcBLANK : Nat := 0
def lcMAKERTEST : Nat := 1
def lcPROVISIONED : Nat := 2
def lcFIELD : Nat := 3
def lcSCRAPPED : Nat := 4

/-! ## The value in use (R430, R440, R441) -/

/-- Word `w` as every consumer sees it: the shadow where it overrides, else the value that the scan fixed. -/
def State.vltWord (s : State) (w : Nat) : Word :=
  if (s.get VLT_OVR_OVR).testBit (vltRegion w) then vget s.vlt.shadow w else vget s.vlt.val w

/-! ## The scan (R428..R431, R439) -/

/-- A valid variant code (R1). -/
def memberOf (code : Nat) : Option Member :=
  match code with | 1 => some .sc12 | 2 => some .sc24 | 4 => some .sc48 | 8 => some .ocxieno | _ => none

/-- How a region passes (R430): normal contents, strict contents, or not at all. -/
def Vlt.integrity (x : Vlt) (r : Nat) : Option Bool :=
  let good := fun (g : Nat → Word) => vltCrcOk g r && (r != 2 || (memberOf ((g 96).toNat % 16)).isSome)
  if !vltProtected r || !x.wlock r then some false
  else if vltCrcOk x.normal r then (if good x.normal then some false else none)
  else if good x.strict then some true
  else none

/-- The scan takes the strict contents of a locked region: they alone pass its CRC (R430), whatever code VARIANT then holds. -/
def Vlt.strictUsed (x : Vlt) (r : Nat) : Bool := vltProtected r && x.wlock r && !vltCrcOk x.normal r && vltCrcOk x.strict r

/-- Weak bits of a region. -/
def Vlt.weakBits (x : Vlt) (r : Nat) : Nat := onesIn x.weak (vltList r)

/-- A region is weak (R429, R430, R433, R434). -/
def Vlt.isWeak (x : Vlt) (r : Nat) : Bool :=
  decide (0 < x.weakBits r) || x.strictUsed r || (r == 3 && lcWeak x.normal) || (r == 5 && rbWeak x.normal)

/-- What a reading of region `r` records and reports: WEAK with its detection; where `alarm`, INTEGRITY with its own. -/
def State.vltRecord (s : State) (r : Nat) (alarm : Bool) : State :=
  let x := s.vlt
  let s := (s.put (VLT_RSTAT_WEAKBITS r) (min 65535 (x.weakBits r))).hwPut (VLT_RSTAT_WEAK r) (x.isWeak r)
  let s := (s.putBit (VLT_RSTAT_WLOCK r) (x.wlock r)).putBit (VLT_RSTAT_RLOCK r) (x.rlock r)
  let s := s.putBit (VLT_RSTAT_INTEG_FAIL r) (x.integrity r).isNone
  let s := s.putBit (VLT_RSTAT_CRC_OK r) (vltCrcOk s.vltWord r)
  let s := if x.isWeak r then (s.detect 79).raiseN 35 0x02 r else s
  if (x.integrity r).isNone && alarm then (s.raiseN 35 0x03 r).detect 80 else s

/-- Regions with a property, as a mask. -/
def vltMask (p : Nat → Bool) : Nat := (List.range 8).foldl (fun m r => if p r then m + 2 ^ r else m) 0

/-- Whether the device stays in reset (R432). -/
def State.vltHolds (s : State) : Bool :=
  lcState s.vlt.normal == lcFIELD && !s.bit SYS_STRAP_RECOVERY && (List.range 8).any (fun r => (s.vlt.integrity r).isNone)

/-- The contents of word `w` that the scan takes: those at strict margin where only they pass, else those at normal margin
(R430). -/
def Vlt.inUse (x : Vlt) (w : Nat) : Word := if x.strictUsed (vltRegion w) then x.strict w else x.normal w

/-- SYS_IDENT.VARIANT shows word 96 as the scan took it, a scan that holds the device among them (R4; log entry 71). -/
def State.putVariant (s : State) : State := s.put SYS_IDENT_VARIANT ((s.vlt.inUse 96).toNat % 16)

/-- The enabled resources follow VARIANT (R4, R431). -/
def State.vltMember (s : State) : State :=
  let x := s.vlt
  let code := (vget x.val 96).toNat % 16
  let m : Member := if !x.wlock 2 then .ocxieno else if (x.integrity 2).isNone then .sc12 else (memberOf code).getD .sc12
  let s := { s with member := m }
  let s := s.putVariant.put SYS_IDENT_LINKS s.nLinks
  let l2 := fun n => if n = 2 then 1 else if n = 4 then 2 else if n = 8 then 3 else 4
  (s.put SYS_IDENT_ENGINES_LOG2 (l2 s.nEngines)).put SYS_IDENT_STRINGS_LOG2 (l2 s.nStrings)

/-- The scan of a system reset (R428): the values, the states and the reports; whether the device is held. -/
def State.vltScan (s : State) : State :=
  let held := s.vltHolds
  let x := s.vlt
  let val := (List.range 512).foldl (fun m w =>
    SMap.set (fun _ => 0) m w (x.inUse w)) []
  let s := s.modVlt (fun x => { x with val := val })
  let lc := lcState x.normal
  let s := ((s.put VLT_LC_LC lc).put VLT_LC_LC_FUSED lc).put VLT_LC_RB (rbValue x.normal)
  let s := s.forN 8 (fun r t => (t.putBit (VLT_RSTAT_STRICT_USED r) (x.strictUsed r)).vltRecord r (!held && lc != lcSCRAPPED))
  let s := s.raiseN 35 0x01 (vltMask x.isWeak + 256 * vltMask (fun r => (x.integrity r).isNone))
  let s := if held then s else s.vltMember
  s.putBit VLT_STAT_SCAN_DONE true

/-- A re-reading of region `r` while the controller runs (R439). -/
def State.vltReread (s : State) (r : Nat) : State := s.vltRecord r (s.lc != lcSCRAPPED)

/-! ## Commands (R435..R438) -/

/-- A command ends with an error. -/
def State.vltFail (s : State) (code value : Nat) : State :=
  let s := ((s.put VLT_ERR_VALUE value).hwSet VLT_ERR_ERRV).put VLT_ERR_CODE code
  (s.hwSet VLT_STAT_FAIL).raiseN 35 0x05 (code + value % 0x10000 * 0x10000)

/-- Word, region or target that a command concerns (R444). -/
def State.vltConcern (s : State) (cmd : Nat) : Nat :=
  if cmd = 1 then s.get VLT_PADDR_WORD
  else if cmd = 2 ∨ cmd = 3 ∨ cmd = 6 then s.get VLT_CTRL_REGION
  else if cmd = 4 ∨ cmd = 5 then s.get VLT_CTRL_VALUE
  else 0

/-- ADVANCE_LC to `t` may run (R438). -/
def State.lcOrder (s : State) (t : Nat) : Bool :=
  let x := s.vlt
  let sealedOk := fun r => x.wlock r && !s.bit (VLT_RSTAT_INTEG_FAIL r)
  let from_ := fun n => s.lc == n && s.get VLT_LC_LC_FUSED == n
  if t = 0 ∨ 4 < t then false
  else if lcSet x.normal (t - 1) then true
  else if t = 1 then from_ 0
  else
    let prov := sealedOk 0 && sealedOk 1 && sealedOk 2 && (List.range 12).any (fun i => x.normal (128 + i) != 0)
    if t = 2 then from_ 1 && prov
    else if t = 3 then from_ 2 && prov && sealedOk 4
    else true

/-- The checks of R436 of one command. The contents that LOCK_W compares at the two margins are those of each copy (log
entry 49). -/
def State.vltCheck (s : State) (cmd : Nat) : Option Nat :=
  let x := s.vlt
  let region := s.get VLT_CTRL_REGION
  let value := s.get VLT_CTRL_VALUE
  let w := s.get VLT_PADDR_WORD
  match cmd with
  | 1 => if !vltProtected (vltRegion w) then some 5 else if x.wlock (vltRegion w) then some 6 else none
  | 2 =>
    if !vltProtected region then some 5
    else if !vltCrcOk x.normal region then some 7
    else if (vltList region).any (fun w => vget x.aS w != vget x.aN w || vget x.bS w != vget x.bN w) then some 8
    else none
  | 3 => if !vltProtected region then some 5 else none
  | 4 => if s.lcOrder value then none else some 9
  | 5 => if value ≤ s.rollback ∨ 128 < value then some 9 else if s.lc = lcBLANK then some 4 else none
  | _ => none

/-- The code that refuses a command at GO (R435). -/
def State.vltRefusal (s : State) (cmd : Nat) : Option Nat :=
  if !s.vlt.pkey then some 1
  else if s.bit VLT_STAT_BUSY then some 2
  else if cmd ≠ 7 ∧ !s.bit VLT_STAT_VPP_OK then some 3
  else if cmd ≠ 7 ∧ s.lc = lcSCRAPPED then some 4
  else s.vltCheck cmd

/-- Cells of word `w` that a command pulses to set the bits `m`: those of each copy that read 0 at strict margin. -/
def Vlt.pulse (x : Vlt) (w : Nat) (m : Word) : Nat × Word × Word := (w, m &&& ~~~vget x.aS w, m &&& ~~~vget x.bS w)

/-- All cells of a command (R436). -/
def State.vltCells (s : State) (cmd : Nat) : List (Nat × Word × Word) :=
  let x := s.vlt
  let region := s.get VLT_CTRL_REGION
  let value := s.get VLT_CTRL_VALUE
  match cmd with
  | 1 => [x.pulse (s.get VLT_PADDR_WORD) (s.word VLT_PDATA)]
  | 2 => [x.pulse 512 (1#32 <<< region)]
  | 3 => [x.pulse 513 (1#32 <<< region)]
  | 4 => (List.range 4).map (fun i => x.pulse (112 + 4 * (value - 1) + i) 0xFFFFFFFF)
  | 5 => (List.range 32).filterMap (fun i =>
      let m := (List.range 4).foldl (fun (m : Word) b => if s.rollback ≤ 4 * i + b ∧ 4 * i + b < value then m ||| (0xFF#32 <<< (8 * b)) else m) 0
      if m = 0 then none else some (x.pulse (224 + i) m))
  | 6 => (vltList region).map (fun w => x.pulse w (x.normal w))
  | _ => []

/-- Pulses of a command. -/
def pulses (l : List (Nat × Word × Word)) : Nat := (l.map (fun c => ones32 c.2.1 + ones32 c.2.2)).foldl (· + ·) 0

/-- GO (R435). -/
def State.vltGo (s : State) : State :=
  let cmd := s.get VLT_CTRL_CMD
  let refusal := s.vltRefusal cmd
  let s := if cmd = 2 ∧ vltProtected (s.get VLT_CTRL_REGION) ∧ (refusal = none ∨ refusal = some 7 ∨ refusal = some 8) then
      s.put VLT_CRC_CRC (vltCrc s.vlt.normal (s.get VLT_CTRL_REGION)) else s
  let s := s.modVlt (fun x => { x with pkey := false })
  match refusal with
  | some c => s.vltFail c (s.vltConcern cmd)
  | none =>
    let cells := s.vltCells cmd
    let c : VltCmd :=
      { cmd := cmd, region := s.get VLT_CTRL_REGION, value := s.get VLT_CTRL_VALUE, addr := s.get VLT_PADDR_WORD
        data := s.word VLT_PDATA, cells := cells }
    let s := (s.putBit VLT_STAT_BUSY true).putBit VLT_CTRL_GO true
    (s.modVlt (fun x => { x with cmd := some c })).arm (if cmd = 7 then us 200 else us (10 * pulses cells)) (.vltCmdEnd true)

/-- VLT_CTRL. -/
def State.wVltCtrl (v : Word) (s : State) : State := s.regWrite VLT_CTRL v true (fun s => if tb v 31 then s.vltGo else s)

/-- VLT_PKEY (R443): another key is a reserved encoding. -/
def State.wVltPkey (v : Word) (s : State) : State :=
  s.regWrite VLT_PKEY v (bitsOf v 15 0 == 0x0B1E) (fun s => s.modVlt (fun x => { x with pkey := true }))

/-- Blows cells. -/
def State.blow (s : State) (w : Nat) (aN aS bN bS : Word) : State :=
  let up := fun (m : SMap Word) (v : Word) => SMap.set (fun _ => 0) m w (vget m w ||| v)
  s.modVlt (fun x => { x with aN := up x.aN aN, aS := up x.aS aS, bN := up x.bN bN, bS := up x.bS bS })

/-- A free word. -/
def State.freeWord (s : State) : State × Word := (s.drawn, BitVec.ofNat 32 (Config.freeNat s.free))

/-- Cells of a command that did not all take: which ones did, and at which margin, is free (log entry 2). -/
def State.blowSome (s : State) (w : Nat) (ma mb : Word) : State :=
  let p := s.freeWord
  let q := p.1.freeWord
  let r := q.1.freeWord
  let t := r.1.freeWord
  t.1.blow w (ma &&& (p.2 ||| q.2)) (ma &&& p.2) (mb &&& (r.2 ||| t.2)) (mb &&& r.2)

/-- The shadow of a region that is write-locked now no longer overrides (R440). -/
def State.dropOverride (s : State) (r : Nat) : State :=
  if s.vlt.wlock r then (s.putBit ⟨VLT_OVR, r, r⟩ false).putBit (VLT_RSTAT_OVR r) false else s

/-- What follows the pulses of a command that ends well, or with the error `err` (R434, R436, R437, R439, R441): without a
verify a word keeps its old value, and without a good one the rollback value does; LC_FUSED is raised by an advance that is
done and by one that has changed the state. PFAIL ends REPAIR and RESCAN before their reading. -/
def State.vltAfter (s : State) (c : VltCmd) (err : Option Nat) : State :=
  let val := fun (s : State) (w : Nat) =>
    if err = some 11 then s else s.modVlt (fun x => { x with val := SMap.set (fun _ => 0) x.val w (x.normal w) })
  match c.cmd with
  | 1 => val s c.addr
  | 2 => (s.putBit (VLT_RSTAT_WLOCK c.region) (s.vlt.wlock c.region)).dropOverride c.region
  | 3 => s.putBit (VLT_RSTAT_RLOCK c.region) (s.vlt.rlock c.region)
  | 4 =>
    let s := c.cells.foldl (fun t e => val t e.1) s
    let lc := lcState s.vlt.normal
    let old := s.get VLT_LC_LC_FUSED
    let s := s.put VLT_LC_LC_FUSED lc
    if err.isNone || lc != old then s.raiseN 35 0x06 lc else s
  | 5 =>
    let s := c.cells.foldl (fun t e => val t e.1) s
    if err.isNone then s.put VLT_LC_RB (rbValue s.vlt.normal) else s
  | 6 =>
    if err = some 11 then s else
    let s := if vltProtected c.region then s.put VLT_CRC_CRC (vltCrc s.vlt.normal c.region) else s
    s.vltReread c.region
  | _ =>
    if err = some 11 then s else
    let s := if vltProtected c.region then s.put VLT_CRC_CRC (vltCrc s.vlt.normal c.region) else s
    s.forN 8 (fun r t => t.vltReread r)

/-- A copy of a cell of the command still reads 0 at strict margin. -/
def Vlt.unblown (x : Vlt) (e : Nat × Word × Word) : Bool := vget x.aS e.1 &&& e.2.1 != e.2.1 || vget x.bS e.1 &&& e.2.2 != e.2.2

/-- VALUE of a command's error: for VERIFY the first word with a copy left at 0, unless that is a lock fuse; else the word,
region or target concerned (R437, R444; log entry 49). -/
def State.vltValue (s : State) (c : VltCmd) (code : Nat) : Nat :=
  match c.cmd with
  | 2 | 3 => c.region
  | 1 => c.addr
  | _ =>
    if code = 10 then ((c.cells.find? s.vlt.unblown).map (·.1)).getD 0
    else if c.cmd = 6 then c.region else if c.cmd = 7 then 0 else c.value

/-- The command ends: `err` is the code it fails with. -/
def State.vltEnd (s : State) (c : VltCmd) (err : Option Nat) : State :=
  let s := (s.disarm (.vltCmdEnd true)).modVlt (fun x => { x with cmd := none })
  let s := (s.putBit VLT_STAT_BUSY false).putBit VLT_CTRL_GO false
  match err with
  | none =>
    let s := (c.cells.foldl (fun t e => t.blow e.1 e.2.1 e.2.1 e.2.2 e.2.2) s).vltAfter c none
    (s.hwSet VLT_STAT_DONE).raiseN 35 0x04 c.cmd
  | some code =>
    let s := c.cells.foldl (fun t e => t.blowSome e.1 e.2.1 e.2.2) s
    (s.vltAfter c (some code)).vltFail code (s.vltValue c code)

/-- VLT_CMD_END (R437): with VERIFY where a copy still reads 0 after its fourth pulse. -/
def execVltCmdEnd (good : Bool) (s : State) : Out :=
  match s.vlt.cmd with
  | none => ok s
  | some c => ok (s.vltEnd c (if good || c.cells.isEmpty then none else some 10))

/-- PFAIL_N falls during a command (R437). -/
def State.vltPfail (s : State) : State :=
  match s.vlt.cmd with
  | none => s
  | some c => s.vltEnd c (some 11)

/-! ## Shadow override (R440) -/

/-- Region `r` may be overridden now. -/
def State.mayOverride (s : State) (r : Nat) : Bool :=
  (s.lc == lcMAKERTEST || s.lc == lcPROVISIONED) && [1, 4, 6, 7].contains r && !s.vlt.wlock r

/-- VLT_SHDAT. -/
def State.wVltShdat (v : Word) (s : State) : State :=
  let w := s.get VLT_SHADR_ADDR
  if s.mayOverride (vltRegion w) then s.modVlt (fun x => { x with shadow := SMap.set (fun _ => 0) x.shadow w v }) else s.access VLT_SHDAT

/-- VLT_OVR. -/
def State.wVltOvr (v : Word) (s : State) : State :=
  s.regWrite VLT_OVR v ((List.range 8).all (fun r => !tb v r || s.mayOverride r)) (fun s =>
    s.forN 8 (fun r t => t.putBit (VLT_RSTAT_OVR r) (tb v r)))

/-! ## The read window (R441, R437) -/

/-- A window read of word `w`. -/
def State.vltWindow (s : State) (who : Who) (w : Nat) : State :=
  let r := vltRegion w
  let boot := match who with | .sup b => b | _ => false
  if s.vlt.rlock r && !boot then (s.raiseN 35 0x07 w).answer who 0 false
  else if s.lc = lcSCRAPPED ∧ [4, 6, 7].contains r then s.answer who 0 false
  else s.answer who (s.vltWord w) false

/-- Address of the window. -/
def VLT_WIN : Nat := 0x400B0800

/-! ## Rows -/

/-- A write of VLT_CTRL with GO and one command. -/
def State.vltRow (s : State) (who : Who) (cmd : Nat) (v : Word) : State :=
  let v := setBits (withBit v 31) 27 24 cmd
  s.busWrite who VLT_CTRL v (State.wVltCtrl v)

def execPkey (who : Who) (v : Word) (s : State) : Out := ok (s.busWrite who VLT_PKEY v (State.wVltPkey v))
def execProgram (who : Who) (v : Word) (s : State) : Out := ok (s.vltRow who 1 v)
def execLockW (who : Who) (v : Word) (s : State) : Out := ok (s.vltRow who 2 v)
def execLockR (who : Who) (v : Word) (s : State) : Out := ok (s.vltRow who 3 v)
def execAdvanceLc (who : Who) (v : Word) (s : State) : Out := ok (s.vltRow who 4 v)
def execAdvanceRb (who : Who) (v : Word) (s : State) : Out := ok (s.vltRow who 5 v)
def execRepair (who : Who) (v : Word) (s : State) : Out := ok (s.vltRow who 6 v)
def execRescan (who : Who) (v : Word) (s : State) : Out := ok (s.vltRow who 7 v)
def execShadowWrite (who : Who) (v : Word) (s : State) : Out := ok (s.busWrite who VLT_SHDAT v (State.wVltShdat v))
def execOverrideWrite (who : Who) (v : Word) (s : State) : Out := ok (s.busWrite who VLT_OVR v (State.wVltOvr v))

end Sys2Proof.Machine
end

