-- ==== Sys2Proof/Machine/Rights.lean ====
section
/-! DEFINITION. Machine/Rights.lean: the event router's claim and software events, the permission table and its seal, the
roles, the challenge and the role service (15). -/

namespace Sys2Proof.Machine

/-! ## The event router (R405, R407) -/

/-- EVR_CLAIM as a requester reads it now: source, latest cause and count of the claimed source; 0 where none is (R405,
R408). -/
def State.claimWord (s : State) : Word :=
  match s.claimable with
  | none => 0
  | some i => setBits (setBits (setBits (setBits 0 31 31 1) 30 23 (s.evrWas i).wasCount) 22 15 (s.evrWas i).wasCause) 8 0 i

/-- A claim clears the source's pending bit and count and latches its value; after an event of the same cycle the bit
stays, with that event alone in the count (R405). -/
def State.claim (s : State) : State :=
  match s.claimable with
  | none => s
  | some i =>
    let r := s.evrWas i
    let s := s.setWord EVR_CLAIM_VAL r.wasValue
    if r.since = some s.clk.now then s.setEvr i { r with wasPend := false, wasCount := 0, count := 1 }
    else (s.setEvr i { s.evr i with count := 0 }).setBm EVR_PEND i false

/-- A read of EVR_CLAIM: only the supervisor's claims; the debug port's changes nothing (R405). -/
def State.rEvrClaim (who : Who) (s : State) : State :=
  let w := s.claimWord
  match who with
  | .sup _ => s.claim.answer who w false
  | _ => s.answer who w false

/-- EVR_CLAIM (R405). -/
def execEvrClaim (who : Who) (s : State) : Out := ok (s.busRead who EVR_CLAIM (State.rEvrClaim who))

/-- EVR_SWEV (R407). -/
def State.wEvrSwev (v : Word) (s : State) : State :=
  s.regWrite EVR_SWEV v true (fun s => s.raise (408 + bitsOf v 6 0) (bitsOf v 15 8) (s.word EVR_SWVAL))

/-- SOFTWARE_EVENT (R407). -/
def execSoftwareEvent (who : Who) (v : Word) (s : State) : Out := ok (s.busWrite who EVR_SWEV v (State.wEvrSwev v))

/-! ## The permission table and its seal (R415, R416) -/

/-- A boot-issued access (R413). -/
def bootIssued (who : Who) : Bool := match who with | .sup b => b | _ => false

/-- Entry `e` takes the word; entry 1 and the entries that name no page ignore it (R415). -/
def State.wPerm (e : Nat) (v : Word) (s : State) : State :=
  if e = 1 ∨ !permNamesPage e then s
  else if v &&& ~~~0x77 = 0 ∧ legalAt (RGT_PERM e) v then (s.rgtKeep (RGT_PERM e)).setWord (RGT_PERM e) v else s.access (RGT_PERM e)

/-- PERM_WRITE (R416). -/
def execPermWrite (who : Who) (e : Fin 256) (v : Word) (s : State) : Out :=
  if bootIssued who && !s.bit RGT_STAT_SEALED then ok (s.busWrite who (RGT_PERM e) v (State.wPerm e v))
  else ok (s.throughQueue who (fun s => s.deny who (RGT_PERM e) true 4))

/-- The table is sealed (R416, R421). -/
def State.seal (s : State) : State :=
  if s.bit RGT_STAT_SEALED then s else (s.putBit RGT_STAT_SEALED true).raiseN 44 0x02 s.mfn

/-- RGT_SEAL is written at most once (R10, R422). -/
def State.wSeal (v : Word) (s : State) : State :=
  if s.get RGT_SEAL_KEY = 0 ∧ bitsOf v 15 0 = 0x5EA1 then (s.put RGT_SEAL_KEY 0x5EA1).seal else s.access RGT_SEAL

/-- SEAL (R416): any other write than a boot-issued one is denied. -/
def execSeal (who : Who) (v : Word) (s : State) : Out :=
  if bootIssued who then ok (s.busWrite who RGT_SEAL v (State.wSeal v)) else ok (s.throughQueue who (fun s => s.deny who RGT_SEAL true 4))

/-- The first fetch outside the boot ROM takes a halt that the debug port asked for before (R413). -/
def State.leaveRom (s : State) : State :=
  if s.cores.haltReq then { s with cores := { s.cores with haltReq := false, halted := true } } else s

/-- SEALED (R416): the first fetch from outside the boot ROM. -/
def execSealed (s : State) : Out := ok s.seal.leaveRom

/-! ## Roles (R417, R420) -/

/-- The role register of a requester, 1 the debug port. -/
def roleReg (dbg : Bool) : Nat := if dbg then RGT_ROLE_DBG else RGT_ROLE_SUP

/-- The role register takes its new role. -/
def State.wRole (dbg : Bool) (v : Word) (s : State) : State := (s.rgtKeep (roleReg dbg)).regWrite (roleReg dbg) v true id

/-- A boot-issued write of a role register: recorded where it changes the role (R417, R420). -/
def State.roleWrite (s : State) (who : Who) (dbg : Bool) (v : Word) : State :=
  let a := roleReg dbg
  let old := s.get ⟨a, 2, 0⟩
  if legalAt a v && bitsOf v 2 0 != old then
    s.audited who (auditEv who 0x02 a old 4 (BitVec.ofNat 32 (bitsOf v 2 0))) a v (State.wRole dbg v)
  else (s.answer who 0 false).wRole dbg v

/-- ROLE_WRITE (R417). -/
def execRoleWrite (who : Who) (dbg : Bool) (v : Word) (s : State) : Out :=
  ok (s.throughQueue who (fun s => if bootIssued who then s.roleWrite who dbg v else s.deny who (roleReg dbg) true 4))

/-! ## Challenge and credentials (R418, R419) -/

/-- A read of RGT_CHAL 0 renews the challenge and its 10 s, to the end of the tick in which they expire (R5, R418). -/
def State.rChal (who : Who) (s : State) : State :=
  let s := s.forN 8 (fun i t => (t.setWord (RGT_CHAL i) (Config.entropy t.free)).drawn)
  let s := (s.putBit RGT_STAT_CHAL_VALID true).arm (s.toTickEnd (seconds 10)) .challengeExpiry
  s.answer who (s.word (RGT_CHAL 0)) false

/-- CHALLENGE (R418). -/
def execChallenge (who : Who) (s : State) : Out := ok (s.busRead who (RGT_CHAL 0) (State.rChal who))

/-- CHAL_VALID clears. -/
def State.chalEnd (s : State) : State := (s.putBit RGT_STAT_CHAL_VALID false).disarm .challengeExpiry

/-- CHALLENGE_EXPIRY (R418). -/
def execChallengeExpiry (s : State) : Out := ok s.chalEnd

/-- Bytes `i` .. `i + n - 1` of a list. -/
def part (bs : List Byte) (i n : Nat) : List Byte := (bs.drop i).take n

/-- The 48 bytes of a KEYHASH slot from word `w` on, as every consumer sees them; in SCRAPPED they read 0 (R424, R437, R441). -/
def State.keyHash (s : State) (w : Nat) : List Byte :=
  (List.range 12).flatMap (fun i => bytesLE (if s.lc = lcSCRAPPED then 0 else s.vltWord (w + i)).toNat 4)

/-- A digest as bytes: the standard writes it most significant byte first. -/
def digestBytes (d : BitVec 384) : List Byte := (bytesLE d.toNat 48).reverse

/-- The key bytes hash to a slot that is not blank (R419, R454). -/
def State.keyMatches (s : State) (key : List Byte) (slot : Nat) : Bool :=
  let h := s.keyHash slot
  h.any (· != 0) && digestBytes (sha384 key) == h

/-- The KEYHASH slot of a role. -/
def roleSlot (role : Nat) : Nat := if role = 3 then 128 else if role = 2 then 152 else 164

/-- A well-formed credential (R419). -/
def credFormat (c : List Byte) : Bool :=
  let role := (c.getD 4 0).toNat
  c.length == 204 && part c 0 4 == [0x43, 0x52, 0x54, 0x31] && decide (1 ≤ role) && decide (role ≤ 3)
    && decide ((c.getD 5 0).toNat ≤ 1) && part c 6 2 == [0, 0] && c.getD 8 0 == 0x04 && part c 0x69 3 == [0, 0, 0]

/-- The message that a credential signs (R419). -/
def State.credMessage (s : State) (role req : Nat) : List Byte :=
  (List.range 8).flatMap (fun i => bytesLE (s.word (RGT_CHAL i)).toNat 4)
    ++ (List.range 4).flatMap (fun i => bytesLE (s.vltWord i).toNat 4)
    ++ [BitVec.ofNat 8 role, BitVec.ofNat 8 req, BitVec.ofNat 8 (s.get SYS_STRAP_UNIT_ID)]

/-- MAKER is granted in MAKER_TEST, PROVISIONED or RECOVERY (R419). -/
def State.makerAllowed (s : State) : Bool := s.lc == lcMAKERTEST || s.lc == lcPROVISIONED || s.bit SYS_STRAP_RECOVERY

/-- The checks of GRANT after the format and the challenge, in order (R419). -/
def State.credCheck (s : State) (c : List Byte) : Nat :=
  let role := (c.getD 4 0).toNat
  let key := part c 8 97
  if !s.keyMatches key (roleSlot role) then 3
  else if role = 3 ∧ !s.makerAllowed then 5
  else if !ecdsaVerify key (s.credMessage role (c.getD 5 0).toNat) (part c 0x6C 96) then 4
  else 0

/-- The credential is judged: its status, and the state with the challenge consumed (R419). -/
def State.credJudge (s : State) (c : List Byte) : State × Nat :=
  if !credFormat c then (s, 1)
  else if !s.bit RGT_STAT_CHAL_VALID then (s, 2)
  else (s.chalEnd, s.credCheck c)

/-- The service returns a status. -/
def State.service (s : State) (a0 : Nat) : State := { s with boot := { s.boot with status := a0 } }

/-- GRANT (R419), which a running core calls; in RECOVERY MAKER is granted alone (R459):
the status of another credential is free (log entry 86). -/
def execGrant (a1 : Word) (s : State) : Out :=
  if !s.issues (.sup true) then ok s
  else
  if s.bit SYS_STRAP_RECOVERY && credFormat ((s.dtcmBytes a1.toNat 204).getD []) && ((s.dtcmBytes a1.toNat 204).getD []).getD 4 0 != 3 then
    let t := s.dtcmSeen a1.toNat 204
    ok (t.drawn.service (Config.freeNat t.free))
  else
  let c := (s.dtcmBytes a1.toNat 204).getD []
  let p := (s.dtcmSeen a1.toNat 204).credJudge c
  let s := p.1.service p.2
  if p.2 = 0 then ok (s.roleWrite (.sup true) (c.getD 5 0 == 1) (BitVec.ofNat 32 (c.getD 4 0).toNat)) else ok s

/-- DROP_ROLE (R419). A requester other than 0 and 1 has no status the spec states: the status is free. -/
def execDropRole (role req : Word) (s : State) : Out :=
  if !s.issues (.sup true) then ok s
  else if 2 ≤ req.toNat then ok (s.drawn.service (Config.freeNat s.free))
  else
    let dbg := req == 1
    if role.toNat ≤ s.get ⟨roleReg dbg, 2, 0⟩ then ok ((s.service 0).roleWrite (.sup true) dbg role) else ok (s.service 6)

end Sys2Proof.Machine
end

