-- ==== Sys2Proof/Machine/Cores.lean ====
section
/-! DEFINITION. Machine/Cores.lean: the core pair's CSRs (R397, R399) and its halt by the debug port (R412, R413). No row of
the table is an instruction of the cores: these are the operations that its instructions and the debug port have on
State (log entries 63, 91). -/

namespace Sys2Proof.Machine

/-! ## CSRs (R397, R399) -/

/-- SUP cycles in `n` FAB cycles: 400 MHz against 250 MHz. -/
def supCycles (n : Nat) : Nat := n * 8 / 5

/-- `mcycle` now; it stands while the cores are held. -/
def State.mcycle (s : State) : BitVec 64 :=
  if s.bus.coresHeld then s.cores.mcycle else s.cores.mcycle + BitVec.ofNat 64 (supCycles s.clk.now - supCycles s.cores.cycAt)

/-- Four PMP configuration bytes from entry `i` on. -/
def State.pmpCfgWord (s : State) (i : Nat) : Word := s.pmpCfg (i + 3) ++ s.pmpCfg (i + 2) ++ s.pmpCfg (i + 1) ++ s.pmpCfg i

/-- A user-mode read of counter `b`: 0 `cycle`, 1 `time`, 2 `instret`. -/
def State.counterOk (s : State) (b : Nat) : Bool := !s.cores.user || s.cores.mcounteren.toNat.testBit b

/-- The CSRs of R397 as an instruction of the cores reads them; none where it takes an illegal-instruction exception or
R397 does not name the CSR. `time` and `timeh` are the linked counter of R399. -/
def State.csrRead (s : State) (n : Nat) : Option Word :=
  if 0xC00 ≤ n ∧ n ≤ 0xC02 ∨ 0xC80 ≤ n ∧ n ≤ 0xC82 then
    let w : BitVec 64 := match n % 4 with | 0 => s.mcycle | 1 => s.T | _ => s.cores.minstret
    if s.counterOk (n % 4) then some (if n < 0xC80 then w.extractLsb' 0 32 else w.extractLsb' 32 32) else none
  else if s.cores.user then none
  else if 0x3A0 ≤ n ∧ n ≤ 0x3A3 then some (s.pmpCfgWord (4 * (n - 0x3A0)))
  else if 0x3B0 ≤ n ∧ n ≤ 0x3BF then some (BitVec.ofNat 32 (s.pmpAddr (n - 0x3B0)))
  else
    match n with
    | 0x301 => some 0x40101105
    | 0x305 => some s.cores.mtvec
    | 0x306 => some s.cores.mcounteren
    | 0x344 => some (if s.irq then 0x800 else 0)
    | 0xB00 => some (s.mcycle.extractLsb' 0 32)
    | 0xB80 => some (s.mcycle.extractLsb' 32 32)
    | 0xB02 => some (s.cores.minstret.extractLsb' 0 32)
    | 0xB82 => some (s.cores.minstret.extractLsb' 32 32)
    | 0xF13 => some (BitVec.ofNat 32 (s.get SYS_IDENT_STEPPING))
    | 0xF11 | 0xF12 | 0xF14 => some 0
    | _ => none

def State.modCores (s : State) (f : Cores → Cores) : State := { s with cores := f s.cores }

/-- A locked PMP entry, or the start of a locked TOR entry above it, takes no write. -/
def State.pmpLocked (s : State) (i : Nat) (addr : Bool) : Bool :=
  (s.pmpCfg i).getLsbD 7 || (addr && (s.pmpCfg (i + 1)).getLsbD 7 && (s.pmpCfg (i + 1)).toNat / 8 % 4 == 1)

/-- A machine-mode write of a CSR of R397. A write of `mtvec` in another than direct mode is ignored. -/
def State.csrWrite (s : State) (n : Nat) (v : Word) : State :=
  if s.cores.user then s
  else if 0x3A0 ≤ n ∧ n ≤ 0x3A3 then
    s.forN 4 (fun j t =>
      let i := 4 * (n - 0x3A0) + j
      if t.pmpLocked i false then t
      else t.modCores (fun c => { c with pmpCfg := SMap.set (fun _ => 0) c.pmpCfg i (v.extractLsb' (8 * j) 8 &&& 0x9F) }))
  else if 0x3B0 ≤ n ∧ n ≤ 0x3BF then
    if s.pmpLocked (n - 0x3B0) true then s
    else s.modCores (fun c => { c with pmpAddr := SMap.set (fun _ => 0) c.pmpAddr (n - 0x3B0) v })
  else
    let cyc := fun (w : BitVec 64) => s.modCores (fun c => { c with mcycle := w, cycAt := s.clk.now })
    match n with
    | 0x305 => if bitsOf v 1 0 = 0 then s.modCores (fun c => { c with mtvec := v }) else s
    | 0x306 => s.modCores (fun c => { c with mcounteren := v &&& 7 })
    | 0xB00 => cyc (s.mcycle.extractLsb' 32 32 ++ v)
    | 0xB80 => cyc (v ++ s.mcycle.extractLsb' 0 32)
    | 0xB02 => s.modCores (fun c => { c with minstret := c.minstret.extractLsb' 32 32 ++ v })
    | 0xB82 => s.modCores (fun c => { c with minstret := v ++ c.minstret.extractLsb' 0 32 })
    | _ => s

/-! ## The halt (R412, R413) -/

/-- The cores fetch from the boot ROM, whose code runs until an image does. -/
def State.inRom (s : State) : Bool := s.boot.rom != .image

/-- The debug port asks for a halt: with INSTALLER or higher alone, and held while the cores fetch from the boot ROM. -/
def State.debugHalt (s : State) : State :=
  if s.roleOf .dbg < 2 then s
  else if s.inRom then s.modCores (fun c => { c with haltReq := true })
  else s.modCores (fun c => { c with halted := true })

/-- An instruction fetch at `a` behind one at `prev` takes an instruction access fault: from the read window (R520), from the
boot ROM in user mode, and into the boot ROM but at an entry point (R413). -/
def State.fetchFaults (s : State) (prev a : Nat) : Bool :=
  decide (0x20000000 ≤ a ∧ a < 0x30000000)
    || (decide (a < 0x10000) && (s.cores.user || (decide (0x10000 ≤ prev) && ! [0, 0x100, 0x200].contains a)))

end Sys2Proof.Machine
end

