-- ==== Sys2Proof/Machine/TellerCode.lean ====
section
/-! DEFINITION. Machine/TellerCode.lean: the encoding of a bundle (R157..R166, R174, R182, R183): the reserved encodings
and the operations its slots spell. -/

namespace Sys2Proof.Machine

/-- The four slots of a bundle (R157). -/
def slotWord (p : SlotPos) (b : BitVec 128) : Word :=
  match p with
  | .m0 => b.extractLsb' 96 32
  | .m1 => b.extractLsb' 64 32
  | .x => b.extractLsb' 32 32
  | .l => b.extractLsb' 0 32

/-- Fields of a slot (R157, R158). -/
def slOp (w : Word) : Nat := bitsOf w 31 26
def slD (w : Word) : Nat := bitsOf w 25 21
def slA (w : Word) : Nat := bitsOf w 20 16
def slB (w : Word) : Nat := bitsOf w 15 11
def slM (w : Word) : Nat := bitsOf w 6 0
def slGuard (w : Word) : Guard := { p := Fin.ofNat 8 (bitsOf w 10 8), neg := bitsOf w 7 7 == 1 }

/-! ## Reserved encodings (R182, R183) -/

/-- A legal M slot; `m1` says which. -/
def mLegal (m1 : Bool) (w : Word) : Bool :=
  let op := slOp w
  if op = 0 then w == 0
  else if op ≤ 6 then decide (slD w < 4) && slM w == 0
  else if op = 7 then decide (slD w < 4)
  else if op = 8 then decide (slA w < 4) && slB w == 0
  else if op = 9 then decide (slD w < 4) && slA w == 0 && slB w == 0 && slM w == 0
  else op == 0x3F && !m1 && bitsOf w 25 14 != 0 && bitsOf w 13 0 == 0

/-- A legal X slot. -/
def xLegal (w : Word) : Bool :=
  let op := slOp w
  let m := slM w
  if op = 0 then w == 0
  else if op ≤ 0x0C then decide (64 ≤ m) || m == 0
  else if op ≤ 0x0E then slB w == 0 && m == 0
  else if op ≤ 0x11 then decide (m < 8)
  else if op = 0x12 then decide (slD w < 8) && (decide (64 ≤ m) || decide (m < 8))
  else if op = 0x13 then decide (slD w < 8) && decide (slA w < 8) && decide (slB w < 8) && decide (m < 4)
  else op == 0x14 && decide (m < 3)

/-- A legal L slot. -/
def lLegal (w : Word) : Bool :=
  let op := slOp w
  let m := slM w
  let d0 := slD w == 0
  let a0 := slA w == 0
  let b0 := slB w == 0
  match op with
  | 0x00 => w == 0
  | 0x01 | 0x05 => a0 && b0
  | 0x02 | 0x06 => b0
  | 0x03 | 0x07 | 0x0D => d0 && a0
  | 0x04 | 0x08 => d0
  | 0x09 => decide (slA w < 8) && b0 && decide (m < 32)
  | 0x0A => decide (slD w < 8) && a0 && decide (m < 2)
  | 0x0B => true
  | 0x0C => a0 && b0 && decide (m < 3)
  | 0x0E => decide (slD w < 8) && a0 && decide (m < 3)
  | 0x0F => a0 && b0 && m == 0
  | _ => false

/-- The data register a slot writes with latency 1 (R183). -/
def latency1Dest (p : SlotPos) (w : Word) : Option Nat :=
  let op := slOp w
  match p with
  | .m0 | .m1 => if op = 8 then some (slD w) else none
  | .x => if 1 ≤ op ∧ op ≤ 0x11 then some (slD w) else none
  | .l => if op = 0x0B ∨ op = 0x0C then some (slD w) else none

/-- A bundle without a reserved encoding. -/
def bundleLegal (b : BitVec 128) : Bool :=
  let m0 := slotWord .m0 b
  let m1 := slotWord .m1 b
  let x := slotWord .x b
  let l := slotWord .l b
  let ds := [latency1Dest .m0 m0, latency1Dest .m1 m1, latency1Dest .x x, latency1Dest .l l].filterMap id
  mLegal false m0 && mLegal true m1 && xLegal x && lLegal l && decide ds.Nodup

/-- The segment length of a header bundle (R164); none where its M0 slot is no SEGH. -/
def segLen (b : BitVec 128) : Option Nat :=
  let w := slotWord .m0 b
  if slOp w = 0x3F then some (bitsOf w 25 14) else none

/-! ## The operations of a bundle -/

/-- Operand b of an X slot with an 11-bit immediate (R166). -/
def xOpB (w : Word) : OpB :=
  if 64 ≤ slM w then .imm (BitVec.ofNat 11 (slB w * 64 + slM w % 64)) else .reg (Fin.ofNat 32 (slB w))

/-- Operand b of CMP: its 8-bit immediate, sign-extended (R166). -/
def cmpOpB (w : Word) : OpB :=
  if 64 ≤ slM w then .imm ((BitVec.ofNat 8 (slB w * 8 + slM w / 8 % 8)).signExtend 11) else .reg (Fin.ofNat 32 (slB w))

def condOf (n : Nat) : Cond :=
  match n with | 0 => .eq | 1 => .ne | 2 => .lt | 3 => .ge | 4 => .le | 5 => .gt | 6 => .ltu | _ => .geu
def predOpOf (n : Nat) : PredOp := match n with | 0 => .and | 1 => .or | 2 => .xor | _ => .andn
def divModeOf (n : Nat) : DivMode := match n with | 0 => .int32 | 1 => .q31 | _ => .q16
def specRegOf (n : Nat) : SpecReg := match n with | 0 => .cp | 1 => .ft | _ => .tsl
def threshOf (n : Nat) : Thresh := match n with | 0 => .fastTrip | 1 => .overVolt | _ => .underVolt

/-- The operation of an M slot (R160). -/
def mOp (n : Engine) (m1 : Bool) (w : Word) : Option Instr :=
  let q := slGuard w
  let ad : Acc4 := Fin.ofNat 4 (slD w)
  let da : Reg := Fin.ofNat 32 (slA w)
  let db : Reg := Fin.ofNat 32 (slB w)
  match slOp w with
  | 0x01 => some (.mulQ31 n q m1 ad da db)
  | 0x02 => some (.macQ31 n q m1 ad da db)
  | 0x03 => some (.msuQ31 n q m1 ad da db)
  | 0x04 => some (.mulQ16 n q m1 ad da db)
  | 0x05 => some (.macQ16 n q m1 ad da db)
  | 0x06 => some (.msuQ16 n q m1 ad da db)
  | 0x07 => some (.muli n q m1 ad da (BitVec.ofNat 12 (slB w * 128 + slM w)))
  | 0x08 => some (.rda n q m1 (Fin.ofNat 32 (slD w)) (Fin.ofNat 4 (slA w)) (BitVec.ofNat 6 (slM w)) (decide (64 ≤ slM w)))
  | 0x09 => some (.clra n q m1 ad)
  | 0x3F => some (.segh n (BitVec.ofNat 12 (bitsOf w 25 14)))
  | _ => none

/-- The operation of the X slot (R165). -/
def xOp (n : Engine) (w : Word) : Option Instr :=
  let q := slGuard w
  let dd : Reg := Fin.ofNat 32 (slD w)
  let da : Reg := Fin.ofNat 32 (slA w)
  let db : Reg := Fin.ofNat 32 (slB w)
  let m := slM w
  match slOp w with
  | 0x01 => some (.add n q dd da (xOpB w))
  | 0x02 => some (.sub n q dd da (xOpB w))
  | 0x03 => some (.adds n q dd da (xOpB w))
  | 0x04 => some (.subs n q dd da (xOpB w))
  | 0x05 => some (.and n q dd da (xOpB w))
  | 0x06 => some (.or n q dd da (xOpB w))
  | 0x07 => some (.xor n q dd da (xOpB w))
  | 0x08 => some (.shl n q dd da (xOpB w))
  | 0x09 => some (.shr n q dd da (xOpB w))
  | 0x0A => some (.asr n q dd da (xOpB w))
  | 0x0B => some (.min n q dd da (xOpB w))
  | 0x0C => some (.max n q dd da (xOpB w))
  | 0x0D => some (.abs n q dd da)
  | 0x0E => some (.neg n q dd da)
  | 0x0F => some (.clamp n q dd da db (Fin.ofNat 8 m))
  | 0x10 => some (.ramp n q dd da db (Fin.ofNat 8 m))
  | 0x11 => some (.sel n q dd (Fin.ofNat 8 m) da db)
  | 0x12 => some (.cmp n q (Fin.ofNat 8 (slD w)) da (cmpOpB w) (condOf (m % 8)))
  | 0x13 => some (.plog n q (Fin.ofNat 8 (slD w)) (Fin.ofNat 8 (slA w)) (Fin.ofNat 8 (slB w)) (predOpOf (m % 4)))
  | 0x14 => some (.div n q dd da db (divModeOf (m % 4)))
  | _ => none

/-- The operation of the L slot (R174). -/
def lOp (n : Engine) (w : Word) : Option Instr :=
  let q := slGuard w
  let dd : Reg := Fin.ofNat 32 (slD w)
  let da : Reg := Fin.ofNat 32 (slA w)
  let db : Reg := Fin.ofNat 32 (slB w)
  let m := slM w
  let i : BitVec 7 := BitVec.ofNat 7 m
  match slOp w with
  | 0x01 => some (.ldc n q dd i)
  | 0x02 => some (.ldcx n q dd da i)
  | 0x03 => some (.stc n q i db)
  | 0x04 => some (.stcx n q da i db)
  | 0x05 => some (.lds n q dd i)
  | 0x06 => some (.ldsx n q dd da i)
  | 0x07 => some (.sts n q i db)
  | 0x08 => some (.stsx n q da i db)
  | 0x09 => some (.ldm n q dd (Fin.ofNat 8 (slA w)) (BitVec.ofNat 5 m))
  | 0x0A => some (.sta n q (Fin.ofNat 8 (slD w)) (m % 2 == 1) db)
  | 0x0B => some (.ldi n q dd (BitVec.ofNat 16 (slA w * 2048 + slB w * 64 + m / 2)) (m % 2 == 1))
  | 0x0C => some (.rds n q dd (specRegOf (m % 4)))
  | 0x0D => some (.evt n q i db)
  | 0x0E => some (.trip n q (Fin.ofNat 8 (slD w)) (threshOf (m % 4)) db)
  | 0x0F => some (.inj n q dd)
  | _ => none

/-- The operations that a bundle issues, NOP slots apart. -/
def bundleOps (n : Engine) (b : BitVec 128) : List Instr :=
  [mOp n false (slotWord .m0 b), mOp n true (slotWord .m1 b), xOp n (slotWord .x b), lOp n (slotWord .l b)].filterMap id

end Sys2Proof.Machine
end

