-- ==== Sys2Proof/Machine/Teller.lean ====
section
/-! DEFINITION. Machine/Teller.lean: the operations of the Teller's slots (06): each reads its operands in the cycle of
issue; results and products set out and land by RESULT_WRITE and ACCUMULATE. -/

namespace Sys2Proof.Machine

/-! ## M slots (R159..R164) -/

def mSlot (m1 : Bool) : SlotPos := if m1 then .m1 else .m0

/-- The exact product of two data registers (R159). -/
def State.product (s : State) (n : Nat) (da db : Reg) : Int := s.dint n da * s.dint n db

def execMulQ31 (n : Engine) (q : Guard) (m1 : Bool) (ad : Acc4) (da db : Reg) (s : State) : Out :=
  ok (s.issue n q (fun t => s.accOp n t (mSlot m1) ad true (2 * s.product n da db)))
def execMacQ31 (n : Engine) (q : Guard) (m1 : Bool) (ad : Acc4) (da db : Reg) (s : State) : Out :=
  ok (s.issue n q (fun t => s.accOp n t (mSlot m1) ad false (2 * s.product n da db)))
def execMsuQ31 (n : Engine) (q : Guard) (m1 : Bool) (ad : Acc4) (da db : Reg) (s : State) : Out :=
  ok (s.issue n q (fun t => s.accOp n t (mSlot m1) ad false (-(2 * s.product n da db))))
def execMulQ16 (n : Engine) (q : Guard) (m1 : Bool) (ad : Acc4) (da db : Reg) (s : State) : Out :=
  ok (s.issue n q (fun t => s.accOp n t (mSlot m1) ad true (s.product n da db)))
def execMacQ16 (n : Engine) (q : Guard) (m1 : Bool) (ad : Acc4) (da db : Reg) (s : State) : Out :=
  ok (s.issue n q (fun t => s.accOp n t (mSlot m1) ad false (s.product n da db)))
def execMsuQ16 (n : Engine) (q : Guard) (m1 : Bool) (ad : Acc4) (da db : Reg) (s : State) : Out :=
  ok (s.issue n q (fun t => s.accOp n t (mSlot m1) ad false (-s.product n da db)))

/-- MULI (R160): a 12-bit signed immediate. -/
def execMuli (n : Engine) (q : Guard) (m1 : Bool) (ad : Acc4) (da : Reg) (imm : BitVec 12) (s : State) : Out :=
  ok (s.issue n q (fun t => s.accOp n t (mSlot m1) ad true (s.dint n da * imm.toInt)))

/-- CLRA (R161). -/
def execClra (n : Engine) (q : Guard) (m1 : Bool) (ad : Acc4) (s : State) : Out :=
  ok (s.issue n q (fun t => s.accOp n t (mSlot m1) ad true 0))

/-- RDA (R163). -/
def execRda (n : Engine) (q : Guard) (m1 : Bool) (dd : Reg) (aa : Acc4) (sh : BitVec 6) (rnd : Bool) (s : State) : Out :=
  ok (s.issue n q (fun t => s.result n t (mSlot m1) 1 (.reg dd) (sat32 (rdaInt (s.acc n aa) sh.toNat rnd))))

/-- SEGH executes as NOP (R164). -/
def execSegh (_n : Engine) (_len : BitVec 12) (s : State) : Out := ok s

/-! ## X slot (R165..R172) -/

/-- An operation of the X slot with latency 1 that writes a data register. -/
def State.alu (s : State) (n : Nat) (q : Guard) (dd : Reg) (v : Sat32) : State :=
  s.issue n q (fun t => s.result n t .x 1 (.reg dd) v)

def execAdd (n : Engine) (q : Guard) (dd da : Reg) (b : OpB) (s : State) : Out := ok (s.alu n q dd (s.dreg n da + s.opb n b, false))
def execSub (n : Engine) (q : Guard) (dd da : Reg) (b : OpB) (s : State) : Out := ok (s.alu n q dd (s.dreg n da - s.opb n b, false))
def execAdds (n : Engine) (q : Guard) (dd da : Reg) (b : OpB) (s : State) : Out :=
  ok (s.alu n q dd (sat32 (s.dint n da + (s.opb n b).toInt)))
def execSubs (n : Engine) (q : Guard) (dd da : Reg) (b : OpB) (s : State) : Out :=
  ok (s.alu n q dd (sat32 (s.dint n da - (s.opb n b).toInt)))
def execAnd (n : Engine) (q : Guard) (dd da : Reg) (b : OpB) (s : State) : Out := ok (s.alu n q dd (s.dreg n da &&& s.opb n b, false))
def execOr (n : Engine) (q : Guard) (dd da : Reg) (b : OpB) (s : State) : Out := ok (s.alu n q dd (s.dreg n da ||| s.opb n b, false))
def execXor (n : Engine) (q : Guard) (dd da : Reg) (b : OpB) (s : State) : Out := ok (s.alu n q dd (s.dreg n da ^^^ s.opb n b, false))
def execShl (n : Engine) (q : Guard) (dd da : Reg) (b : OpB) (s : State) : Out := ok (s.alu n q dd (shl32 (s.dreg n da) (s.opb n b), false))
def execShr (n : Engine) (q : Guard) (dd da : Reg) (b : OpB) (s : State) : Out := ok (s.alu n q dd (shr32 (s.dreg n da) (s.opb n b), false))
def execAsr (n : Engine) (q : Guard) (dd da : Reg) (b : OpB) (s : State) : Out := ok (s.alu n q dd (asr32 (s.dreg n da) (s.opb n b), false))
def execMin (n : Engine) (q : Guard) (dd da : Reg) (b : OpB) (s : State) : Out :=
  ok (s.alu n q dd (BitVec.ofInt 32 (min (s.dint n da) (s.opb n b).toInt), false))
def execMax (n : Engine) (q : Guard) (dd da : Reg) (b : OpB) (s : State) : Out :=
  ok (s.alu n q dd (BitVec.ofInt 32 (max (s.dint n da) (s.opb n b).toInt), false))
def execAbs (n : Engine) (q : Guard) (dd da : Reg) (s : State) : Out := ok (s.alu n q dd (sat32 (s.dint n da).natAbs))
def execNeg (n : Engine) (q : Guard) (dd da : Reg) (s : State) : Out := ok (s.alu n q dd (sat32 (-s.dint n da)))

/-- CLAMP (R170). -/
def execClamp (n : Engine) (q : Guard) (dd da db : Reg) (pr : Pred) (s : State) : Out :=
  ok (s.issue n q (fun t =>
    let y := clampInt (s.dint n dd) (s.dint n da) (s.dint n db)
    (s.result n t .x 1 (.reg dd) (BitVec.ofInt 32 y, false)).resultP n t pr (y != s.dint n dd)))

/-- RAMP (R171). -/
def execRamp (n : Engine) (q : Guard) (dd da db : Reg) (pr : Pred) (s : State) : Out :=
  ok (s.issue n q (fun t =>
    let y := rampInt (s.dint n dd) (s.dint n da) (s.dint n db)
    (s.result n t .x 1 (.reg dd) (BitVec.ofInt 32 y, false)).resultP n t pr (y == s.dint n da)))

/-- SEL (R167). -/
def execSel (n : Engine) (q : Guard) (dd : Reg) (pm : Pred) (da db : Reg) (s : State) : Out :=
  ok (s.alu n q dd (if s.pred n pm then s.dreg n da else s.dreg n db, false))

/-- CMP (R168). -/
def execCmp (n : Engine) (q : Guard) (pd : Pred) (da : Reg) (b : OpB) (cond : Cond) (s : State) : Out :=
  ok (s.issue n q (fun t => s.resultP n t pd (condHolds cond (s.dreg n da) (s.opb n b))))

/-- PLOG (R169). -/
def execPlog (n : Engine) (q : Guard) (pd pa pb : Pred) (op : PredOp) (s : State) : Out :=
  ok (s.issue n q (fun t => s.resultP n t pd (predOpEval op (s.pred n pa) (s.pred n pb))))

/-- DIV (R172). -/
def execDiv (n : Engine) (q : Guard) (dd da db : Reg) (mode : DivMode) (s : State) : Out :=
  ok (s.issue n q (fun t => s.result n t .x 18 (.reg dd) (divSat mode (s.dint n da) (s.dint n db))))

/-! ## L slot: context and scratch memory (R125, R134, R139, R175, R236) -/

/-- A load: 0 after an uncorrectable error, which is known in cycle t + 1 (R139). One in a task's last bundle quashes it all
the same, and with its end (log entry 88). -/
def State.load (s : State) (n : Nat) (t : Task) (dd : Reg) (m : EMem) (i : Nat) (v : Word) : State :=
  let r := (s.use n m).telRead n m (i / 4)
  if r.2 then
    let s := (r.1.result n t .l 2 (.reg dd) (0, false)).modEng n (fun e => { e with loadUe := some (s.clk.now + 1, s.bundleAt t, t.entry) })
    if t.c0 + t.len ≤ s.clk.now + 1 then s.quash n (s.clk.now + 2) else s
  else r.1.result n t .l 2 (.reg dd) (v, false)

/-- The cycle t + 1 of an uncorrectable load: the fault is raised, the task is quashed and the engine may be halted from
t + 2 on (R139, R140, R144). -/
def State.loadFault (s : State) (n : Nat) : State :=
  match (s.eng n).loadUe with
  | some (c, addr, entry) =>
    if c ≤ s.clk.now then
      let s := ((s.modEng n (fun e => { e with loadUe := none })).telFault n 3 3 addr entry).quash n (c + 1)
      if s.bit (TEL_CTRL_HALT_ON_UE n) then s.modEng n (fun e => { e with haltAt := some (c + 1) }) else s
    else s
  | none => s

/-- An access out of range (R125, R140): suppressed; the task is quashed from the next cycle. -/
def State.rangeFault (s : State) (n : Nat) (t : Task) : State :=
  (s.telFault n 4 3 (s.bundleAt t) t.entry).quash n (s.clk.now + 1)

/-- The load of a register-formed index (R125, R175): out of range its own result of 0 is no result of an earlier bundle,
and lands. -/
def State.loadX (s : State) (n : Nat) (t : Task) (dd : Reg) (idx : Int) (lim : Nat) (go : Nat → State) : State :=
  if 0 ≤ idx ∧ idx < lim then go idx.toNat else (s.rangeFault n t).result n t .l 2 (.reg dd) (0, false)

/-- The store of a register-formed index. -/
def State.storeX (s : State) (n : Nat) (t : Task) (idx : Int) (lim : Nat) (go : Nat → State) : State :=
  if 0 ≤ idx ∧ idx < lim then go idx.toNat else s.rangeFault n t

/-- The index of a register-formed access: a signed, i unsigned, exact (R175). -/
def State.indexOf (s : State) (n : Nat) (da : Reg) (i : BitVec 7) : Int := s.dint n da + i.toNat

/-- The word that a write of context or scratch word `i` replaces is kept (R147). -/
def State.keepOld (s : State) (n : Nat) (scratch : Bool) (i : Nat) : State :=
  let w := if scratch then s.scrWord n i else s.ctxWord n i
  s.modEng n (fun e => { e with lastOld := w })

/-- A task store meets a supervisor write of the same word and cycle: the task's is kept, and the supervisor's is as if it
had not been (R147, R148). -/
def State.storeOver (s : State) (n : Nat) (scratch : Bool) (i : Nat) : State :=
  match (s.eng n).lastSup with
  | some (now, sc, j, dig) =>
    if now == s.clk.now && sc == scratch && i == j then
      let s := s.telCollide n
      if scratch then s else s.modEng n (fun e => { e with dig := SMap.set (fun _ => 0) e.dig (i / 128) dig })
    else s.keepOld n scratch i
  | none => s.keepOld n scratch i

/-- A task store to word `i` of its slot (R125, R134, R148). -/
def State.storeCtx (s : State) (n : Nat) (t : Task) (i : Nat) (v : Word) : State :=
  let j := 128 * t.slot + i
  s.telMerge n .ctx (j / 4) (fun s =>
    let s := ((s.storeOver n false j).putCtx n j v).feedDigest n t.slot (digBytes false i v)
    s.modEng n (fun e => { e with lastStore := some (s.clk.now, false, j) }))

/-- A word of the own outbox (R236). -/
def ownOutbox (n i : Nat) : Bool := decide (1792 + 16 * n ≤ i) && decide (i < 1808 + 16 * n)

/-- A task store to scratch word `i`; one to the own outbox is relayed (R236). -/
def State.storeScr (s : State) (n : Nat) (i : Nat) (v : Word) : State :=
  s.telMerge n .scr (i / 4) (fun s =>
    let s := (s.storeOver n true i).putScr n i v
    s.modEng n (fun e => { e with
      lastStore := some (s.clk.now, true, i)
      relay := if ownOutbox n i then e.relay ++ [(s.clk.now + 3, i, v)] else e.relay }))

def State.loadCtx (s : State) (n : Nat) (t : Task) (dd : Reg) (i : Nat) : State :=
  s.load n t dd .ctx (128 * t.slot + i) (s.ctxWord n (128 * t.slot + i))
def State.loadScr (s : State) (n : Nat) (t : Task) (dd : Reg) (i : Nat) : State := s.load n t dd .scr i (s.scrWord n i)

def execLdc (n : Engine) (q : Guard) (dd : Reg) (i : BitVec 7) (s : State) : Out := ok (s.issue n q (fun t => s.loadCtx n t dd i.toNat))
def execLdcx (n : Engine) (q : Guard) (dd da : Reg) (i : BitVec 7) (s : State) : Out :=
  ok (s.issue n q (fun t => s.loadX n t dd (s.indexOf n da i) 128 (fun j => s.loadCtx n t dd j)))
def execStc (n : Engine) (q : Guard) (i : BitVec 7) (db : Reg) (s : State) : Out :=
  ok (s.issue n q (fun t => s.storeCtx n t i.toNat (s.dreg n db)))
def execStcx (n : Engine) (q : Guard) (da : Reg) (i : BitVec 7) (db : Reg) (s : State) : Out :=
  ok (s.issue n q (fun t => s.storeX n t (s.indexOf n da i) 128 (fun j => s.storeCtx n t j (s.dreg n db))))
def execLds (n : Engine) (q : Guard) (dd : Reg) (i : BitVec 7) (s : State) : Out := ok (s.issue n q (fun t => s.loadScr n t dd i.toNat))
def execLdsx (n : Engine) (q : Guard) (dd da : Reg) (i : BitVec 7) (s : State) : Out :=
  ok (s.issue n q (fun t => s.loadX n t dd (s.indexOf n da i) 2048 (fun j => s.loadScr n t dd j)))
def execSts (n : Engine) (q : Guard) (i : BitVec 7) (db : Reg) (s : State) : Out :=
  ok (s.issue n q (fun _ => s.storeScr n i.toNat (s.dreg n db)))
def execStsx (n : Engine) (q : Guard) (da : Reg) (i : BitVec 7) (db : Reg) (s : State) : Out :=
  ok (s.issue n q (fun t => s.storeX n t (s.indexOf n da i) 2048 (fun j => s.storeScr n j (s.dreg n db))))

/-! ## L slot: bindings (R135..R137, R190, R192) -/

/-- Which access a descriptor must permit (R189). -/
inductive BindAcc where
  | ldm
  | sta (sel : Bool)
  | trip (sel : Thresh)
deriving DecidableEq, Repr

def BindAcc.permitted (a : BindAcc) (w : BitVec 64) : Bool :=
  match a with
  | .ldm => bdRD w
  | .sta false => bdWA w
  | .sta true => bdWB w
  | .trip .fastTrip => bdTF w
  | .trip .overVolt => bdTO w
  | .trip .underVolt => bdTU w

/-- The first failing check of an access through binding `b` (R192), or the link it reaches. -/
def State.bindCheck (s : State) (t : Task) (b : Binding) (a : BindAcc) : Nat ⊕ Nat :=
  match t.binds[b.val]? with
  | none => .inl 0
  | some w =>
    let k := bdLINK w
    if !a.permitted w then .inl 1
    else
      match a with
      | .ldm => if s.clk.cyc < dataReady (bdRSTROBE w) then .inl 2 else .inr k
      | .sta _ => if lastWrite (bdWFRAME w) < s.clk.cyc then .inl 3 else if s.bit (LNK_CTRL_ACT_SRC k) then .inl 4 else .inr k
      | .trip _ => if lastWrite (bdWFRAME w) < s.clk.cyc then .inl 3 else .inr k

/-- A contract violation (R137, R140, R192, R215). -/
def State.contract (s : State) (n : Nat) (t : Task) (b : Binding) (cause : Nat) : State :=
  let s := if s.bit (TEL_CV_INFO_VALID n) then s else
    let s := (s.hwSet (TEL_CV_INFO_VALID n)).put (TEL_CV_INFO_CAUSE n) cause
    let s := (s.put (TEL_CV_INFO_BIND n) b).put (TEL_CV_INFO_ENTRY n) t.entry
    s.put (TEL_CV_INFO_CYC n) s.clk.cyc
  let s := s.inc (TEL_CNT_CV_COUNT n)
  (s.telFault n 1 3 (s.bundleAt t) t.entry).quash n (s.clk.now + 1)

/-- LDM (R135, R137): a violating one writes 0. -/
def execLdm (n : Engine) (q : Guard) (dd : Reg) (b : Binding) (f : BitVec 5) (s : State) : Out :=
  ok (s.issue n q (fun t =>
    match s.bindCheck t b .ldm with
    | .inl c => (s.contract n t b c).result n t .l 2 (.reg dd) (0, false)
    | .inr k => s.result n t .l 2 (.reg dd) (s.mbField k f.toNat, false)))

/-- STA (R136, R177): `sel` is ACTB. -/
def execSta (n : Engine) (q : Guard) (b : Binding) (sel : Bool) (db : Reg) (s : State) : Out :=
  ok (s.issue n q (fun t =>
    match s.bindCheck t b (.sta sel) with
    | .inl c => s.contract n t b c
    | .inr k =>
      let v := sat16 (s.dint n db)
      (if sel then s.put (LNK_ACT_ACTB k) v.1.toNat else s.put (LNK_ACT_ACTA k) v.1.toNat).noteSat n v.2))

/-- TRIP (R180): the threshold waits for the actuation copy. -/
def execTrip (n : Engine) (q : Guard) (b : Binding) (sel : Thresh) (db : Reg) (s : State) : Out :=
  ok (s.issue n q (fun t =>
    match s.bindCheck t b (.trip sel) with
    | .inl c => s.contract n t b c
    | .inr k =>
      let v := satThresh (s.dint n db)
      (s.modLink k (fun l =>
        match sel with
        | .fastTrip => { l with tripFt := some v.1 }
        | .overVolt => { l with tripOv := some v.1 }
        | .underVolt => { l with tripUv := some v.1 })).noteSat n v.2))

/-! ## L slot: immediates, special registers, events, the analyser (R176, R178, R179, R181) -/

/-- LDI (R176). -/
def execLdi (n : Engine) (q : Guard) (dd : Reg) (imm : BitVec 16) (h : Bool) (s : State) : Out :=
  ok (s.issue n q (fun t => s.result n t .l 1 (.reg dd)
    (if h then imm ++ (s.dreg n dd).extractLsb' 0 16 else imm.signExtend 32, false)))

/-- RDS (R138, R178). -/
def execRds (n : Engine) (q : Guard) (dd : Reg) (sel : SpecReg) (s : State) : Out :=
  ok (s.issue n q (fun t => s.result n t .l 1 (.reg dd)
    (match sel with
      | .cp => BitVec.ofNat 32 (16 * n + t.slot)
      | .ft => BitVec.ofNat 32 s.clk.cyc
      | .tsl => (s.stamp domFAB).extractLsb' 0 32, false)))

/-- EVT (R179, R380). -/
def execEvt (n : Engine) (q : Guard) (code : BitVec 7) (db : Reg) (s : State) : Out :=
  ok (s.issue n q (fun t => s.raiseEv
    { src := 392 + n, cause := code.toNat, value := s.dreg n db, stamp := 0, order := 0
      ext := BitVec.ofNat 64 (16 * n + t.slot + 256 * s.clk.cyc) }))

/-- INJ (R181). -/
def execInj (n : Engine) (q : Guard) (dd : Reg) (s : State) : Out :=
  ok (s.issue n q (fun t => s.result n t .l 2 (.reg dd)
    (if (s.bit FRA_STAT_RUN || s.fra.tail) && s.fraTarget n t.slot then s.word FRA_SAMPLE else 0, false)))

/-! ## Results land (R127..R131) -/

/-- Priority of two results for one destination: L, X, M1, M0; of one slot the later-issued (R131). -/
def Result.beats (a b : Result) : Bool :=
  decide (slotNum b.slot < slotNum a.slot) || (a.slot == b.slot && decide (b.issued < a.issued))

/-- Writes predicate `p`; P0 has no storage (R122). -/
def setPred (ps : BitVec 8) (p : Pred) (b : Bool) : BitVec 8 :=
  let m : BitVec 8 := 1#8 <<< p.val
  if p = 0 then ps else if b then ps ||| m else ps &&& ~~~m

/-- One result against the others of its cycle: it lands, or is discarded with WCONF. -/
def State.land (s : State) (n : Nat) (batch : List Result) (r : Result) : State :=
  if batch.any (fun x => x.dest == r.dest && x.beats r) then
    let s := s.inc (TEL_CNT_WCONF_COUNT n)
    s.telFault n 5 (slotNum r.slot) r.addr (match (s.eng n).task with | some t => t.entry | none => s.get (TEL_STATUS_ENTRY n))
  else
    let s := match r.dest with
      | .reg d => s.modEng n (fun e => { e with d := SMap.set (fun _ => 0) e.d d r.val })
      | .pred p => s.modEng n (fun e => { e with p := setPred e.p p (r.val != 0) })
    s.noteSat n r.sat

/-- The first end of a result's way that has come. -/
def firstDue (now : Nat) (ds : List Nat) : Option Nat :=
  (ds.filter (fun d => decide (d ≤ now))).foldl (fun m d => match m with | some x => some (min x d) | none => some d) none

/-- RESULT_WRITE (R128, R131): the results of the earliest write cycle that has come land. -/
def execResultWrite (n : Engine) (s : State) : Out :=
  match firstDue s.clk.now ((s.eng n).results.map (·.due)) with
  | none => ok s
  | some d =>
    let batch := (s.eng n).results.filter (fun r => r.due == d)
    let s := s.modEng n (fun e => { e with results := e.results.filter (fun r => r.due != d) })
    ok (batch.foldl (fun t r => t.land n batch r) s)

/-- The operations of one stage on one accumulator: the clears first, then all products with one saturation (R130). -/
def State.accumulate (s : State) (n : Nat) (ops : List AccOp) (a : Acc4) : State :=
  let mine := ops.filter (fun o => o.acc == a)
  if mine.isEmpty then s
  else
    let start := if mine.any (fun o => o.clear) then 0 else s.acc n a
    let v := sat64 (mine.foldl (fun x o => x + o.add) start)
    (s.modEng n (fun e => { e with a := SMap.set (fun _ => 0) e.a a v.1 })).noteSat n v.2

/-- ACCUMULATE (R130): the earliest stage that has come. -/
def execAccumulate (n : Engine) (s : State) : Out :=
  match firstDue s.clk.now ((s.eng n).accs.map (·.due)) with
  | none => ok s
  | some d =>
    let ops := (s.eng n).accs.filter (fun o => o.due == d)
    let s := s.modEng n (fun e => { e with accs := e.accs.filter (fun o => o.due != d) })
    ok ([0, 1, 2, 3].foldl (fun t a => t.accumulate n ops a) s)

end Sys2Proof.Machine
end

