-- ==== Sys2Proof/Machine/Schedule.lean ====
section
/-! DEFINITION. Machine/Schedule.lean: tasks and engine states (R123, R124, R133, R143, R144), the scrub and the memory
windows (R139, R141, R146, R147, R184, R196), admission, swap and enabling of schedule banks (R195..R206); and the
meanings of their commands. -/

namespace Sys2Proof.Machine

/-! ## Enabling entries (R143, R204) -/

/-- Entries with EN = 1 in the active bank (R213). -/
def State.countEn (s : State) (n : Nat) : State :=
  match s.active n with
  | some x => s.put (TEL_SCH_STAT_NEN n) ((List.range 512).filter (fun e => enEN (s.entry n x e))).length
  | none => s.put (TEL_SCH_STAT_NEN n) 0

/-- Sets or clears EN of entry `e` of bank `x`. -/
def State.setEn (s : State) (n x e : Nat) (b : Bool) : State :=
  let w := s.entry n x e
  let w := if b then w ||| (1#64 <<< 63) else w &&& ~~~(1#64 <<< 63)
  s.telMerge n .bank (wordOfEntry x e) (fun s => { s with ents := SMap.set (fun _ => 0) s.ents (n * 1024 + 512 * x + e) w })

/-! ## Tasks (R123, R124, R133, R140, R142, R143, R187, R188, R205) -/

/-- Entry `e` of the active bank starts a task in this cycle (R187). -/
def State.startsNow (s : State) (n e : Nat) : Bool :=
  match s.active n with
  | none => false
  | some x =>
    let w := s.entry n x e
    (s.estate n == esRUNNING || s.estate n == esSTOPPING) && enEN w && enSTART w == s.clk.cyc && s.mfn % 2 ^ enRDIV w == enPHASE w

/-- Descriptors that an entry resolves, by index (R188). -/
def boundDescrs (w : BitVec 64) : List Nat :=
  ((List.range (min (enNBIND w) 8)).map (fun b => enBIND w + b)).filter (fun d => decide (d < 256))

/-- Reads a list of code words; says whether one is uncorrectable (R205). -/
def State.readAll (s : State) (n : Nat) (m : EMem) (ws : List Nat) : State × Bool :=
  ws.foldl (fun r w => let x := r.1.telRead n m w; (x.1, r.2 || x.2)) (s.use n m, false)

/-- The task of entry `e` starts (R123, R124, R140, R188). -/
def State.taskBegin (s : State) (n x e : Nat) : State :=
  let w := s.entry n x e
  let t : Task := { entry := e, base := enCODE w, len := enLEN w, c0 := s.clk.now, slot := enSLOT w, binds := (boundDescrs w).map (s.descr n x) }
  let s := s.modEng n (fun g => { g with d := [], a := [], p := 0, results := [], accs := [], task := some t })
  let s := s.put (TEL_STATUS_ENTRY n) e
  if s.eccRead n (enCODE w) != .bad && segLen (s.bundle n (enCODE w)) != some (enLEN w) then
    ((((s.use n .prog).telRead n .prog (enCODE w)).1).telFault n 7 4 (enCODE w) e).quash n s.clk.now
  else s

/-- TASK_START (R123, R187, R205). -/
def execTaskStart (n : Engine) (e : Fin 512) (s : State) : Out :=
  match s.active n with
  | none => ok s
  | some x =>
    if s.startsNow n e then
      let w := s.entry n x e
      let r := s.readAll n .bank (wordOfEntry x e :: (boundDescrs w).map (wordOfDescr x))
      if r.2 then ok ((r.1.raiseN (256 + n) 0x21 e).detect (20 + n)) else ok (r.1.taskBegin n x e)
    else ok s

/-- The bundle of this cycle is fetched (R123, R139): its operations, or the quash of an uncorrectable fetch. -/
def State.fetch (s : State) (n : Engine) : State × List Instr :=
  match s.issuing n with
  | none => (s, [])
  | some t =>
    let a := s.bundleAt t
    let r := (s.use n .prog).telRead n .prog a
    if r.2 then
      let s := (r.1.telFault n 2 4 a t.entry).quash n s.clk.now
      (if s.bit (TEL_CTRL_HALT_ON_UE n) then s.telHalt n else s, [])
    else (r.1, bundleOps n (s.bundle n a))

/-- TASK_END (R133, R143): what is still in flight is discarded, and a quashed entry may be disabled. -/
def execTaskEnd (n : Engine) (s : State) : Out :=
  match (s.eng n).task with
  | none => ok s
  | some t =>
    if s.clk.now + 1 < t.c0 + t.len then ok s
    else
      let e := s.eng n
      let s := e.results.foldl (fun u r => (u.inc (TEL_CNT_DRAIN_COUNT n)).telFault n 6 (slotNum r.slot) r.addr t.entry) s
      let s := e.accs.foldl (fun u o => (u.inc (TEL_CNT_DRAIN_COUNT n)).telFault n 6 (slotNum o.slot) o.addr t.entry) s
      let s := s.modEng n (fun e => { e with task := none, results := [], accs := [] })
      match s.active n with
      | some x => if t.quash.isSome && s.bit (TEL_CTRL_QUASH_POL n) then ok ((s.setEn n x t.entry false).countEn n) else ok s
      | none => ok s

/-! ## Scrub and write-back (R139, R141) -/

/-- A supervisor or scrub read that finds an uncorrectable error: flagged and reported, the word left (R139). -/
def State.telUeRead (s : State) (n : Nat) (m : EMem) (w slot : Nat) : State := s.telFault n m.ueCode slot (m.addr w) 0

/-- The scrub reads one code word of one memory; it reports a word once until it is written (R141). -/
def State.scrubOne (s : State) (n : Nat) (m : EMem) (w : Nat) (last : Option Nat) : State × Option Nat :=
  let r := s.telRead n m w
  if r.2 then (if last = some w then (r.1, last) else (r.1.telUeRead n m w 6, some w)) else (r.1, last)

/-- Where the scrub of a memory stands: its next code word, and the last one it reported. -/
def Eng.scrubAt (e : Eng) (m : EMem) : Nat × Option Nat :=
  match m with
  | .prog => (e.scrubProg, e.ueProg)
  | .ctx => (e.scrubCtx, e.ueCtx)
  | .scr => (e.scrubScr, e.ueScr)
  | .bank => (e.scrubBank, e.ueBank)
def Eng.setScrub (e : Eng) (m : EMem) (x : Nat × Option Nat) : Eng :=
  match m with
  | .prog => { e with scrubProg := x.1, ueProg := x.2 }
  | .ctx => { e with scrubCtx := x.1, ueCtx := x.2 }
  | .scr => { e with scrubScr := x.1, ueScr := x.2 }
  | .bank => { e with scrubBank := x.1, ueBank := x.2 }

/-- The scrub of one memory in a FAB cycle in which nothing has used it (R141). -/
def State.scrubMem (s : State) (n : Nat) (m : EMem) : State :=
  if s.inUse n m then s
  else
    let x := (s.eng n).scrubAt m
    let r := s.scrubOne n m x.1 x.2
    r.1.modEng n (fun e => e.setScrub m ((x.1 + 1) % m.words, r.2))

/-- SCRUB_READ (R141): each memory that no task and no supervisor access has used in this FAB cycle. -/
def execScrubRead (n : Engine) (s : State) : Out :=
  if s.bit (TEL_CTRL_SCRUB_EN n) then ok ((((s.scrubMem n .prog).scrubMem n .ctx).scrubMem n .scr).scrubMem n .bank) else ok s

/-- The oldest corrected word of memory `m` is written back where nothing has used that memory in this FAB cycle, which never
changes data (R141). It keeps the scrub from nothing (log entry 88). -/
def State.writeBack (s : State) (n : Nat) (m : EMem) : State :=
  match (s.eng n).wb.find? (fun x => x.1 == m && !s.inUse n m) with
  | none => s
  | some (_, w) =>
    let s := s.modEng n (fun e => { e with wb := e.wb.erase (m, w) })
    if s.eccRead (m.checker n) w == .corrected then s.telEncode n m w else s

/-- ECC_WRITEBACK (R141): one word of each memory. Where the scrub wants the same free memory in that cycle, both act and the
write-back goes first: the model's choice (log entry 88). -/
def execEccWriteback (n : Engine) (s : State) : Out :=
  ok ((((s.writeBack n .prog).writeBack n .ctx).writeBack n .scr).writeBack n .bank)

/-! ## Supervisor windows (R121, R139, R146, R147, R184, R186, R196, R229) -/

/-- Base address of an engine's windows. -/
def engBase (n : Nat) : Nat := 0x50000000 + n * 0x100000

/-- A half of a 64-bit word; bits 31:0 at the lower address (R186). -/
def halfOf (w : BitVec 64) (hi : Bool) : Word := if hi then w.extractLsb' 32 32 else w.extractLsb' 0 32
def setHalf (w : BitVec 64) (hi : Bool) (v : Word) : BitVec 64 := if hi then v ++ w.extractLsb' 0 32 else w.extractLsb' 32 32 ++ v

/-- Memory, code word and value at offset `o` of an engine's windows. -/
def State.winWord (s : State) (n o : Nat) : EMem × Nat × Word :=
  if o < 0x10000 then (.prog, o / 16, (s.bundle n (o / 16)).extractLsb' (32 * (o / 4 % 4)) 32)
  else if o < 0x12000 then (.ctx, (o - 0x10000) / 16, s.ctxWord n ((o - 0x10000) / 4))
  else if o < 0x14000 then (.scr, (o - 0x12000) / 16, s.scrWord n ((o - 0x12000) / 4))
  else
    let b := o - 0x14000
    if b < 0x2000 then (.bank, b / 16, halfOf (s.entry n (b / 0x1000) (b % 0x1000 / 8)) (b / 4 % 2 == 1))
    else (.bank, b / 16, halfOf (s.descr n ((b - 0x2000) / 0x800) ((b - 0x2000) % 0x800 / 8)) (b / 4 % 2 == 1))

/-- The word that a task store of this cycle has replaced at offset `o`, if one has (R147). -/
def State.beforeStore (s : State) (n o : Nat) : Option Word :=
  let x := if o < 0x12000 then (false, (o - 0x10000) / 4) else (true, (o - 0x12000) / 4)
  if 0x10000 ≤ o ∧ o < 0x14000 ∧ (s.eng n).lastStore = some (s.clk.now, x.1, x.2) then some (s.eng n).lastOld else none

/-- A supervisor read of engine memory (R139); of a word that a task store of the cycle reaches, the value before the store
(R147). -/
def State.engRead (s : State) (who : Who) (a : Nat) : State :=
  let n := (a - 0x50000000) / 0x100000
  let o := (a - 0x50000000) % 0x100000
  let x := s.winWord n o
  let r := (s.use n x.1).telRead n x.1 x.2.1
  if r.2 then (r.1.telUeRead n x.1 x.2.1 5).answer who 0 false else r.1.answer who ((s.beforeStore n o).getD x.2.2) false

/-- ENGINE_MEM_READ (R139). -/
def execEngineMemRead (who : Who) (a : Nat) (s : State) : Out :=
  let a := a / 4 * 4
  if 0x50000000 ≤ a ∧ a < 0x51000000 ∧ (a - 0x50000000) % 0x100000 < 0x17000 then ok (s.busRead who a (fun s => s.engRead who a)) else ok s

/-- A staging write (R146). -/
def State.stageWord (s : State) (n w : Nat) (v : Word) : State := s.modEng n (fun e => { e with stage := SMap.set (fun _ => 0) e.stage w v })

def execProgramStage (who : Who) (n : Engine) (a : BitVec 12) (w : Fin 3) (v : Word) (s : State) : Out :=
  ok (s.busWrite who (engBase n + 16 * a.toNat + 4 * w) v (fun s => s.stageWord n w v))

/-- An enabled entry of a bank in ADMITTING, WAITING or ACTIVE uses code address `a` (R146, R195). -/
def State.codeUsed (s : State) (n a : Nat) : Bool :=
  [0, 1].any (fun x => s.bankState n x != 0 && (List.range 512).any (fun e =>
    let w := s.entry n x e
    enEN w && decide (enCODE w ≤ a) && decide (a < enCODE w + enLEN w)))

/-- The commit of a bundle (R146, R184). -/
def State.commitBundle (s : State) (n a : Nat) (v : Word) : State :=
  let st := fun i => SMap.get (fun _ => 0) (s.eng n).stage i
  let b : BitVec 128 := v ++ st 2 ++ st 1 ++ st 0
  if bundleLegal b && !s.codeUsed n a then
    (({ s with prog := SMap.set (fun _ => 0) s.prog (n * 4096 + a) b }).use n .prog).telEncode n .prog a
  else s.raiseN (256 + n) 0x09 a

def execProgramCommit (who : Who) (n : Engine) (a : BitVec 12) (v : Word) (s : State) : Out :=
  ok (s.busWrite who (engBase n + 16 * a.toNat + 12) v (fun s => s.commitBundle n a.toNat v))

/-- Word `i` of the context memory lies in its slot's protected range (R229). -/
def State.protectedWord (s : State) (n i : Nat) : Bool :=
  let sl := i / 128
  let b := s.get (TEL_CPROT_BASE n sl)
  decide (b ≤ i % 128) && decide (i % 128 < b + s.get (TEL_CPROT_COUNT n sl))

/-- A supervisor write to context or scratch word `i` (R147, R148, R229). -/
def State.supStore (s : State) (n : Nat) (scratch : Bool) (i : Nat) (v : Word) : State :=
  if !scratch && s.protectedWord n i then s.raiseN (256 + n) 0x09 (4 * i)
  else if (s.eng n).lastStore = some (s.clk.now, scratch, i) then s.telCollide n
  else
    s.telMerge n (if scratch then .scr else .ctx) (i / 4) (fun s =>
      let dig := SMap.get (fun _ => 0) (s.eng n).dig (i / 128)
      let s := (s.keepOld n scratch i).modEng n (fun e => { e with lastSup := some (s.clk.now, scratch, i, dig) })
      if scratch then s.putScr n i v else (s.putCtx n i v).feedDigest n (i / 128) (digBytes true i v))

def execContextWrite (who : Who) (n : Engine) (scratch : Bool) (i : BitVec 11) (v : Word) (s : State) : Out :=
  ok (s.busWrite who (engBase n + (if scratch then 0x12000 else 0x10000) + 4 * i.toNat) v (fun s => s.supStore n scratch i.toNat v))

/-- A supervisor write to a bank (R186, R196): `o` from the start of the bank windows. BANK_LOCKED carries the offset from
the engine's base (log entry 14). -/
def State.bankStore (s : State) (n o : Nat) (v : Word) : State :=
  let x := if o < 0x2000 then o / 0x1000 else (o - 0x2000) / 0x800
  let hi := o / 4 % 2 == 1
  if s.bankState n x != 0 then s.raiseN (256 + n) 0x22 (0x14000 + o)
  else
    s.telMerge n .bank (o / 16) (fun s =>
      if o < 0x2000 then
        let e := o % 0x1000 / 8
        { s with ents := SMap.set (fun _ => 0) s.ents (n * 1024 + 512 * x + e) (setHalf (s.entry n x e) hi v) }
      else
        let d := (o - 0x2000) % 0x800 / 8
        { s with binds := SMap.set (fun _ => 0) s.binds (n * 512 + 256 * x + d) (setHalf (s.descr n x d) hi v) })

def execBankWrite (who : Who) (n : Engine) (off : BitVec 14) (v : Word) (s : State) : Out :=
  let o := off.toNat / 4 * 4
  ok (s.busWrite who (engBase n + 0x14000 + o) v (fun s => s.bankStore n o v))

/-! ## Engine states (R144, R150) -/

/-- A committed bank exists (R195). -/
def State.committed (s : State) (n : Nat) : Bool := decide (2 ≤ s.bankState n 0) || decide (2 ≤ s.bankState n 1)

/-- The counters that TEL_CTRL.CNT_CLR clears (R155, R212). -/
def State.telCntClr (s : State) (n : Nat) : State :=
  [TEL_CNT_CE_COUNT n, TEL_CNT_QUASH_COUNT n, TEL_CNT_WCONF_COUNT n, TEL_CNT_DRAIN_COUNT n, TEL_CNT_COLLIDE_COUNT n, TEL_CNT_CV_COUNT n].foldl
    (fun t f => t.put f 0) s

/-- RUN written (R144). -/
def State.engRun (s : State) (n : Nat) : State :=
  if s.estate n != esSTOPPED then s
  else if s.committed n then s.engTo n esARMED
  else (s.hwSet (TEL_STATUS_NOBANK n)).raiseN (256 + n) 0x0A 0

/-- STOP written (R144). -/
def State.engStop (s : State) (n : Nat) : State :=
  if s.estate n == esRUNNING then s.engTo n esSTOPPING
  else if s.estate n == esSTOPPING then s
  else s.engTo n esSTOPPED

/-- TEL_CTRL (R144, R150): RUN with STOP is a reserved encoding, and RUN is one in the safe state (R373); in SCRAPPED the engine
stays off (R437). -/
def State.wTelCtrl (n : Nat) (v : Word) (s : State) : State :=
  s.regWrite (TEL_CTRL n) v (!(tb v 0 && (tb v 1 || s.safe))) (fun s =>
    let s := if tb v 5 then s.telCntClr n else s
    if tb v 0 then (if s.scrapped then s else s.engRun n) else if tb v 1 then s.engStop n else s)

def execRun (who : Who) (n : Engine) (v : Word) (s : State) : Out :=
  ok (s.busWrite who (TEL_CTRL n) (withBit v 0) (State.wTelCtrl n (withBit v 0)))
def execStop (who : Who) (n : Engine) (v : Word) (s : State) : Out :=
  ok (s.busWrite who (TEL_CTRL n) (withBit v 1) (State.wTelCtrl n (withBit v 1)))
def execTelCntClr (who : Who) (n : Engine) (v : Word) (s : State) : Out :=
  ok (s.busWrite who (TEL_CTRL n) (withBit v 5) (State.wTelCtrl n (withBit v 5)))

/-- ENGINE_START (R144): at a major-frame start. -/
def execEngineStart (n : Engine) (s : State) : Out := if s.estate n == esARMED then ok (s.engTo n esRUNNING) else ok s

/-- ENGINE_STOPPED (R144): at the end of the major frame. -/
def execEngineStopped (n : Engine) (s : State) : Out := if s.estate n == esSTOPPING then ok (s.engTo n esSTOPPED) else ok s

/-! ## Commit and admission (R195, R197..R200, R211, R219) -/

/-- Engines of a mask, ascending. -/
def maskEngines (m : BitVec 16) : List Nat := (List.range 16).filter (fun n => m.getLsbD n)

/-- The committed bank of engine `n`: the one NEXT names. -/
def State.nextBank (s : State) (n : Nat) : Nat := s.get (TEL_SCH_STAT_NEXT n)

/-- SCH_ERR, SCH_ERR_VAL and FAIL (R218, R219). -/
def State.schErr (s : State) (code engine entry value : Nat) : State :=
  let s := (((s.put SCH_ERR_ENGINE engine).put SCH_ERR_ENTRY entry).put SCH_ERR_CODE code).hwSet SCH_ERR_ERRV
  (s.put SCH_ERR_VAL_VALUE value).hwSet SCH_STAT_FAIL

/-- The fabric goes IDLE; COMMIT reads 0 (R217). -/
def State.schIdle (s : State) : State := ((s.put SCH_STAT_STATE 0).putBit SCH_CTRL_COMMIT false).disarm .admissionDone

/-- The committed banks of present engines take a state. -/
def State.setCommitted (s : State) (m : BitVec 16) (st : Nat) : State :=
  ((maskEngines m).filter (fun n => decide (n < s.nEngines))).foldl (fun t n => t.setBank n (t.nextBank n) st) s

/-- One alternative of an admission check. -/
def failIf (b : Bool) (code value : Nat) : Option (Nat × Nat) := if b then some (code, value) else none

/-- A binding descriptor that permits some write. -/
def bdWrites (w : BitVec 64) : Bool := bdWA w || bdWB w || bdTF w || bdTO w || bdTU w

/-- The first failing of checks 2..8 of an entry with EN = 1 (R198): code and VALUE. The alternatives of a check come in the
order of its row, each over all descriptors. -/
def State.entryCheck (s : State) (n x e : Nat) : Option (Nat × Nat) :=
  let w := s.entry n x e
  let ds := boundDescrs w
  let hw := (halfOf w true).toNat
  let dw := fun d => s.descr n x d
  let dh := fun d => (halfOf (dw d) true).toNat
  let last := enSTART w + enLEN w - 1
  let per := fun (f : Nat → Option (Nat × Nat)) => ds.findSome? f
  failIf (decide (2400 ≤ enSTART w)) 2 hw
    <|> failIf (enLEN w == 0) 2 hw
    <|> failIf (decide (2 ^ enRDIV w ≤ enPHASE w)) 2 hw
    <|> per (fun d => failIf (decide (96 ≤ bdLINK (dw d))) 2 (dh d))
    <|> per (fun d => failIf ((dw d).extractLsb' 0 38 != 0 || (!bdRD (dw d) && bdRSTROBE (dw d) != 0)
          || (!bdWrites (dw d) && bdWFRAME (dw d) != 0)) 2 (dh d))
    <|> failIf (decide (2400 < enSTART w + enLEN w)) 1 (enSTART w + enLEN w)
    <|> failIf (decide (4096 < enCODE w + enLEN w)) 1 (enCODE w + enLEN w)
    <|> failIf (decide (8 < enNBIND w)) 1 (enNBIND w)
    <|> failIf (decide (256 < enBIND w + enNBIND w)) 1 (enBIND w + enNBIND w)
    <|> per (fun d => failIf (decide (s.nLinks ≤ bdLINK (dw d))) 3 (bdLINK (dw d)))
    <|> failIf (segLen (s.bundle n (enCODE w)) != some (enLEN w)) 4 ((segLen (s.bundle n (enCODE w))).getD 0)
    <|> per (fun d => failIf (bdROLE (dw d) != s.role (bdLINK (dw d))) 8 (bdLINK (dw d)))
    <|> per (fun d => failIf (bdBGT (dw d)) 9 d)
    <|> per (fun d => failIf (bdRD (dw d) && decide (last < dataReady (bdRSTROBE (dw d)))) 7 d)
    <|> per (fun d => failIf (bdWrites (dw d) && decide (lastWrite (bdWFRAME (dw d)) < enSTART w)) 7 d)

/-- Check 1 of one code word (R139, R198): it is read, with what a correction brings; one that is uncorrectable fails with its
byte offset in the engine's window. -/
def State.admitWord (s : State) (n : Nat) (m : EMem) (i off : Nat) : State × Option (Nat × Nat) :=
  let r := s.telRead n m i
  (r.1, failIf r.2 11 off)

/-- Goes on with a check where the ones before it have passed. -/
def andThen {α : Type} (x : State × Option α) (f : State → State × Option α) : State × Option α :=
  match x.2 with | none => f x.1 | some _ => x

/-- Checks 1..8 of an entry, each word read as its turn comes (R198): code and VALUE of the first that fails. -/
def State.admitEntry (s : State) (n x e : Nat) : State × Option (Nat × Nat) :=
  let w := s.entry n x e
  let head := s.admitWord n .bank (wordOfEntry x e) (0x14000 + 0x1000 * x + 8 * e)
  if !enEN w then head
  else
    let ds := (boundDescrs w).foldl (fun r d => andThen r (fun t => t.admitWord n .bank (wordOfDescr x d) (0x16000 + 0x800 * x + 8 * d))) head
    andThen (andThen ds (fun t => t.admitWord n .prog (enCODE w) (16 * enCODE w))) (fun t => (t, t.entryCheck n x e))

/-- The entries of engine `n`'s committed bank, to the first that fails: code, engine, entry, VALUE (R198). -/
def State.admitEngine (s : State) (n : Nat) : State × Option (Nat × Nat × Nat × Nat) :=
  (List.range 512).foldl (fun r e => andThen r (fun t =>
    let c := t.admitEntry n (t.nextBank n) e
    (c.1, c.2.map (fun c => (c.1, n, e, c.2))))) (s, none)

/-- Two entries both run in some major frame (R199). -/
def meet (a b : BitVec 64) : Bool :=
  let m := min (enRDIV a) (enRDIV b)
  enPHASE a % 2 ^ m == enPHASE b % 2 ^ m

/-- Two entries of one engine share a cycle (R199). -/
def overlap (a b : BitVec 64) : Bool :=
  meet a b && decide (enSTART a < enSTART b + enLEN b) && decide (enSTART b < enSTART a + enLEN a)

/-- The write claims of an entry: link, field, first and last cycle (R199). -/
def State.claims (s : State) (n x e : Nat) : List (Nat × Nat × Nat × Nat) :=
  let w := s.entry n x e
  (boundDescrs w).flatMap (fun d =>
    let b := s.descr n x d
    let c := fun f => (bdLINK b, f, enSTART w, lastWrite (bdWFRAME b))
    (if bdWA b then [c 0] else []) ++ (if bdWB b then [c 1] else []) ++ (if bdTF b then [c 2] else [])
      ++ (if bdTO b then [c 3] else []) ++ (if bdTU b then [c 4] else []))

/-- Two entries write one field of one link in claim intervals that share a cycle (R199). -/
def State.rivals (s : State) (n x e n' x' e' : Nat) : Bool :=
  meet (s.entry n x e) (s.entry n' x' e')
    && (s.claims n x e).any (fun c => (s.claims n' x' e').any (fun d =>
      c.1 == d.1 && c.2.1 == d.2.1 && decide (c.2.2.1 ≤ d.2.2.2) && decide (d.2.2.1 ≤ c.2.2.2)))

/-- Entries with EN = 1 of the committed banks: engine, bank, entry, in order. -/
def State.committedEntries (s : State) (m : BitVec 16) : List (Nat × Nat × Nat) :=
  (maskEngines m).flatMap (fun n => ((List.range 512).filter (fun e => enEN (s.entry n (s.nextBank n) e))).map (fun e => (n, s.nextBank n, e)))

/-- Admitted entries of the active banks of engines outside the mask. -/
def State.outsideEntries (s : State) (m : BitVec 16) : List (Nat × Nat × Nat) :=
  ((List.range s.nEngines).filter (fun n => !m.getLsbD n)).flatMap (fun n =>
    match s.active n with
    | some x => ((List.range 512).filter (fun e => SMap.get (fun _ => false) (s.eng n).admitted (512 * x + e))).map (fun e => (n, x, e))
    | none => [])

/-- The first pair of a list that `f` refuses, the second from the rest of the list and then from `more`. -/
def firstPair (f : Nat × Nat × Nat → Nat × Nat × Nat → Bool) (l more : List (Nat × Nat × Nat)) : Option ((Nat × Nat × Nat) × (Nat × Nat × Nat)) :=
  match l with
  | [] => none
  | a :: t =>
    match (t ++ more).find? (f a) with
    | some b => some (a, b)
    | none => firstPair f t more

/-- The pairwise checks 9 and 10 (R198, R199): code, engine, entry, VALUE. -/
def State.pairCheck (s : State) (m : BitVec 16) : Option (Nat × Nat × Nat × Nat) :=
  let es := s.committedEntries m
  let rep := fun code (p : (Nat × Nat × Nat) × (Nat × Nat × Nat)) => (code, p.1.1, p.1.2.2, p.2.1 * 0x10000 + p.2.2.2)
  ((firstPair (fun a b => a.1 == b.1 && overlap (s.entry a.1 a.2.1 a.2.2) (s.entry b.1 b.2.1 b.2.2)) es []).map (rep 5))
    <|> ((firstPair (fun a b => s.rivals a.1 a.2.1 a.2.2 b.1 b.2.1 b.2.2) es (s.outsideEntries m)).map (rep 6))

/-- An admission: what its reads bring, and its first failing check: code, engine, entry, VALUE (R198). -/
def State.admitRun (s : State) (m : BitVec 16) : State × Option (Nat × Nat × Nat × Nat) :=
  match (maskEngines m).find? (fun n => decide (s.nEngines ≤ n)) with
  | some n => (s, some (3, n, 0, n))
  | none =>
    andThen ((maskEngines m).foldl (fun r n => andThen r (fun t => t.admitEngine n)) (s, none)) (fun t => (t, t.pairCheck m))

/-- The first failing check of an admission (R198). -/
def State.admission (s : State) (m : BitVec 16) : Option (Nat × Nat × Nat × Nat) := (s.admitRun m).2

/-- Entries that an admission examines (R200). -/
def State.admissionN (s : State) (m : BitVec 16) : Nat := (s.committedEntries m).length + (s.outsideEntries m).length

/-- The engine whose source carries a refusal (R211). -/
def State.refusalEngine (s : State) (m : BitVec 16) (code engine : Nat) : Nat :=
  if code = 3 ∧ s.nEngines ≤ engine then ((maskEngines m).filter (fun n => decide (n < s.nEngines))).headD 0 else engine

/-- A commit is refused whole (R198). -/
def State.refuseCommit (s : State) (code engine entry value : Nat) : State :=
  let m := s.sch.mask
  let s := (s.setCommitted m 0).schErr code engine entry value
  let s := s.raiseN (256 + s.refusalEngine m code engine) (0x10 + code) value
  let s := if code = 11 then s.detect (20 + engine) else s
  s.schIdle

/-- ADMISSION_DONE (R198, R200): admission ends with a refusal or with the banks WAITING. -/
def execAdmissionDone (s : State) : Out :=
  if s.get SCH_STAT_STATE == 1 then
    let r := (s.disarm .admissionDone).admitRun s.sch.mask
    match r.2 with
    | some (code, n, e, v) => ok (r.1.refuseCommit code n e v)
    | none => ok ((r.1.setCommitted s.sch.mask 2).put SCH_STAT_STATE 2)
  else ok s

/-- A commit fails with LATE (R200); no entry fails, so SCH_ERR names the lowest engine of the mask and entry 0 (log entry
88). -/
def State.commitLate (s : State) (m : BitVec 16) (mfn : Nat) : State :=
  let n := (maskEngines m).headD 0
  ((s.schErr 13 n 0 mfn).raiseN (256 + n) 0x1D mfn).schIdle

/-- The commit's decision cycle has passed (R200). -/
def State.decisionPassed (s : State) (mfn : Nat) : Bool := decide (2147483648 ≤ (mfn + 2 ^ 33 - 1 - s.mfn) % 2 ^ 32)

/-- COMMIT written (R197, R200): MASK, AT and SWAP_MFN count as they stand then (log entry 88). -/
def State.commit (s : State) (m : BitVec 16) (at_ : Bool) : State :=
  let mfn := s.get SCH_SWAP_MFN_MFN
  if m = 0 then s
  else if at_ && s.decisionPassed mfn then s.commitLate m mfn
  else
    let s := { s with sch := { s.sch with mask := m, at_ := at_, swapMfn := BitVec.ofNat 32 mfn, decided := false } }
    let s := ((s.setCommitted m 1).put SCH_STAT_STATE 1).putBit SCH_CTRL_COMMIT true
    s.arm (1024 + 16 * s.admissionN m) .admissionDone

/-- The decision of this frame's cycle 2399 leads to a swap (R200). -/
def State.swapDue (s : State) : Bool :=
  s.get SCH_STAT_STATE == 2 && (!s.sch.at_ || (s.mfn + 1) % 2 ^ 32 == s.sch.swapMfn.toNat)

/-- ABORT written (R203). -/
def State.schAbort (s : State) : State :=
  if s.get SCH_STAT_STATE == 0 then s
  else if s.sch.decided || (s.clk.cyc == 2399 && s.swapDue) then s.hwSet SCH_STAT_ABORT_LATE
  else (s.setCommitted s.sch.mask 0).schIdle

/-- SCH_CTRL (R197, R203, R217): COMMIT with ABORT is a reserved encoding; a commit while one is in progress is refused
with BUSY. -/
def State.wSchCtrl (v : Word) (s : State) : State :=
  let m : BitVec 16 := v.extractLsb' 0 16
  let n := (maskEngines m).headD 0
  if tb v 16 && !tb v 17 && s.get SCH_STAT_STATE != 0 then
    if m = 0 then s else (s.schErr 12 n 0 m.toNat).raiseN (256 + n) 0x1C m.toNat
  else
    s.regWrite SCH_CTRL v (!(tb v 16 && tb v 17)) (fun s =>
      if tb v 16 then s.commit m (tb v 18) else if tb v 17 then s.schAbort else s)

/-- SCH_ERR: ERRV clears all fields and SCH_ERR_VAL (R219). -/
def State.wSchErr (v : Word) (s : State) : State :=   let t := s.clearErr SCH_ERR_ERRV v
  if t.bit SCH_ERR_ERRV then t else t.setWord SCH_ERR_VAL 0

def execSchCommit (who : Who) (v : Word) (s : State) : Out := ok (s.busWrite who SCH_CTRL (withBit v 16) (State.wSchCtrl (withBit v 16)))
def execSchAbort (who : Who) (v : Word) (s : State) : Out := ok (s.busWrite who SCH_CTRL (withBit v 17) (State.wSchCtrl (withBit v 17)))

/-! ## Swap (R200, R201) -/

/-- SWAP_DECISION (R200): in FAB cycle 2399. -/
def execSwapDecision (s : State) : Out :=
  if s.swapDue then ok { s with sch := { s.sch with decided := true } }
  else if s.get SCH_STAT_STATE == 1 && s.sch.at_ && (s.mfn + 1) % 2 ^ 32 == s.sch.swapMfn.toNat then
    ok ((s.setCommitted s.sch.mask 0).commitLate s.sch.mask s.sch.swapMfn.toNat)
  else ok s

/-- Engine `n` swaps (R201). -/
def State.swapEngine (s : State) (n : Nat) : State :=
  let x := s.nextBank n
  let es := (List.range 512).filter (fun e => enEN (s.entry n x e))
  let s := s.modEng n (fun g => { g with admitted := es.foldl (fun m e => SMap.set (fun _ => false) m (512 * x + e) true) [] })
  let s := es.foldl (fun t e => if enINITOFF (t.entry n x e) then t.setEn n x e false else t) s
  let s := if s.bankState n (1 - x) == 3 then s.setBank n (1 - x) 0 else s
  ((s.setBank n x 3).put (TEL_SCH_STAT_NEXT n) (1 - x)).countEn n

/-- SWAP (R201): in FAB cycle 0. -/
def execSwap (s : State) : Out :=
  if s.sch.decided && s.get SCH_STAT_STATE == 2 then
    let ns := (maskEngines s.sch.mask).filter (fun n => decide (n < s.nEngines))
    let s := ns.foldl (fun t n => t.swapEngine n) s
    let s := { s with sch := { s.sch with decided := false } }
    let s := (s.put SCH_SWAP_LAST_MFN s.mfn).hwSet SCH_STAT_DONE
    ok ((s.raiseN (256 + ns.headD 0) 0x20 s.mfn).schIdle)
  else ok s

/-! ## Enable requests (R204, R214) -/

/-- A request is ignored (R204). -/
def State.notAdmitted (s : State) (n e : Nat) : State :=
  let s := (((s.put SCH_ERR_ENGINE n).put SCH_ERR_ENTRY e).put SCH_ERR_CODE 14).hwSet SCH_ERR_ERRV
  (s.put SCH_ERR_VAL_VALUE e).raiseN (256 + n) 0x1E e

/-- One request of engine `n`: set or clear, entry. -/
def State.enApply (s : State) (n : Nat) (r : Bool × Nat) : State :=
  match s.active n with
  | none => s.notAdmitted n r.2
  | some x =>
    if r.1 && !SMap.get (fun _ => false) (s.eng n).admitted (512 * x + r.2) then s.notAdmitted n r.2
    else s.setEn n x r.2 r.1

/-- ENABLE_APPLY (R204, R304): the requests of firmware in the order made, then those of the hold-up switch. -/
def execEnableApply (s : State) : Out :=
  let rs := s.sch.enReqs ++ s.sch.huReqs
  let s := rs.foldl (fun u r => u.enApply r.1 r.2) { s with sch := { s.sch with enReqs := [], huReqs := [] } }
  ok (s.forN s.nEngines (fun n t => if rs.any (fun r => r.1 == n) then t.countEn n else t))

/-- TEL_SCH_ENSET, TEL_SCH_ENCLR (R204, R214). -/
def State.wEnReq (n : Nat) (set : Bool) (v : Word) (s : State) : State :=
  { s with sch := { s.sch with enReqs := s.sch.enReqs ++ [(n, set, bitsOf v 8 0)] } }

def execEnset (who : Who) (n : Engine) (v : Word) (s : State) : Out := ok (s.busWrite who (TEL_SCH_ENSET n) v (State.wEnReq n true v))
def execEnclr (who : Who) (n : Engine) (v : Word) (s : State) : Out := ok (s.busWrite who (TEL_SCH_ENCLR n) v (State.wEnReq n false v))

end Sys2Proof.Machine
end

