-- ==== Sys2Proof/Machine/Loops.lean ====
section
/-! DEFINITION. Machine/Loops.lean: what the hardware gives the loops (08): protected coefficients and timed updates
(R229..R235), the relay between engines (R236, R237), the frequency response analyser (R243..R254); and the meanings of
their commands. -/

namespace Sys2Proof.Machine

/-! ## Protected ranges (R229, R233) -/

/-- TEL_CPROT (R233). -/
def State.wCprot (n sl : Nat) (v : Word) (s : State) : State :=
  let count := bitsOf v 15 8
  s.regWrite (TEL_CPROT n sl) v (!s.bit (TEL_CPROT_LOCK n sl) && decide (count ≤ 128) && decide (bitsOf v 6 0 + count ≤ 128)) (fun s =>
    if tb v 31 then s.putBit (TEL_CPROT_LOCK n sl) true else s)

def execCprotWrite (who : Who) (n : Engine) (sl : Fin 16) (v : Word) (s : State) : Out :=
  ok (s.busWrite who (TEL_CPROT n sl) v (State.wCprot n sl v))

/-! ## Timed updates (R230, R231, R234, R235) -/

/-- ERR of TEL_CUPD_STAT (R235). -/
def State.cupdErr (s : State) (n e : Nat) : State := s.put (TEL_CUPD_STAT_ERR n) e

/-- The update ends without being applied: LATE or ABORT. -/
def State.cupdFail (s : State) (n e : Nat) : State := (s.cupdErr n e).hwSet (TEL_CUPD_STAT_FAIL n)

/-- No update is pending any more; GO reads 0. -/
def State.cupdEnd (s : State) (n : Nat) : State :=
  ((s.putBit (TEL_CUPD_STAT_PEND n) false).putBit (TEL_CUPD_CTRL_GO n) false).modEng n (fun e => { e with cupdAt := none })

/-- ABORT (R231): in time through cycle 2398 of the frame before the target. -/
def State.cupdAbort (s : State) (n : Nat) : State :=
  match (s.eng n).cupdAt with
  | none => s
  | some f => if s.clk.cyc = 2399 ∧ (s.mfn + 1) % 2 ^ 32 = f.toNat then s else (s.cupdFail n 3).cupdEnd n

/-- GO (R230). -/
def State.cupdGo (s : State) (n : Nat) (at_ : Bool) : State :=
  let f := s.get (TEL_CUPD_MFN_MFN n)
  if at_ && s.decisionPassed f then s.cupdFail n 1
  else
    let f := if at_ then f else (s.mfn + 1) % 2 ^ 32
    let s := ((s.cupdErr n 0).putBit (TEL_CUPD_STAT_PEND n) true).putBit (TEL_CUPD_CTRL_GO n) true
    s.modEng n (fun e => { e with cupdAt := some (BitVec.ofNat 32 f) })

/-- TEL_CUPD_CTRL (R231, R234). A reserved encoding while an update is pending breaks two rules, and both show: ERR BUSY and
ACCESS (log entry 89). -/
def State.wCupdCtrl (n : Nat) (v : Word) (s : State) : State :=
  let go := tb v 31
  let abort := tb v 30
  if !legalAt (TEL_CUPD_CTRL n) v || (go && abort) || decide (127 < bitsOf v 6 0 + bitsOf v 11 8) then
    (if s.bit (TEL_CUPD_STAT_PEND n) then s.cupdErr n 2 else s).access (TEL_CUPD_CTRL n)
  else if s.bit (TEL_CUPD_STAT_PEND n) then (if abort then s.cupdAbort n else s.cupdErr n 2)
  else
    let s := s.apply (TEL_CUPD_CTRL n) v
    if go then s.cupdGo n (tb v 29) else s

/-- TEL_CUPD_BUF and TEL_CUPD_MFN: not while an update is pending (R231). -/
def State.wCupdReg (n a : Nat) (v : Word) (s : State) : State :=
  if s.bit (TEL_CUPD_STAT_PEND n) then s.cupdErr n 2 else s.apply a v

def execCupdGo (who : Who) (n : Engine) (v : Word) (s : State) : Out :=
  ok (s.busWrite who (TEL_CUPD_CTRL n) (withBit v 31) (State.wCupdCtrl n (withBit v 31)))
def execCupdAbort (who : Who) (n : Engine) (v : Word) (s : State) : Out :=
  ok (s.busWrite who (TEL_CUPD_CTRL n) (withBit v 30) (State.wCupdCtrl n (withBit v 30)))

/-- The words of a timed update that lie in code word `cw`, written at once: one merge read where they do not fill it, and
one new code word (R361). A task store of this cycle to a word is kept (R231). Only words that are written feed the digest
(R148). -/
def State.cupdCode (s : State) (n : Nat) (ws : List (Nat × Word)) (cw : Nat) : State × List Byte × Bool :=
  let mine := ws.filter (fun w => w.1 / 4 == cw)
  let keep := mine.filter (fun w => (s.eng n).lastStore != some (s.clk.now, false, w.1))
  let hit := keep.length != mine.length
  if keep.isEmpty then (s, [], hit)
  else
    let r := if keep.length = 4 then (s.use n .ctx, false) else (s.use n .ctx).telRead n .ctx cw
    if r.2 then (r.1.detect (20 + n), [], hit)
    else ((keep.foldl (fun t w => t.putCtx n w.1 w.2) r.1).telEncode n .ctx cw, keep.flatMap (fun w => digBytes true w.1 w.2), hit)

/-- CUPD_APPLY (R230, R231): at the end of cycle 2399 before the target frame. -/
def execCupdApply (n : Engine) (s : State) : Out :=
  match (s.eng n).cupdAt with
  | none => ok s
  | some f =>
    if (s.mfn + 1) % 2 ^ 32 = f.toNat then
      let sl := s.get (TEL_CUPD_CTRL_SLOT n)
      let base := s.get (TEL_CUPD_CTRL_BASE n)
      let first := 128 * sl + base
      let last := s.get (TEL_CUPD_CTRL_LAST n)
      let ws := (List.range (last + 1)).map (fun i => (first + i, s.word (TEL_CUPD_BUF n i)))
      let r := (List.range ((first + last) / 4 + 1 - first / 4)).foldl
        (fun (a : State × List Byte × Bool) i =>
          let x := a.1.cupdCode n ws (first / 4 + i)
          (x.1, a.2.1 ++ x.2.1, a.2.2 || x.2.2)) (s, [], false)
      let s := r.1.modEng n (fun e => { e with cupdFeed := some (sl, r.2.1) })
      let s := (s.hwSet (TEL_CUPD_STAT_DONE n)).put (TEL_CUPD_LAST_MFN n) f.toNat
      let s := if r.2.2 then (s.hwSet (TEL_CUPD_STAT_COLLIDE n)).telCollide n else s
      ok (s.cupdEnd n)
    else ok s

/-! ## The relay (R236, R237) -/

/-- A relayed word reaches engine `m`; its own task store of this cycle is kept. -/
def State.relayTo (s : State) (m i : Nat) (v : Word) : State :=
  if (s.eng m).lastStore = some (s.clk.now, true, i) then s.telCollide m
  else s.telMerge m .scr (i / 4) (fun s => s.putScr m i v)

/-- RELAY_WRITE (R236): the outbox stores of engine `n` whose cycle has come reach every other enabled engine. -/
def execRelayWrite (n : Engine) (s : State) : Out :=
  let due := (s.eng n).relay.filter (fun r => decide (r.1 ≤ s.clk.now))
  let s := s.modEng n (fun e => { e with relay := e.relay.filter (fun r => decide (s.clk.now < r.1)) })
  ok (due.foldl (fun t r => t.forN t.nEngines (fun m u => if m = n.val then u else u.relayTo m r.2.1 r.2.2)) s)

/-! ## The generator (R243) -/

/-- π/2 in units of 2^−60. -/
def halfPi60 : Int := 1811004864519280711

/-- sin of a quarter-turn fraction x / 2^30, in units of 2^−60, by its series. -/
def sinQuarter (x : Int) : Int :=
  let one : Int := 2 ^ 60
  let t := x * halfPi60 / 2 ^ 30
  let u := t * t / one
  let h := fun (k acc : Int) => one - u * acc / one / k
  t * h 6 (h 20 (h 42 (h 72 (h 110 (h 156 (h 210 one)))))) / one

/-- sin(2π·φ / 2^32) in units of 2^−60. -/
def sin60 (phi : Nat) : Int :=
  let p := phi % 2 ^ 32
  let q := p / 2 ^ 30
  let r : Int := ((p % 2 ^ 30 : Nat) : Int)
  let x := if q % 2 = 1 then 2 ^ 30 - r else r
  if 2 ≤ q then -(sinQuarter x) else sinQuarter x

/-- The same in Q1.31, to the nearest. -/
def sinQ31 (phi : Nat) : Int := (sin60 phi + 2 ^ 28) / 2 ^ 29
def cosQ31 (phi : Nat) : Int := sinQ31 (phi + 2 ^ 30)

/-- The sine sample: any value of Q1.31 within 2^−20 of full scale, 2048 units, of the exact one (log entry 2). -/
def sineSample (amp : Nat) (phi : BitVec 32) : Int :=
  let y := (amp : Int) * sin60 phi.toNat
  let low := -((2048 * 2 ^ 60 - y) / 2 ^ 60)
  let high := (2048 * 2 ^ 60 + y) / 2 ^ 60
  max (-2147483648) (min 2147483647 (low + Config.sineError phi % (high - low + 1)))

/-- Order and tap of a PRBS (R243, R251). -/
def prbsShape (p : Nat) : Nat × Nat := match p with | 0 => (7, 6) | 1 => (9, 5) | 2 => (11, 9) | _ => (15, 14)

/-- The generator bit and the next register: it shifts left, and gives its top bit as it stood before the shift; R243 has the
polynomial and the seed alone (log entry 89). -/
def prbsNext (p : Nat) (r : BitVec 15) : Bool × BitVec 15 :=
  let sh := prbsShape p
  let b := r.getLsbD (sh.1 - 1)
  (b, (r <<< 1) ||| (if b ^^ r.getLsbD (sh.2 - 1) then 1 else 0))

def State.fraMode (s : State) : Nat := s.get FRA_CTRL_MODE
/-- PINC of the step in force (R243). -/
def State.fraPinc (s : State) : Nat := if s.fraMode = 1 then s.get (FRA_STEP_PINC (s.get FRA_STAT_STEP)) else s.get FRA_PINC_PINC

/-- round(c × 2^32 / pinc), halves up (R243). -/
def cyclesToSamples (c pinc : Nat) : Nat := (c * 2 ^ 33 + pinc) / (2 * pinc)

/-- Settle and integration samples of the step; PINC = 0 gives a step no end. -/
def State.fraSettle (s : State) : Nat := if s.fraPinc = 0 then 0 else cyclesToSamples (s.get FRA_TIMING_SETTLE) s.fraPinc
def State.fraInteg (s : State) : Option Nat := if s.fraPinc = 0 then none else some (cyclesToSamples (s.get FRA_TIMING_INTEG) s.fraPinc)

/-- Samples of a PRBS run (R243). -/
def State.fraPrbsLen (s : State) : Nat :=
  (2 ^ (prbsShape (s.get FRA_CTRL_PRBS)).1 - 1) * (s.get FRA_TIMING_SETTLE + s.get FRA_TIMING_INTEG)

/-! ## Results (R245) -/

/-- Integer square root, by bits from `k` down. -/
def isqrtBits (x k r : Nat) : Nat :=
  match k with
  | 0 => r
  | k + 1 => let c := r + 2 ^ k; isqrtBits x k (if c * c ≤ x then c else r)
def isqrt (x : Nat) : Nat := isqrtBits x 96 0

/-- atan(2^−i) in degrees, units of 2^−60. -/
def atanTable : List Int :=
  [51881467707308113920, 30627418773034646783, 16182686938069823352, 8214584569324243819, 4123232808599133647,
   2063626431570814868, 1032065020861045414, 516064003351895129, 258035938831706197, 129018461577219174,
   64509292309308377, 32254653844758038, 16127327883642516, 8063664061979211, 4031832046009350, 2015916024882143,
   1007958012675755, 503979006367213, 251989503187273, 125994751594095, 62997375797105, 31498687898560,
   15749343949281, 7874671974640, 3937335987320, 1968667993660, 984333996830, 492166998415, 246083499208,
   123041749604, 61520874802, 30760437401]
  ++
  [15380218700, 7690109350, 3845054675, 1922527338, 961263669, 480631834, 240315917, 120157959, 60078979, 30039490,
   15019745, 7509872, 3754936, 1877468, 938734, 469367, 234684, 117342, 58671, 29335, 14668, 7334, 3667, 1833, 917,
   458, 229, 115, 57, 29, 14, 7]

/-- Rotates (x, y), x ≥ 0, to the axis, adding up the angle. -/
def cordic (tab : List Int) (i : Nat) (x y a : Int) : Int :=
  match tab with
  | [] => a
  | t :: ts =>
    if 0 ≤ y then cordic ts (i + 1) (x + y / 2 ^ i) (y - x / 2 ^ i) (a + t) else cordic ts (i + 1) (x - y / 2 ^ i) (y + x / 2 ^ i) (a - t)

/-- The argument of (x, y) in degrees, units of 2^−60, in (−180, 180]. -/
def argDeg (x y : Int) : Int :=
  let half : Int := 180 * 2 ^ 60
  let at_ := fun (x y : Int) => cordic atanTable 0 (x * 2 ^ 64) (y * 2 ^ 64) 0
  if 0 ≤ x then at_ x y
  else if 0 ≤ y then at_ (-x) (-y) + half
  else at_ (-x) (-y) - half

/-- An angle in Q16.16 degrees, brought into (−180°, 180°]. -/
def wrapDeg (a : Int) : Int :=
  let full : Int := 360 * 65536
  let r := a % full
  if 180 * 65536 < r then r - full else r

/-- A free value of `low..high`. -/
def State.within (s : State) (low high : Int) : Int := low + (Config.freeNat s.free : Int) % (high - low + 1)

/-- The least number whose square times `q` is `p` or more. -/
def ceilRoot (p q : Nat) : Nat := let c := isqrt (p / q); if p ≤ c * c * q then c else c + 1

/-- GAIN for the squares |A|² = `a2` and |B|² = `b2`: any code of Q16.16 within a relative 2^−16 of the quotient, and the
nearest where there is none so near (R245; log entry 2). -/
def State.fraGain (s : State) (a2 b2 : Nat) : Nat :=
  let low := ceilRoot (65535 * 65535 * b2) a2
  let high := isqrt (65537 * 65537 * b2 / a2)
  min (if low ≤ high then (s.within low high).toNat else (isqrt (2 ^ 34 * b2 / a2) + 1) / 2) 0x7FFFFFFF

/-- PHASE for the phasor (x, y) of B over A: any code of Q16.16 within 0.01° of its argument; any at all where it has none
(R245; log entry 2). -/
def State.fraPhase (s : State) (x y : Int) : Int :=
  if x = 0 ∧ y = 0 then wrapDeg (s.within (1 - 180 * 65536) (180 * 65536))
  else
    let p := 100 * argDeg x y
    wrapDeg (s.within (-((2 ^ 60 - p) / (100 * 2 ^ 44))) ((p + 2 ^ 60) / (100 * 2 ^ 44)))

/-- Writes the result of step `i` (R245): what the spec bounds and no more is a free value (log entry 2). -/
def State.fraResult (s : State) (i : Nat) : State :=
  let (as_, ac, bs, bc) := s.fra.sums
  let a2 := (as_ * as_ + ac * ac).toNat
  let b2 := (bs * bs + bc * bc).toNat
  let n := (s.fraInteg).getD 0
  let s := if n < 65536 then s.put (FRA_RES_N_N i) n else s.drawn.put (FRA_RES_N_N i) (Config.freeNat s.free)
  let s := (s.putBit (FRA_RES_N_VALID i) true).putBit (FRA_RES_N_ZERO_A i) (a2 == 0)
  if a2 = 0 then ((s.put (FRA_RES_GAIN_GAIN i) 0x7FFFFFFF).put (FRA_RES_PHASE_PHASE i) 0).put (FRA_RES_MAGA_MAGA i) 0
  else
    let s := s.drawn.put (FRA_RES_GAIN_GAIN i) (s.fraGain a2 b2)
    let s := s.drawn.put (FRA_RES_PHASE_PHASE i) (ofInt 32 (s.fraPhase (bs * as_ + bc * ac) (bc * as_ - bs * ac)))
    let m := isqrt (4 * a2 * 2 ^ 32 / (n * n * 2 ^ 62))
    if m < 2 ^ 32 then s.put (FRA_RES_MAGA_MAGA i) m else s.drawn.put (FRA_RES_MAGA_MAGA i) (Config.freeNat s.free)

/-! ## A run (R243..R247) -/

/-- The run is over; INJ returns 0. -/
def State.fraOver (s : State) : State :=
  ({ s.fraIdle with fra := {} }).setWord FRA_SAMPLE 0 |>.disarm .fraBoundary

/-- GO (R243, R244, R246): AMP, LATE and CAPX are tested in this order (log entry 89). -/
def State.fraGo (s : State) : State :=
  let cap := s.bit FRA_WORDS_CAP_EN
  let ch := s.get FRA_WORDS_CAP_CH
  if s.get FRA_AMP_LIM_LIM < s.get FRA_AMP_AMP then s.fraFail 1
  else if s.bit FRA_CTRL_AT && s.decisionPassed (s.get FRA_START_MFN_MFN) then s.fraFail 2
  else if cap && s.get (LDG_WCH_SRC ch) != 2 then s.fraFail 3
  else
    let s := s.forN 32 (fun i t => t.setWord (FRA_RES_N i) 0)
    let s := ((s.put FRA_STAT_ERR 0).put FRA_STAT_STEP 0).putBit FRA_STAT_ARMED true
    let s := s.putBit FRA_CTRL_GO true
    let s := if cap then ((s.put (LDG_WST_WIDX ch) 0).put (LDG_WST_FILL ch) 0).putBit (LDG_WST_FROZEN ch) false else s
    { s with fra := { tail := s.fra.tail, goMfn := BitVec.ofNat 32 s.mfn } }

/-- STOP (R247): at the next boundary; a run that has not begun stops at once. -/
def State.fraStop (s : State) : State :=
  if s.bit FRA_STAT_RUN then s.fraAbort 5
  else if s.bit FRA_STAT_ARMED then (s.fraFail 5).fraOver
  else s

/-- FRA_CTRL (R250, R251). A reserved encoding during a run shows ERR BUSY and ACCESS, as both rules ask (log entry 89). -/
def State.wFraCtrl (v : Word) (s : State) : State :=
  let go := tb v 31
  let stop := tb v 30
  if !legalAt FRA_CTRL v || (go && stop) || decide (s.nEngines ≤ bitsOf v 15 12) then
    (if s.bit FRA_STAT_RUN || s.bit FRA_STAT_ARMED then s.put FRA_STAT_ERR 4 else s).access FRA_CTRL
  else if s.bit FRA_STAT_RUN || s.bit FRA_STAT_ARMED then (if stop then s.fraStop else s.put FRA_STAT_ERR 4)
  else
    let s := s.apply FRA_CTRL v
    if go then s.fraGo else s

/-- Any other register of the analyser's pages (R250); a reserved offset is no register. -/
def State.wFraReg (a : Nat) (v : Word) (s : State) : State :=
  if (rowOf a).isNone then s
  else if s.bit FRA_STAT_RUN || s.bit FRA_STAT_ARMED then
    let s := s.put FRA_STAT_ERR 4
    if legalAt a v then s else s.access a
  else s.regWrite a v true id

def execFraGo (who : Who) (v : Word) (s : State) : Out := ok (s.busWrite who FRA_CTRL (withBit v 31) (State.wFraCtrl (withBit v 31)))
def execFraStop (who : Who) (v : Word) (s : State) : Out := ok (s.busWrite who FRA_CTRL (withBit v 30) (State.wFraCtrl (withBit v 30)))

/-- The armed run starts in this major frame (R243): that of FRA_START_MFN, or without AT the first after that of GO. -/
def State.fraDue (s : State) : Bool :=
  s.bit FRA_STAT_ARMED && (if s.bit FRA_CTRL_AT then s.mfn == s.get FRA_START_MFN_MFN else BitVec.ofNat 32 s.mfn != s.fra.goMfn)

/-- FRA_START (R243): at link frame 0 of the start frame; its first boundary follows in the same cycle. -/
def execFraStart (s : State) : Out :=
  if s.fraDue then ok (((s.putBit FRA_STAT_ARMED false).putBit FRA_STAT_RUN true).arm 0 .fraBoundary) else ok s

/-- Word `w` of the target slot as a load of this cycle reads it (R139, R245): 0 where it is uncorrectable, which is
detected as TEL_MEM (R361). -/
def State.fraWord (s : State) (w : Nat) : State × Word :=
  let n := s.get FRA_CTRL_ENGINE
  let i := 128 * s.get FRA_CTRL_SLOT + w
  let r := s.telRead n .ctx (i / 4)
  if r.2 then (r.1.detect (20 + n), 0) else (r.1, r.1.ctxWord n i)

/-- The words WA and WB at a boundary (R245, R246). -/
def State.fraWords (s : State) : State × Word × Word :=
  let a := s.fraWord (s.get FRA_WORDS_WA)
  let b := a.1.fraWord (s.get FRA_WORDS_WB)
  (b.1, a.2, b.2)

/-- The correlators take the response during the sample in force (R245). -/
def State.fraCorrelate (s : State) (wa wb : Word) : State :=
  let a := wa.toInt
  let b := wb.toInt
  let f := s.fra
  let th := f.phiOut.toNat
  let on := s.fraMode != 2 && decide (s.fraSettle ≤ f.n)
  let (as_, ac, bs, bc) := f.sums
  let sums := if on then (as_ + a * sinQ31 th, ac + a * cosQ31 th, bs + b * sinQ31 th, bc + b * cosQ31 th) else f.sums
  { s with fra := { f with sums := sums, n := f.n + 1 } }

/-- The capture of one record (R246), while its channel is still the analyser's (R392). -/
def State.fraCapture (s : State) (wa wb : Word) : State :=
  let ch := s.get FRA_WORDS_CAP_CH
  if s.bit FRA_WORDS_CAP_EN && s.get (LDG_WCH_SRC ch) == 2 && decide (s.fra.cap < waveLen) then
    let s := s.wavePut ch (bytesLE wa.toNat 4 ++ bytesLE wb.toNat 4)
    let s := { s with fra := { s.fra with cap := s.fra.cap + 1 } }
    if s.fra.cap = waveLen then ((s.hwSet FRA_STAT_CAPFULL).raiseN 63 0x04 8192).freeze ch else s
  else s

/-- The next sample is presented (R243). -/
def State.fraSampleOut (s : State) : State :=
  let amp := s.get FRA_AMP_AMP
  let f := s.fra
  if s.fraMode = 2 then
    let r := prbsNext (s.get FRA_CTRL_PRBS) f.lfsr
    let s := { s with fra := { f with lfsr := r.2, k := f.k + 1 } }
    s.setWord FRA_SAMPLE (BitVec.ofInt 32 (if r.1 then amp else -(amp : Int)))
  else
    let s := { s with fra := { f with phiOut := f.phi, k := f.k + 1 } }
    s.setWord FRA_SAMPLE (BitVec.ofInt 32 (sineSample amp f.phi))

/-- FRA_BOUNDARY (R243, R245..R247). At the boundary at which a step ends, the phase still moves on by that step's PINC (log
entry 89). -/
def execFraBoundary (s : State) : Out :=
  let s := s.disarm .fraBoundary
  if s.bit FRA_STAT_RUN then
    let (s, wa, wb) := s.fraWords
    let s := s.fraCapture wa wb
    let first := s.fra.k == 0
    let s := if first then s else s.fraCorrelate wa wb
    match s.fra.stop with
    | some code => ok ((s.fraFail code).fraOver)
    | none =>
      let s := if first then s else { s with fra := { s.fra with phi := s.fra.phi + BitVec.ofNat 32 s.fraPinc } }
      let s := s.arm (75 * s.get FRA_TIMING_PERIOD) .fraBoundary
      if s.fraMode = 2 then
        if s.fra.n = s.fraPrbsLen then ok (({ s with fra := { s.fra with ended := true } }).arm 0 .fraRunEnd) else ok s.fraSampleOut
      else
        match s.fraInteg with
        | some i => if s.fra.n = s.fraSettle + i then ok (s.fraSampleOut.arm 0 .fraStepEnd) else ok s.fraSampleOut
        | none => ok s.fraSampleOut
  else if s.fra.tail then ok ({ s with fra := { s.fra with tail := false } }.setWord FRA_SAMPLE 0)
  else ok s

/-- FRA_STEP_END (R245). -/
def execFraStepEnd (s : State) : Out :=
  let s := s.disarm .fraStepEnd
  match s.fraInteg with
  | none => ok s
  | some i =>
    if s.bit FRA_STAT_RUN && s.fraMode != 2 && s.fra.n == s.fraSettle + i then
      let st := s.get FRA_STAT_STEP
      let s := s.fraResult st
      let s := { s with fra := { s.fra with n := 0, sums := (0, 0, 0, 0) } }
      if s.fraMode = 1 ∧ st < s.get FRA_CTRL_LAST then ok (s.put FRA_STAT_STEP (st + 1))
      else ok (({ s with fra := { s.fra with ended := true } }).arm 0 .fraRunEnd)
    else ok s

/-- FRA_RUN_END (R247, R249). -/
def execFraRunEnd (s : State) : Out :=
  let s := s.disarm .fraRunEnd
  if s.bit FRA_STAT_RUN && s.fra.ended then
    let steps := if s.fraMode = 2 then 0 else s.get FRA_STAT_STEP + 1
    ok (((s.hwSet FRA_STAT_DONE).raiseN 63 0x01 steps).fraOver)
  else ok s

end Sys2Proof.Machine
end

