-- ==== Sys2Proof/Machine/Transfer.lean ====
section
/-! DEFINITION. Machine/Transfer.lean: the transfer of state to a new standby (R355) and the sending of cells (R339); and
the meanings of their commands. -/

namespace Sys2Proof.Machine

/-! ## Frames of a transfer -/

/-- First major frame of epoch E: M, or the frame after it where M is odd (log entry 15). -/
def epochOf (m : Nat) : Nat := (m + m % 2) % 2 ^ 32

/-- Link frames since the start of frame `m`. -/
def State.linkFramesSince (s : State) (m : Nat) : Int := s.framesSince m * 32 + s.lf

/-! ## What is captured (R355) -/

/-- The balances after the credit of an epoch. -/
def State.mintValues (s : State) : List Int := (List.range s.nLinks).map (fun k => (s.purse k).credited)

/-- The state of string `st` after an update. -/
def State.strValues (s : State) (st : Nat) : List Int :=
  let b := s.bstr st
  let a := match b.anchor with | some (t, n) => [1, t, (n : Int)] | none => [0, 0, 0]
  [s.tally st, b.qc, b.qr, (b.u : Int), (b.remB : Int), (b.remT : Int), (b.remD : Int), (b.rest : Int), (b.hiCnt : Int),
    (b.loCnt : Int), (b.lowCnt : Int), (b.okCnt : Int), boolInt b.linkSeen, boolInt b.live, b.iLast,
    ((s.word (BAT_SFLAG st)).toNat : Int), ((s.word (BAT_SCAP st)).toNat : Int)] ++ a
    ++ (match b.s1 with | some (t, v) => [1, (t : Int), v] | none => [0, 0, 0])
    ++ [((s.word (BAT_SUBST st)).toNat : Int), ((s.word (BAT_READING st)).toNat : Int)]
    ++ (b.hist.length : Int) :: b.hist.flatMap (fun x => [x.1, x.2])

/-- The rest rotation after an update, with BAT_STAT and BAT_ROT_MFN (R325, R326). -/
def State.rotValues (s : State) : List Int :=
  let win := fun (w : RestWin) => [(w.str : Int), (w.ms : Int), (w.w : Int), boolInt w.read]
  let r := s.bat
  (match r.plan with | .off => [0, 0] | .next => [1, 0] | .aborted => [2, 0] | .window m => [3, (m : Int)])
    ++ [(r.first : Int), ((s.word BAT_STAT).toNat : Int), ((s.word BAT_ROT_MFN).toNat : Int), (r.run.toList.length : Int),
      (r.ann.length : Int)] ++ (r.run.toList ++ r.ann).flatMap win

/-- The rest rotation takes captured values; a window that has begun since then runs. -/
def State.rotLoad (s : State) (v : Nat → Int) : State :=
  let n := fun i => (v i).toNat
  let win := fun i => { str := n i, ms := n (i + 1), w := n (i + 2), read := v (i + 3) == 1 : RestWin }
  let plan : RotPlan := match n 0 with | 0 => .off | 1 => .next | 2 => .aborted | _ => .window (n 1)
  let ann := (List.range (n 6)).map (fun i => win (7 + 4 * (n 5 + i)))
  let s := (s.setWord BAT_STAT (BitVec.ofNat 32 (n 3))).setWord BAT_ROT_MFN (BitVec.ofNat 32 (n 4))
  let s := { s with bat := { s.bat with plan := plan, first := n 2, run := if n 5 = 0 then none else some (win 7), ann := ann } }.batPart
  match ann with
  | w :: later => if 0 ≤ s.framesSince w.ms then s.rotEnd.rotBegin w later else s
  | [] => match s.bat.run with
    | some w => if 0 ≤ s.framesSince ((w.ms + w.w) % 2 ^ 32) then s.rotEnd else s
    | none => s

/-- String `st` takes captured values: its update of this epoch starts from them, its rest timer goes on. -/
def State.strLoad (s : State) (st : Nat) (v : Nat → Int) : State :=
  let n := fun i => (v i).toNat
  let old := s.bstr st
  let s := s.putTally st (v 0 + (s.tally st - old.prev))
  let s := (s.setWord (BAT_SFLAG st) (BitVec.ofNat 32 (n 15))).setWord (BAT_SCAP st) (BitVec.ofNat 32 (n 16))
  let rest := if old.epRestart then old.rest else n 7 + old.epRest
  let s := s.setBstr st { old with
    prev := v 0, qc := v 1, qr := v 2, u := n 3, remB := n 4, remT := n 5, remD := n 6, rest := rest, hiCnt := n 8, loCnt := n 9
    lowCnt := n 10, okCnt := n 11, linkSeen := v 12 == 1, live := v 13 == 1, iLast := if old.n = 0 then v 14 else old.iLast
    anchor := if v 17 = 1 then some (v 18, n 19) else none
    s1 := if v 20 = 1 then some (n 21, v 22) else none
    hist := (List.range (n 25)).map (fun i => (v (26 + 2 * i), v (27 + 2 * i))) }
  let own := s.get (BAT_SUBST_CONSEC st)
  let s := ((s.setWord (BAT_READING st) (BitVec.ofNat 32 (n 24))).setWord (BAT_SUBST st) (BitVec.ofNat 32 (n 23))).incBy (BAT_SUBST_TOTAL st) old.epSub
  let s := if old.n = 0 then s.incBy (BAT_SUBST_CONSEC st) old.epSub else s.put (BAT_SUBST_CONSEC st) own
  (s.put (BAT_REST_T_INTERVALS st) (min rest 0xFFFFFFFF)).putBit (BAT_SFLAG_AT_REST st) (rest != 0)

/-- Word `a` of engine `n` in the transfer's numbering. -/
def State.xferWord (s : State) (n a : Nat) : Word := if a < 2048 then s.ctxWord n a else s.scrWord n (a - 2048)

/-- The snapshot cells of engine `n` (R338). -/
def State.engineCells (s : State) (n : Nat) : List (BitVec 112) :=
  (List.range 1366).map (fun i =>
    let w := fun j => if 3 * i + j < 4096 then (s.xferWord n (3 * i + j)).toNat else 0
    payload [(3 * i, 100), (w 0, 0), (w 1, 32), (w 2, 64)])

/-- The cells of captured values, in the order private to the silicon stepping (R338). -/
def privateCells (sel : Nat) (vs : List Int) : List (BitVec 112) := (List.range (Config.xferCells sel)).map (Config.xferWrite sel vs)

/-! ## The holder serves (R355) -/

/-- A rest timer of the holder would reach a reading count within the next epoch. -/
def State.readingNear (s : State) : Bool :=
  s.strings.any (fun st =>
    let t := (s.bstr st).rest
    [restIntervals (s.bget BAT_REST_EXT_S), restIntervals (s.bget BAT_REST_DIR_S)].any (fun e => decide (t < e) && decide (e ≤ t + 64)))

/-- XRSP of a transfer. -/
def xrspCell (sel status m : Nat) : BitVec 128 := cellWord 0x09 sel (payload [(status, 108), (m, 76)])

def State.setServe (s : State) (x : Option Serve) : State := s.modTwn (fun t => { t with serve := x })

/-- The holder's side of transfer `x` is complete: the block's digests are compared again from the next frame (R355). -/
def State.serveClose (s : State) (x : Serve) : State :=
  s.modTwn (fun t => { t with serve := some { x with closed := true }, moved := SMap.ins t.moved x.sel s.mfn })

/-- The holder's captures at the start of a link frame. -/
def State.serveFrame (s : State) : State :=
  match s.twn.serve with
  | none => s
  | some x =>
    let e := epochOf x.m
    if x.sel ≤ 15 then
      if !x.started && s.framesSince x.m == 0 && s.lf == 0 then s.setServe (some { x with started := true, snap := s.engineCells x.sel }) else s
    else if x.sel = 16 then s
    else if x.sel = 17 then
      if !x.started && s.framesSince e == 0 && s.lf == 17 then s.setServe (some { x with started := true, snap := privateCells 17 s.mintValues }) else s
    else
      if !x.started && s.framesSince e == 2 && s.lf == 0 then
        if s.readingNear then
          (s.setServe (some { x with m := (e + 2) % 2 ^ 32 })).modTwn (fun t => { t with xcells := t.xcells ++ [xrspCell 18 2 x.m] })
        else s.serveClose { x with started := true, snap := privateCells 18 (s.strings.flatMap s.strValues ++ s.rotValues) }
      else s

/-- The holder's feeds, just before the evaluation of frame m + 1: the state after frame m, and the requests that this
evaluation takes. -/
def State.serveFeed (s : State) (x : Serve) : State :=
  let fs := s.feedLinks ++ x.again
  if s.linkFramesSince x.m ≠ 2 * x.fi + 1 then s
  else if x.fi < fs.length then
    s.setServe (some { x with started := true, fi := x.fi + 1, snap := x.snap ++ privateCells 16 (s.feedValues (fs.getD x.fi 0)) })
  else s.serveClose x

/-- XREQ (R355). -/
def execXreq (lane : Fin 2) (c : Cell) (s : State) : Out :=
  ok (s.cellIn lane c (fun _ => 0x08) (fun sel pay s =>
    let m := slice pay 103 72
    let good := s.holder && s.bit TWN_CFG_XFER_SERVE && s.twn.serve.isNone && decide (s.framesSince m < 0) && decide (sel ≤ 18)
    let s := s.modTwn (fun t => { t with xcells := t.xcells ++ [xrspCell sel (if good then 0 else 1) m] })
    if good then s.setServe (some { sel := sel, xw := slice pay 111 104, m := m }) else s))

/-! ## The standby receives (R355) -/

def State.setXfer (s : State) (x : Option Xfer) : State := s.modTwn (fun t => { t with xfer := x })

/-- XRSP (R355). -/
def execXrsp (lane : Fin 2) (c : Cell) (s : State) : Out :=
  ok (s.cellIn lane c (fun _ => 0x09) (fun sel pay s =>
    match s.twn.xfer with
    | none => s
    | some x =>
      if sel != x.sel then s
      else
        match slice pay 111 108 with
        | 0 => s.setXfer (some { x with accepted := true })
        | 1 => s.xferFail 3
        | 2 => (s.setXfer (some { x with m := (epochOf x.m + 2) % 2 ^ 32 })).putBit TWN_XFER_STAT_DEFER true
        | _ => s.xferFail 1))

/-- XSNAP (R355). -/
def execXsnap (lane : Fin 2) (c : Cell) (s : State) : Out :=
  ok (s.cellIn lane c (fun _ => 0x0A) (fun sel pay s =>
    match s.twn.xfer with
    | none => s
    | some x =>
      if sel != x.sel then s
      else
        let s := s.putBit TWN_XFER_STAT_DEFER false
        if x.sel ≤ 15 then
          let a := slice pay 111 100
          let m := (List.range 3).foldl (fun m j =>
            if a + j < 4096 then SMap.ins m (a + j) (BitVec.ofNat 32 (slice pay (32 * j + 31) (32 * j))) else m) x.snap
          s.setXfer (some { x with snap := m, lastAt := s.clk.now })
        else s.setXfer (some { x with cells := x.cells ++ [BitVec.ofNat 112 pay], lastAt := s.clk.now })))

/-- XJRNL (R355). -/
def execXjrnl (lane : Fin 2) (c : Cell) (s : State) : Out :=
  ok (s.cellIn lane c (fun _ => 0x0B) (fun sel pay s =>
    match s.twn.xfer with
    | none => s
    | some x =>
      if sel != x.sel then s
      else
        let a := (slice pay 95 84, BitVec.ofNat 32 (slice pay 83 52))
        let b := if slice pay 0 0 = 1 then [(slice pay 51 40, BitVec.ofNat 32 (slice pay 39 8))] else []
        s.setXfer (some { x with jr := x.jr ++ a :: b, lastAt := s.clk.now })))

/-! ## The apply points (R355) -/

/-- The transfer has been applied. -/
def State.xferDone (s : State) (sel : Nat) : State :=
  let s := s.modTwn (fun t => { t with xfer := none, xLane := none, xcells := [], moved := SMap.ins t.moved sel s.mfn })
  let s := if sel = 16 then s else
    let b := if sel ≤ 15 then sel else sel - 1
    (s.put ⟨TWN_DIVG, b, b⟩ 0).shadowPut
  let s := ((s.put TWN_XFER_STAT_ERR 0).hwSet TWN_XFER_STAT_DONE).putBit TWN_XFER_STAT_BUSY false
  ((s.putBit TWN_XFER_STAT_DEFER false).putBit TWN_XFER_CTRL_GO false).raiseN 359 0x01 (sel * 256)

/-- The words of an engine transfer, the snapshot first and then the writes after it. -/
def State.engineLoad (s : State) (n : Nat) (x : Xfer) : State :=
  let ws := x.snap ++ x.jr
  let s := ws.foldl (fun t w => if w.1 < 2048 then t.putCtx n w.1 w.2 else t.putScr n (w.1 - 2048) w.2) s
  let s := s.forN 512 (fun i t => (t.telEncode n .ctx i).telEncode n .scr i)
  s

/-- No write to context or scratch of engine `n` fell in cycles 2272..2399 of this frame. -/
def State.memQuiet (s : State) (n : Nat) : Bool :=
  match (s.eng n).lastMem with
  | none => true
  | some t => decide (t + s.clk.cyc < s.clk.now + 2272)

/-- Frame F at its cycle 2399, from frame M + XW − 1 on: `quiet` where the holder's last cycles hold no write. -/
def State.xferFrame (s : State) (m xw : Nat) (quiet : Bool) : Bool := decide ((xw : Int) - 1 ≤ s.framesSince m) && quiet

/-- 16 frames have passed without such a frame. -/
def State.xferStuck (s : State) (m xw : Nat) : Bool := decide ((xw : Int) - 1 + 15 ≤ s.framesSince m)

/-- The new balance of a purse (R355). -/
def State.purseSet (s : State) (k : Nat) (b : Int) : State :=
  let p := s.purse k
  if p.on then s.purseStore k { p with bal := max (b - p.since) (-s.debtMax) } else s

/-- The standby takes the next cells as feed `k`'s state, and evaluates the frame before this one from the inputs it kept. -/
def State.feedTake (s : State) (x : Xfer) (k : Nat) : State :=
  let n := Config.xferCells 16
  let kept := if x.kept.any (fun e => e.1 == k) then x.kept else x.kept ++ [(k, s.feedValues k)]
  let s := s.feedLoad k (Config.xferRead 16 ((x.cells.drop (x.fi * n)).take n))
  let l := s.link k
  let s := ((s.setLink k { l with mb := l.mbPrev }).feedEval k).modLink k (fun l' => { l' with mb := l.mb })
  s.setXfer (some { x with fi := x.fi + 1, kept := kept })

/-- The standby at an apply point. -/
def State.xferApply (s : State) (x : Xfer) : State :=
  if x.sel ≤ 15 then
    if s.xferFrame x.m x.xw (Config.holderQuiet x.sel s.mfn) then
      if !x.accepted || x.snap.length != 4096 || decide (s.clk.now < x.lastAt + 8) then s.xferFail 1
      else (s.engineLoad x.sel x).xferDone x.sel
    else if s.xferStuck x.m x.xw then s.arm 0 .xferQuiet else s
  else if x.sel = 16 then
    if s.linkFramesSince x.m ≠ 2 * x.fi + 2 then s
    else
      let n := Config.xferCells 16
      let fs := s.feedLinks
      let here := decide ((x.fi + 1) * n ≤ x.cells.length)
      if x.fi < fs.length then (if x.accepted && here then s.feedTake x (fs.getD x.fi 0) else s.xferFail 1)
      else if x.fi * n < x.cells.length then
        (if here then s.feedTake x (Config.xferRead 16 ((x.cells.drop (x.fi * n)).take n) 29).toNat else s.xferFail 1)
      else s.xferDone 16
  else if x.sel = 17 then
    if s.framesSince (epochOf x.m) < 2 then s
    else if !x.accepted || decide (x.cells.length < Config.xferCells 17) then s.xferFail 1
    else (s.forN s.nLinks (fun k t => t.purseSet k (Config.xferRead 17 x.cells k))).xferDone 17
  else
    if s.framesSince (epochOf x.m) < 3 then s
    else if !x.accepted || decide (x.cells.length < Config.xferCells 18) then s.xferFail 1
    else
      let v := Config.xferRead 18 x.cells
      let y := s.strings.foldl (fun (y : State × Nat) st =>
        (y.1.strLoad st (fun j => v (y.2 + j)), y.2 + 26 + 2 * (v (y.2 + 25)).toNat)) (s, 0)
      (y.1.rotLoad (fun j => v (y.2 + j))).xferDone 18

/-- The holder at an apply point. -/
def State.serveApply (s : State) (x : Serve) : State :=
  if x.sel = 16 then s.serveFeed x
  else if x.sel ≤ 15 then
    if s.xferFrame x.m x.xw (s.memQuiet x.sel) || s.xferStuck x.m x.xw then s.serveClose x else s
  else if x.sel = 17 then
    if s.framesSince (epochOf x.m) < 2 then s
    else (s.forN s.nLinks (fun k t => t.purseSet k (t.purse k).credited)).serveClose x
  else s

/-- XFER_APPLY (R355): the block's apply point. -/
def execXferApply (s : State) : Out :=
  let s := match s.twn.serve with | some x => s.serveApply x | none => s
  match s.twn.xfer with
  | some x => ok (s.xferApply x)
  | none => ok s

/-- XFER_QUIET (R355). -/
def execXferQuiet (s : State) : Out :=
  let s := s.disarm .xferQuiet
  match s.twn.xfer with
  | some x => if x.sel ≤ 15 && s.xferStuck x.m x.xw then ok (s.xferFail 4) else ok s
  | none => ok s

/-! ## Sending (R337, R339) -/

/-- AUTH payload of now (R338). -/
def State.authPay (s : State) : BitVec 112 :=
  let t := s.twn
  let (op, why, m, j, e) : Nat × Nat × Nat × Nat × Nat := match t.ho, t.hoAck, t.hoNack with
    | some h, _, _ => (1, 0, h.mfn, h.frame, 0)
    | none, some (m, j, e), _ => (2, 0, m, j, e)
    | none, none, some (m, j, w) => (3, w, m, j, 0)
    | none, none, none => (0, 0, 0, 0, 0)
  payload [(s.mfn % 65536, 96), (s.epoch, 80), (s.cKnown, 65), (boolNat s.holder, 64), (boolNat (s.bit TWN_STAT_READY), 63),
    (boolNat (s.bit TWN_CTRL_CLAIM), 62), (boolNat t.release, 61), (op, 59), (why, 56), (m, 24), (j, 19), (e, 3), (s.unitBit, 2)]

/-- A lane may take the next cell of a command or transfer that uses lane `used`, none before its first. -/
def State.laneFor (s : State) (l : Nat) (used : Option Nat) : Bool :=
  match used with
  | some u => u == l
  | none => s.lowestLane == some l

/-- The next cell of a served transfer, with what is left of it. -/
def Serve.next (x : Serve) : Option (BitVec 128 × Option Serve) :=
  match x.snap, x.jr with
  | p :: ps, _ => some (cellWord 0x0A x.sel p, some { x with snap := ps })
  | [], (m, a, v) :: (_, b, w) :: js =>
    some (cellWord 0x0B x.sel (payload [(m, 96), (a, 84), (v.toNat, 52), (b, 40), (w.toNat, 8), (1, 0)]), some { x with jr := js })
  | [], [(m, a, v)] => some (cellWord 0x0B x.sel (payload [(m, 96), (a, 84), (v.toNat, 52)]), some { x with jr := [] })
  | [], [] => none

/-- The own record to mirror next on lane `l`, as a cell. -/
def State.mirrorNext (s : State) (l : Nat) : Option (BitVec 128 × State) :=
  let s := if s.ldg.mir.isNone && s.bit LDG_CTRL_MIRROR_EN && s.linkUp && s.get LDG_MSEQ_SEQ != s.seq then s.mirrorTake l else s
  match s.ldg.mir with
  | some (l', p :: ps) =>
    if l' = l then
      some (BitVec.ofNat 128 (p.toNat + 0x0C * 2 ^ 120),
        { s with ldg := { s.ldg with mir := if ps.isEmpty then none else some (l', ps) } })
    else none
  | _ => none

/-- The cell that lane `l` sends next, by the priority of R339, and what it leaves behind. -/
def State.nextCell (s : State) (l : Nat) : BitVec 128 × State :=
  let t := s.twn
  if t.authDue || s.authPay != t.authSent then
    (cellWord 0x01 0 s.authPay, s.modTwn (fun t => { t with authDue := false, authSent := s.authPay, hoSent := t.hoSent || (t.ho.isNone && t.hoAck.isSome) }))
  else if t.timeDue then
    (cellWord 0x02 0 (payload [(s.clk.tBase.toNat, 48), (s.mfn, 16)]), s.modTwn (fun t => { t with timeDue := false }))
  else
  match t.health with
  | some h => (cellWord 0x03 0 h, s.modTwn (fun t => { t with health := none }))
  | none =>
  if t.digNext < 90 then (cellWord 0x04 t.digNext (s.digestPay t.digNext), s.modTwn (fun t => { t with digNext := t.digNext + 1 }))
  else
  match t.rsp, s.lowestLane == some l with
  | r :: rs, true => (r, s.modTwn (fun t => { t with rsp := rs }))
  | _, _ =>
  match t.fwd, s.laneFor l t.fwdLane with
  | c :: cs, true => (c, s.modTwn (fun t => { t with fwd := cs, fwdLane := some l }))
  | _, _ =>
  match t.xcells, s.laneFor l t.xLane with
  | c :: cs, true =>
    let done := cs.isEmpty && t.serve.isNone && t.xfer.isNone
    (c, s.modTwn (fun t => { t with xcells := cs, xLane := if done then none else some l }))
  | _, _ =>
  match t.serve.bind Serve.next, s.laneFor l t.xLane with
  | some (c, x), true => (c, s.modTwn (fun t => { t with serve := x, xLane := some l }))
  | _, _ =>
  match s.mirrorNext l with
  | some x => x
  | none => (cellWord 0x00 0 0, s)

/-- A served transfer whose last cell has left is over. -/
def State.serveEnd (s : State) : State :=
  match s.twn.serve with
  | some x => if x.closed && x.snap.isEmpty && x.jr.isEmpty then s.serveOver else s
  | none => s

/-- CELL_TRANSMIT (R337, R339, R371): a lane sends its next cell. -/
def execCellTransmit (lane : Fin 2) (s : State) : Out :=
  if s.bit TWN_CTRL_LANE_EN then
    let x := s.nextCell lane
    let s := x.2.encode 68 lane
    let y := s.lane lane
    let out := cellSyms x.1 y.seq (s.eccErr 68 lane)
    let rd := out.foldl (fun r z => r ^^ flipsRd z) y.rd
    ok ((s.setEcc 68 lane 0).setLane lane { y with out := out, rd := rd, seq := (y.seq + 1) % 128 }).serveEnd
  else ok s

end Sys2Proof.Machine
end

