-- ==== Sys2Proof/Machine/Fault.lean ====
section
/-! DEFINITION. Machine/Fault.lean: the fault collector and the safe state (13): detections, reactions and escalations,
actions, entry into and exit from the safe state, injection, the supervisor watchdog, the pins FAULT_N and SAFE_N. -/

namespace Sys2Proof.Machine

/-! ## Sources (R363, R364, R376) -/

/-- Configuration of source `i`. -/
def State.srcClass (s : State) (i : Nat) : Nat := s.get (FCU_SCFG_CLASS i)
def State.srcReact (s : State) (i : Nat) : Nat := s.get (FCU_SCFG_REACT i)
def State.srcAction (s : State) (i : Nat) : Nat := s.get (FCU_SCFG_ACTION i)
/-- Flag of source `i` (R362). -/
def State.flagged (s : State) (i : Nat) : Bool := s.bmBit FCU_FLAG i

/-- The event source that carries the detections of fault source `i` (R376). -/
def groupOf (i : Nat) : Nat :=
  if i ≤ 3 then 2 else if i ≤ 13 then 4 else if i ≤ 15 then 3 else if i ≤ 19 then 5 else if i ≤ 52 then 6
  else if i ≤ 59 then 7 else if i ≤ 69 then 8 else if i ≤ 72 then 9 else if i ≤ 74 then 3 else if i ≤ 78 then 10
  else if i ≤ 81 then 11 else 12

/-- Value of the detection event of source `i` (R376). -/
def State.detValue (s : State) (i : Nat) : Nat :=
  i + s.srcClass i * 0x100 + s.srcReact i * 0x400 + s.srcAction i * 0x1000 + (if s.srcReact i = 0 then 0 else 0x10000)

/-! ## Entry into the safe state (R372) -/

/-- The twin can take over (R372). -/
def State.twinHealthy (s : State) : Bool :=
  s.linkUp && s.bit TWN_STAT_HB_OK && s.bit TWN_STAT_PEER_READY
    && (match s.twn.peerHealth with | some (h, _) => !h.getLsbD 24 | none => false)

/-- FAB cycles to the first link-frame boundary that lies `d` cycles or more ahead, and after now. -/
def State.toBoundary (s : State) (d : Nat) : Nat :=
  let d := max d 1
  d + (75 - (s.clk.cyc + d) % 75) % 75

/-- The transmitters start again, every link unseized (R374); an entry into the safe state before that takes it at once, so
that HOLD frames leave from the next link frame (R372). -/
def State.txOn (s : State) : State :=
  let s := { s.putBit FCU_STAT_TX_OFF false with fcu := { s.fcu with txRestart := false } }
  s.forN s.nLinks (fun k t => (t.setSeize k none).setBm LNK_SEIZED k false)

/-- Entry into the safe state with a cause; none when it is in force (R367, R372). -/
def State.enterSafe (s : State) (cause : Nat) : State :=
  if s.safe then s
  else
    let s := ((s.putBit FCU_STAT_SAFE true).put FCU_STAT_SAFE_CAUSE cause).raiseN 0 0x01 cause
    let s := (s.fraAbort 9).forN s.nEngines (fun n t => (t.telFault n 8 4 0 0).telHalt n)
    let hand := s.holder && s.twinHealthy
    let s := if hand then s.releaseAuth else s
    let s := if s.fcu.txRestart then s.txOn else s
    let s := { s.putBit FCU_STAT_HANDED hand with
      fcu := { s.fcu with soPend := [] }, mint := { s.mint with alloc := none } }
    (s.disarm .soFallback).arm (s.toBoundary (ms (s.get FCU_HOLD_HOLD_MS))) .holdEnd

/-! ## Actions (R367..R369) -/

/-- A warm restart begins (R409, R410, R472): the cores are held for 64 MON cycles, their CSRs and PMP entries reset, the
holding register of their `time` CSR with them; their role is NONE again. `kind` is 1
for a request, 2 for an action. -/
def State.coresDown (s : State) (kind : Nat) : State :=
  let s := { s with
    bus := { s.bus with coresHeld := true, hold := s.bus.hold.filter (fun e => e.1.2 != Linked.csrTime) }
    boot := { s.boot with warm := kind }, cores := {} }
  let s := s.hwSet (if kind = 1 then SYS_RST_CAUSE_WARM_REQ else SYS_RST_CAUSE_SUP_ACT)
  (s.put RGT_ROLE_SUP_ROLE 0).arm 400 .warmRelease

/-- SUPERVISOR_RESET actions still in the window (R368). -/
def State.srRecent (s : State) : List Nat :=
  s.fcu.srTimes.filter (fun t => decide (s.clk.now < t + ms (100 * s.get FCU_SRCTL_SR_WIN)))

/-- The SUPERVISOR_RESET action (R367, R368). -/
def State.supReset (s : State) (i : Nat) : State :=
  let ts := s.srRecent
  if s.get FCU_SRCTL_SR_MAX ≤ ts.length then { s with fcu := { s.fcu with srTimes := ts } }.enterSafe i
  else
    let s := { s with fcu := { s.fcu with srTimes := ts ++ [s.clk.now] } }
    (s.raiseN 1 0x03 i).coresDown 2

/-- The 64 link frames of R369, to the end of their last FAB cycle (R5). -/
def soLimit : Nat := 64 * 75

/-- The timer of R369 runs for the oldest SWITCHOVER action. -/
def State.soArm (s : State) : State :=
  match s.fcu.soPend with
  | [] => s.disarm .soFallback
  | (t, _) :: _ => s.arm (t - s.clk.now) .soFallback

/-- The SWITCHOVER action (R347, R367, R369); none in the safe state. -/
def State.actSwitchover (s : State) (i : Nat) : State :=
  if s.safe then s
  else
    let held := s.holder
    let s := (s.raiseN 1 0x02 i).switchover
    if held && s.bit FCU_CTRL_SO_FALLBACK then
      { s with fcu := { s.fcu with soPend := s.fcu.soPend ++ [(s.clk.now + soLimit, i)] } }.soArm
    else s

/-- The action of source `i` (R367). -/
def State.takeAction (s : State) (i : Nat) : State :=
  match s.srcAction i with
  | 1 => s.actSwitchover i
  | 2 => s.enterSafe i
  | 3 => s.supReset i
  | _ => s

/-- The MON cycle in progress, counted from reset (log entry 70). -/
def State.monCycle (s : State) : Nat := s.clk.now * 4 / 25

/-- The action of source `i` is due in the next MON cycle (R365, R366). -/
def State.queueAct (s : State) (i : Nat) : State :=
  { s with fcu := { s.fcu with acts := s.fcu.acts ++ [(s.monCycle + 1, i)] } }

/-- The actions of one MON cycle (R367): with SAFE among them SAFE alone; in the safe state SUPERVISOR_RESET alone. -/
def State.takeActions (s : State) (is : List Nat) : State :=
  if s.safe then (is.filter (fun i => s.srcAction i == 3)).foldl State.takeAction s
  else
    match is.find? (fun i => s.srcAction i == 2) with
    | some i => s.takeAction i
    | none => is.foldl State.takeAction s

/-- The two copies of the collector's registers, and of its running timers, are compared (R370). -/
def State.fcuCompare (s : State) : State :=
  let s := if s.fcu.regDiff.isEmpty then s else s.detect 0
  if s.fcu.timDiff.any (fun e => s.bmBit FCU_ESCR e.1 && s.alarms.any (fun x => x == (e.2, .escExpired (Fin.ofNat 192 e.1)))) then s.detect 1
  else s

/-- A MON cycle begins: the copies are compared, its actions are taken, and no source has been detected in it (R365, R366,
R370). -/
def State.monStep (s : State) : State :=
  let s := s.fcuCompare
  let due := s.fcu.acts.filter (fun a => decide (a.1 ≤ s.monCycle))
  let s := { s with fcu := { s.fcu with det := [], acts := s.fcu.acts.filter (fun a => decide (s.monCycle < a.1)) } }
  s.takeActions (due.map (·.2))

/-! ## Detections and reactions (R362, R365, R366) -/

/-- FCU_FIRST and its stamp, once since it was cleared (R378). -/
def State.captureFirst (s : State) (i : Nat) : State :=
  if s.bit FCU_FIRST_VALID then s
  else
    let t := (s.stamp domMON).toNat
    let s := (s.put FCU_FIRST_ACTION (s.srcAction i)).put FCU_FIRST_REACT (s.srcReact i)
    let s := ((s.put FCU_FIRST_CLASS (s.srcClass i)).put FCU_FIRST_SOURCE i).hwSet FCU_FIRST_VALID
    (s.put FCU_FIRST_TLO_T t).put FCU_FIRST_THI_T (t / 0x100000000)

/-- The last FAB cycle of a MON cycle. -/
def monLast (m : Nat) : Nat := ((m + 1) * 25 + 3) / 4 - 1

/-- An escalation starts (R366): it expires at the end of MON cycle t₀ + 40·US, which still takes an acknowledgement. -/
def State.escStart (s : State) (i : Nat) : State :=
  let t := s.monCycle + 40 * s.get (FCU_ESC_T_US (s.get (FCU_SCFG_ESC i)))
  (s.setBm FCU_ESCR i true).arm (monLast t - s.clk.now) (.escExpired (Fin.ofNat 192 i))

/-- The reaction of source `i` starts (R365, R366). -/
def State.react (s : State) (i : Nat) : State :=
  match s.srcReact i with
  | 2 => s.escStart i
  | 3 => s.queueAct i
  | _ => s

/-- A detection of source `i` reaches the collector (R362). -/
def State.collect (s : State) (i : Nat) : State :=
  if !s.fcu.checked || s.srcAbsent i || !s.bit (FCU_SCFG_EN i) then s
  else
    let s := s.inc (FCU_SCNT_COUNT i)
    let s := { s with fcu := { s.fcu with det := i :: s.fcu.det } }
    if s.flagged i then s
    else
      let s := (s.setBm FCU_FLAG i true).captureFirst i
      let s := s.raiseEv { src := groupOf i, cause := 0x01, value := BitVec.ofNat 32 (s.detValue i), stamp := 0, order := 0
                           notify := s.srcReact i != 0 }
      s.react i

/-- FAULT_DETECT (R362): the first detection of source `src` on its way arrives, or one that the command itself brings.
The frame-alignment checker of R32, source 13, sets its status bit too. -/
def execFaultDetect (src : Fin 192) (s : State) : Out :=
  let s := { s with fcu := { s.fcu with detq := s.fcu.detq.erase src.val } }
  ok ((if src.val = 13 then s.hwSet TBS_STATUS_ALIGN_ERR else s).collect src)

/-- An escalation stops. -/
def State.escStop (s : State) (i : Nat) : State := (s.setBm FCU_ESCR i false).disarm (.escExpired (Fin.ofNat 192 i))

/-- ESC_EXPIRED (R366): the escalation of source `src` was not acknowledged; the action follows in the next MON cycle. -/
def execEscExpired (src : Fin 192) (s : State) : Out :=
  if s.bmBit FCU_ESCR src then ok (((s.escStop src).raiseN 1 0x01 src).queueAct src) else ok s

/-- SO_FALLBACK (R369): 64 link frames after the SWITCHOVER action. -/
def execSoFallback (s : State) : Out :=
  match s.fcu.soPend with
  | [] => ok s
  | (_, i) :: l =>
    let s := { s with fcu := { s.fcu with soPend := l } }.soArm
    if s.holder && !s.safe && s.bit FCU_CTRL_SO_FALLBACK then ok ((s.raiseN 1 0x04 i).enterSafe i) else ok s

/-- HOLD_END (R372): the transmitters stop. -/
def execHoldEnd (s : State) : Out :=
  let s := s.disarm .holdEnd
  if s.safe && !s.bit FCU_STAT_TX_OFF then
    ok (((s.putBit FCU_STAT_TX_OFF true).putBit FCU_STAT_HOLDING false).raiseN 0 0x02 (s.get FCU_HOLD_HOLD_MS))
  else ok s

/-! ## Exit from the safe state (R374) -/

/-- Number of the first failing condition of the exit. -/
def State.exitRefusal (s : State) : Option Nat :=
  if (List.range 4).any s.flagged then some 1
  else if (List.range 192).any (fun i => s.flagged i && s.srcAction i == 2) then some 2
  else if (List.range s.nEngines).any (fun n => s.estate n != esSTOPPED) then some 3
  else none

/-- FCU_SAFE.KEY = 0xA55A. -/
def State.safeExit (s : State) : State :=
  if !s.safe then s
  else
    match s.exitRefusal with
    | some n => s.raiseN 0 0x04 n
    | none =>
      let s := (s.putBit FCU_STAT_SAFE false).putBit FCU_STAT_HOLDING false
      let s := { s with fcu := { s.fcu with txRestart := true }, mint := { s.mint with fresh := true } }
      (s.raiseN 0 0x03 0).disarm .holdEnd

/-- TX_RESTART (R374): at the major-frame start after the exit. -/
def execTxRestart (s : State) : Out :=
  if s.fcu.txRestart then ok s.txOn else ok s

/-! ## The self-check (R370) -/

/-- SELF_CHECK (R370): the check ends once after a reset; `good` says whether every comparison reported. -/
def execSelfCheck (good : Bool) (s : State) : Out :=
  let s := s.disarm (.selfCheck good)
  if s.fcu.checked then ok s
  else
    let s := { s with fcu := { s.fcu with checked := true } }
    if good then ok (s.putBit FCU_STAT_SELF_OK true) else ok (s.collect 3)

/-! ## The supervisor watchdog (R378) -/

/-- The count starts again; 0 disables it. -/
def State.wdogStart (s : State) : State :=
  let t := s.get FCU_WDOG_TMO_MS
  if t = 0 then s.disarm .supWdog else s.arm (monLast (s.monCycle + 40000 * t) - s.clk.now) .supWdog

/-- SUP_WDOG (R378): TMO_MS have passed without a KICK; the count goes on. -/
def execSupWdog (s : State) : Out :=
  if s.get FCU_WDOG_TMO_MS = 0 then ok s else ok (s.wdogStart.detect 17)

/-! ## Register operations (R377, R378) -/

/-- The collector takes register accesses only after its check (R370): a write before it does nothing, and what a read
returns is open (log entry 70). A write updates both copies of register `a` (R370). -/
def State.fcuOp (a : Nat) (op : State → State) (s : State) : State :=
  if s.fcu.checked then op { s with fcu := { s.fcu with regDiff := s.fcu.regDiff.filter (fun e => e.1 != a) } } else s

/-- FCU_CTRL. -/
def State.wFcuCtrl (v : Word) : State → State := State.fcuOp FCU_CTRL (fun s =>
  s.regWrite FCU_CTRL v true (fun s =>
    let s := if tb v 4 then s.forN 192 (fun i t => t.put (FCU_SCNT_COUNT i) 0) else s
    if tb v 5 then s.enterSafe 254 else s))

/-- FCU_SAFE (R374). -/
def State.wFcuSafe (v : Word) : State → State := State.fcuOp FCU_SAFE (fun s => s.regWrite FCU_SAFE v (bitsOf v 15 0 == 0xA55A) State.safeExit)

/-- The acknowledgement of source `i` (R366): its flag clears and its escalation stops. A detection of the same MON cycle
leaves the flag at 1 and starts a new escalation in place of the old one. -/
def State.ackSource (s : State) (i : Nat) : State :=
  if s.fcu.det.contains i then
    let t := s.escStop i
    if s.srcReact i = 2 then t.escStart i else t
  else (s.escStop i).setBm FCU_FLAG i false

/-- FCU_FLAG w (R366): the flags of sources 0..3 cannot be cleared (R364). -/
def State.wFcuFlag (w : Nat) (v : Word) : State → State := State.fcuOp (FCU_FLAG w) (fun s =>
  s.forN 32 (fun i t => if tb v i && decide (4 ≤ 32 * w + i) then t.ackSource (32 * w + i) else t))

/-- A legal combination of class, reaction and action (R364). -/
def cfgLegal (cls react action : Nat) : Bool :=
  !(cls == 0 && decide (2 ≤ react)) && !(cls == 3 && decide (react ≤ 1)) && (decide (react ≤ 1) == (action == 0))

/-- FCU_SCFG i (R364): fixed for sources 0..3 and where LOCK = 1. -/
def State.wFcuScfg (i : Nat) (v : Word) : State → State := State.fcuOp (FCU_SCFG i) (fun s =>
  if i ≤ 3 then s
  else
    s.regWrite (FCU_SCFG i) v (!s.bit (FCU_SCFG_LOCK i) && cfgLegal (bitsOf v 17 16) (bitsOf v 15 14) (bitsOf v 13 12)) (fun s =>
      if tb v 31 then s.putBit (FCU_SCFG_LOCK i) true else s))

/-- FCU_WDOG (R378): every write restarts the count. -/
def State.wFcuWdog (v : Word) : State → State := State.fcuOp FCU_WDOG (fun s => s.regWrite FCU_WDOG v true State.wdogStart)

/-- FCU_INJ c (R371): a mask of four or more bits, and a link on another checker than 64..66, are reserved. -/
def State.wFcuInj (c : Nat) (v : Word) : State → State := State.fcuOp (FCU_INJ c) (fun s =>
  let mask := bitsOf v 16 0
  let good := decide (weight mask 17 ≤ 3) && ((decide (64 ≤ c) && decide (c ≤ 66)) || bitsOf v 29 23 == 0)
  s.regWrite (FCU_INJ c) v good (fun s => if tb v 31 && mask != 0 then s.putBit (FCU_INJ_ARM c) true else s))

/-- A register of the collector without an operation of its own. -/
def State.wFcuReg (a : Nat) (v : Word) : State → State := State.fcuOp a (fun s => s.regWrite a v true id)

/-- FAULT_ACK (R366). -/
def execFaultAck (who : Who) (w : Fin 6) (v : Word) (s : State) : Out := ok (s.busWrite who (FCU_FLAG w) v (State.wFcuFlag w v))
/-- ENTER_SAFE (R372). -/
def execEnterSafe (who : Who) (v : Word) (s : State) : Out := ok (s.busWrite who FCU_CTRL (withBit v 5) (State.wFcuCtrl (withBit v 5)))
/-- SAFE_EXIT (R374). -/
def execSafeExit (who : Who) (v : Word) (s : State) : Out := ok (s.busWrite who FCU_SAFE v (State.wFcuSafe v))
/-- INJECT_ARM (R371). -/
def execInjectArm (who : Who) (c : Fin 78) (v : Word) (s : State) : Out :=
  ok (s.busWrite who (FCU_INJ c) (withBit v 31) (State.wFcuInj c (withBit v 31)))
/-- FCU_CNT_CLR (R378). -/
def execFcuCntClr (who : Who) (v : Word) (s : State) : Out := ok (s.busWrite who FCU_CTRL (withBit v 4) (State.wFcuCtrl (withBit v 4)))
/-- KICK (R378). -/
def execKick (who : Who) (v : Word) (s : State) : Out := ok (s.busWrite who FCU_WDOG (withBit v 31) (State.wFcuWdog (withBit v 31)))

/-! ## Views and pins (R368, R375, R378) -/

/-- FCU_STAT as it reads: WORST and SR_CNT are of the moment. -/
def State.fcuStat (s : State) : Word :=
  let worst := (List.range 192).foldl (fun m i => if s.flagged i then max m (s.srcClass i) else m) 0
  setBits (setBits (s.word FCU_STAT) 9 8 worst) 27 24 (min 15 s.srRecent.length)

/-- A flag stands on a source whose class is at or above FAULT_CLASS. -/
def State.faultShown (s : State) : Bool :=
  (List.range 192).any (fun i => s.flagged i && decide (s.get FCU_CTRL_FAULT_CLASS ≤ s.srcClass i))

/-- The levels of FAULT_N and SAFE_N (R375), the hold of a Vault failure apart. -/
def State.faultPins (s : State) : Bool × Bool :=
  if !s.bit FCU_STAT_SELF_OK || s.safe then (false, false)
  else (!s.faultShown, true)

end Sys2Proof.Machine
end

