-- ==== Sys2Proof/Machine/Periph.lean ====
section
/-! DEFINITION. Machine/Periph.lean: timers, housekeeping ADC, GPIO, Ethernet MAC and xSPI controller (19). -/

namespace Sys2Proof.Machine

/-! ## Timers (R501..R509) -/

def State.tmr (s : State) (i : Nat) : Tmr := SMap.get (fun _ => {}) s.tmrs i
def State.modTmr (s : State) (i : Nat) (f : Tmr → Tmr) : State := { s with tmrs := SMap.set (fun _ => {}) s.tmrs i (f (s.tmr i)) }

/-- The period in effect (R502). -/
def State.tmrPer (s : State) (i : Nat) : Nat := match (s.tmr i).per with | some p => p.toNat | none => s.get (TMR_PER_PER i)
/-- The compare value in effect (R504). -/
def State.tmrCmp (s : State) (i : Nat) : Nat := match (s.tmr i).cmp with | some c => c.1.toNat | none => s.get (TMR_CMP_CMP i)

/-- An event of a timer, where its bit of EVEN is set (R509). -/
def State.tmrRaise (s : State) (i bit cause : Nat) (v : Nat) : State :=
  if (s.get (TMR_CTRL_EVEN i)).testBit bit then s.raiseN (304 + i) cause v else s

/-- A master event of channel `i` is on its way to the channels that name it (R506), and starts a scan that waits for it, at
the end of its HKA cycle: a scan may end in it (R5, R511). -/
def State.tmrMaster (s : State) (i : Nat) (isMatch : Bool) : State :=
  let s := s.forN 24 (fun j t =>
    if [2, 3].contains (t.get (TMR_CTRL_SMODE j)) && t.get (TMR_CTRL_MASTER j) == i && t.bit (TMR_CTRL_MEV j) == isMatch && t.bit (TMR_CTRL_EN j) then
      t.modTmr j (fun m => { m with mev := true })
    else t)
  if s.bit HKA_CTRL_EN && s.bit HKA_CTRL_TRIG_EN && !s.bit HKA_CTRL_CONT && s.get HKA_CTRL_TRIG_SRC == i then s.arm (4 - s.clk.now % 5) .hkaScanStart else s

/-- EN of channel `i` clears: its output is 0 (R508). -/
def State.tmrStop (s : State) (i : Nat) : State :=
  ((s.putBit (TMR_CTRL_EN i) false).putBit (TMR_STAT_RUN i) false).modTmr i (fun m => { m with out := false, mev := false })

/-- CNT has become CMP (R504, R508). -/
def State.tmrMatch (s : State) (i : Nat) : State :=
  let s := s.modTmr i (fun m =>
    match s.get (TMR_CTRL_OMODE i) with
    | 1 => { m with out := !m.out }
    | 2 => { m with out := false }
    | _ => m)
  (s.tmrRaise i 1 0x02 (s.tmrCmp i)).tmrMaster i true

/-- The wrap (R501, R502, R508). -/
def State.tmrWrap (s : State) (i : Nat) : State :=
  let s := (s.put (TMR_CNT_CNT i) 0).modTmr i (fun m =>
    { m with per := none, perAt := none, short := false, out := if s.get (TMR_CTRL_OMODE i) == 2 then true else m.out })
  let s := (s.tmrRaise i 0 0x01 0).tmrMaster i false
  let s := if s.tmrCmp i = 0 then s.tmrMatch i else s
  if s.bit (TMR_CTRL_ONESHOT i) then s.tmrStop i else s

/-- One count of channel `i`: whether it wrapped; a CMP above PER never matches (R501, R503, R504). -/
def State.tmrCount (s : State) (i : Nat) : State × Bool :=
  let n := s.get (TMR_CNT_CNT i)
  if n = s.tmrPer i ∨ (s.tmr i).short then (s.tmrWrap i, true)
  else
    let s := s.put (TMR_CNT_CNT i) (n + 1)
    (if (n + 1) % 2 ^ 32 = s.tmrCmp i ∧ s.tmrCmp i ≤ s.tmrPer i then s.tmrMatch i else s, false)

/-- Channel `i` counts now (R506). -/
def State.tmrCounts (s : State) (i : Nat) : Bool :=
  s.bit (TMR_CTRL_EN i) && s.bit (TMR_STAT_RUN i)
    && (s.get (TMR_CTRL_SMODE i) != 4 || (s.tmr (s.get (TMR_CTRL_MASTER i))).out)

/-- A count tick of channel `i`; its wrap is the count of a chained odd channel (R506). -/
def State.tmrTick (s : State) (i : Nat) : State :=
  if s.tmrCounts i then
    let r := s.tmrCount i
    if r.2 && decide (i % 2 = 0) && r.1.get (TMR_CTRL_SMODE (i + 1)) == 1 && r.1.tmrCounts (i + 1) then (r.1.tmrCount (i + 1)).1 else r.1
  else s

/-- TIMER_TICK (R501): a channel in CHAIN has no count ticks of its own (R506). -/
def execTimerTick (i : Fin 24) (s : State) : Out := if s.get (TMR_CTRL_SMODE i) = 1 then ok s else ok (s.tmrTick i)

/-- A TBS tick of channel `i`: the master event of the tick before acts (R506), and the prescaler counts; whether a count
tick is due (R501). A reset of CNT takes the place of the count. -/
def State.tmrPre (s : State) (i : Nat) : State × Bool :=
  let m := s.tmr i
  let reset := m.mev && s.get (TMR_CTRL_SMODE i) == 3
  let s := if m.mev then
      let s := s.modTmr i (fun m => { m with mev := false })
      if reset then s.put (TMR_CNT_CNT i) 0 else s.putBit (TMR_STAT_RUN i) true
    else s
  if s.get (TMR_CTRL_PRESC i) ≤ m.pre then (s.modTmr i (fun m => { m with pre := 0 }), !reset)
  else (s.modTmr i (fun m => { m with pre := m.pre + 1 }), false)

/-- The channel whose count tick counts channel `i`: of a chained one, the even one below (R506). -/
def State.tmrLead (s : State) (i : Nat) : Nat := if s.get (TMR_CTRL_SMODE i) = 1 then i - 1 else i

/-- Gated channels in the order in which each comes behind its master; a ring of masters in that of their numbers. -/
def State.gateOrder (s : State) (rest : List Nat) (fuel : Nat) : List Nat :=
  match fuel with
  | 0 => rest
  | fuel + 1 =>
    let ready := rest.filter (fun i => !rest.contains (s.tmrLead (s.get (TMR_CTRL_MASTER i))))
    if ready.isEmpty then rest else ready ++ s.gateOrder (rest.filter (fun i => !ready.contains i)) fuel

/-- A TBS tick of the block: the count ticks due in it, those of gated channels behind their masters', whose outputs of this
tick they see (R506). -/
def State.tmrAdvance (s : State) : State × List Instr :=
  let own := (List.range 24).filter (fun i => s.bit (TMR_CTRL_EN i) && s.get (TMR_CTRL_SMODE i) != 1)
  let gated := fun i => s.get (TMR_CTRL_SMODE i) == 4
  (own.filter (fun i => !gated i) ++ s.gateOrder (own.filter gated) 24).foldl (fun r i =>
    let p := r.1.tmrPre i
    (p.1, if p.2 then r.2 ++ [.timerTick (Fin.ofNat 24 i)] else r.2)) (s, [])

/-- The written period of channel `i` takes effect (R502, R503). -/
def State.tmrPerTakes (s : State) (i : Nat) : State :=
  s.modTmr i (fun m => { m with per := none, perAt := none, short := decide (s.get (TMR_PER_PER i) ≤ s.get (TMR_CNT_CNT i)) })

/-- The written compare value of channel `i` takes effect (R504). -/
def State.tmrCmpTakes (s : State) (i : Nat) : State :=
  let s := s.modTmr i (fun m => { m with cmp := none })
  let c := s.get (TMR_CMP_CMP i)
  if c ≤ s.get (TMR_CNT_CNT i) then (s.hwSet (TMR_STAT_CMP_LATE i)).tmrRaise i 1 0x05 c else s

/-- The written values of channel `i` take effect in a TBS tick behind that of the write (R502, R504). -/
def State.tmrTake (s : State) (i : Nat) : State :=
  let s := if (s.tmr i).cmp.any (fun c => c.2 ≠ s.T) then s.tmrCmpTakes i else s
  if (s.tmr i).perAt.any (· ≠ s.T) then s.tmrPerTakes i else s

/-- A capture found CAPF = 1: it is lost (R505). -/
def State.tmrOverrun (s : State) (i : Nat) : State :=
  let s := (s.modTmr i (fun m => { m with capWait := none })).hwSet (TMR_STAT_OVR i)
  let s := s.inc (TMR_STAT_LOST i)
  s.tmrRaise i 2 0x04 (s.get (TMR_STAT_LOST i))

/-- FAB cycles until `n` more TBS ticks have begun (R30). -/
def State.ticksFrom (s : State) (n : Nat) : Nat := (5 * n + 3 - s.clk.cyc * 4 % 5) / 4

/-- The FAB cycle is the last of its TBS tick. -/
def State.tickEnds (s : State) : Bool := s.ticksFrom 1 == 1

/-- At the end of a FAB cycle: the writes that take effect in the TBS tick in progress, and at the end of a tick the capture
that no read made room for (R502, R504, R505). -/
def State.tmrTakes (s : State) : State :=
  if s.tmrs.any (fun e => e.2.perAt.isSome || e.2.cmp.isSome || e.2.capWait.isSome) then
    s.forN 24 (fun i t => let t := t.tmrTake i; if (t.tmr i).capWait.isSome && s.tickEnds then t.tmrOverrun i else t)
  else s

/-- TMR_CTRL (R506, R508): CHAIN on an even channel and a channel that names itself as master are reserved encodings. -/
def State.wTmrCtrl (i : Nat) (v : Word) (s : State) : State :=
  let mode := bitsOf v 28 26
  let good := !(mode == 1 && i % 2 == 0) && bitsOf v 24 20 != i
  let was := s.bit (TMR_CTRL_EN i)
  let old := s.get (TMR_CTRL_SMODE i)
  s.regWrite (TMR_CTRL i) v good (fun s =>
    let s := if bitsOf v 19 18 = 0 then s.modTmr i (fun m => { m with out := false }) else s
    if !tb v 31 then s.tmrStop i
    else if !was then (s.putBit (TMR_STAT_RUN i) (mode != 2)).modTmr i (fun m => { m with pre := 0, mev := false })
    else if mode ≠ old then s.putBit (TMR_STAT_RUN i) (mode != 2)
    else s)

/-- TMR_CNT (R502). -/
def State.wTmrCnt (i : Nat) (v : Word) (s : State) : State := s.regWrite (TMR_CNT i) v (!s.bit (TMR_CTRL_EN i)) id

/-- TMR_PER (R501..R503); what an earlier tick wrote takes effect first. -/
def State.wTmrPer (i : Nat) (v : Word) (s : State) : State :=
  let s := s.tmrTake i
  let inForce := BitVec.ofNat 32 (s.tmrPer i)
  s.regWrite (TMR_PER i) v (v != 0) (fun s =>
    if s.bit (TMR_CTRL_PRELOAD i) then s.modTmr i (fun m => { m with per := if v = inForce then none else some inForce, perAt := none })
    else s.modTmr i (fun m => { m with per := some inForce, perAt := some s.T }))

/-- TMR_CMP (R504); what an earlier tick wrote takes effect first. -/
def State.wTmrCmp (i : Nat) (v : Word) (s : State) : State :=
  let s := s.tmrTake i
  let inForce := BitVec.ofNat 32 (s.tmrCmp i)
  s.regWrite (TMR_CMP i) v true (fun s => s.modTmr i (fun m => { m with cmp := some (inForce, s.T) }))

/-- TMR_STAT: LOST clears with OVR. -/
def State.wTmrStat (i : Nat) (v : Word) (s : State) : State :=
  s.regWrite (TMR_STAT i) v true (fun s => if tb v 2 then s.put (TMR_STAT_LOST i) 0 else s)

/-- PER_WRITE (R502). -/
def execPerWrite (who : Who) (i : Fin 24) (v : Word) (s : State) : Out := ok (s.busWrite who (TMR_PER i) v (State.wTmrPer i v))
/-- CMP_WRITE (R504). -/
def execCmpWrite (who : Who) (i : Fin 24) (v : Word) (s : State) : Out := ok (s.busWrite who (TMR_CMP i) v (State.wTmrCmp i v))

/-- A capture of count `n` is stored (R505). -/
def State.tmrStore (s : State) (i n : Nat) : State :=
  let s := s.modTmr i (fun m => { m with capOld := s.word (TMR_CAP i), capAt := some s.T, capWait := none })
  ((s.put (TMR_CAP_CAP i) n).hwSet (TMR_STAT_CAPF i)).tmrRaise i 2 0x03 n

/-- CAPTURE (R505): with CAPF = 1, a read in this TBS tick may still make room. -/
def execCapture (i : Fin 24) (s : State) : Out :=
  let s := s.disarm (.capture i)
  let n := s.get (TMR_CNT_CNT i)
  if s.bit (TMR_STAT_CAPF i) then ok (s.modTmr i (fun m => { m with capWait := some (BitVec.ofNat 32 n) })) else ok (s.tmrStore i n)

/-- The hardware has set this bit in this FAB cycle (R20). -/
def State.hwHas (s : State) (f : Fld) : Bool := bitsOf (s.hwBits f.addr) f.hi f.lo == 1

/-- A read of TMR_CAP clears CAPF; in the TBS tick of a capture it returns the value before it, the new value is stored, and
CAPF stays (R20, R505). -/
def State.rTmrCap (who : Who) (i : Nat) (s : State) : State :=
  let m := s.tmr i
  if m.capAt == some s.T && s.bit (TMR_STAT_CAPF i) then s.answer who m.capOld false
  else
    match m.capWait with
    | some n => (s.tmrStore i n.toNat).answer who (s.word (TMR_CAP i)) false
    | none => (s.putBit (TMR_STAT_CAPF i) false).answer who (s.word (TMR_CAP i)) false

/-- CAP_READ (R505). -/
def execCapRead (who : Who) (i : Fin 24) (s : State) : Out := ok (s.busRead who (TMR_CAP i) (State.rTmrCap who i))

/-! ## Housekeeping ADC (R510..R512) -/

/-- Code of a conversion of `v` between the references, all in one unit (R510). -/
def hkaCode (refn refp v : Int) : Nat := if v ≤ refn then 0 else (min 4095 (4096 * (v - refn) / (refp - refn))).toNat

/-- An event of the converter whose cause the spec does not number: 0 ACCESS, 1 WINDOW, 2 MISSED. -/
def State.hkaRaise (s : State) (i n v : Nat) : State := s.raiseN (337 + i) (Config.unstatedCause (8 * 337 + n) % 256) v

/-- HKA_SCAN_START (R511). -/
def execHkaScanStart (s : State) : Out :=
  let s := s.disarm .hkaScanStart
  if s.bit HKA_STAT_BUSY then
    let s := s.inc HKA_STAT_MISSED
    ok (s.hkaRaise 0 2 (s.get HKA_STAT_MISSED))
  else
    let l := (List.range 16).filter (fun i => (s.get HKA_MASK_MASK).testBit i)
    if s.bit HKA_CTRL_EN && !l.isEmpty then ok ({ s.putBit HKA_STAT_BUSY true with hka := { s.hka with scan := l } }) else ok s

/-- The window of channel `i` (R512). -/
def State.hkaWindow (s : State) (i code : Nat) : State :=
  let lo := s.get (HKA_WIN_LO i)
  let hi := s.get (HKA_WIN_HI i)
  let h := s.get (HKA_WIN_HYST i)
  let open_ := s.hka.episodes.getLsbD i
  if code < lo ∨ hi < code then
    if open_ then s else { s.hkaRaise i 1 code with hka := { s.hka with episodes := s.hka.episodes ||| (1#16 <<< i) } }
  else if lo + h ≤ code ∧ code + h ≤ hi then { s with hka := { s.hka with episodes := s.hka.episodes &&& ~~~(1#16 <<< i) } }
  else s

/-- The mean code of the conversions of a channel (R511): `vin` is the input at each in turn, its last at those beyond. With
references of no span the spec states no code. -/
def State.hkaMean (s : State) (refn refp : Int) (vin : List Int) : State × Nat :=
  let n := 2 ^ s.get HKA_CTRL_AVG_LOG2
  if refp ≤ refn then (s.drawn, Config.freeNat s.free % 4096)
  else (s, ((List.range n).map (fun k => hkaCode refn refp (vin.getD k (vin.getLastD refn)))).foldl (· + ·) 0 / n)

/-- HKA_RESULT (R510..R512): the conversions of channel `i`, next in the scan, are done, with its input and the references at
them. -/
def execHkaResult (i : Fin 16) (vin : List Int) (s : State) (refn : Int := 0) (refp : Int := 4096) : Out :=
  match s.hka.scan with
  | [] => ok s
  | c :: rest =>
    if c = i.val then
      let r := s.hkaMean refn refp vin
      let s : State := { r.1 with hka := { r.1.hka with scan := rest, resAt := some (i.val, s.clk.now / 5) } }
      let s := ((s.put (HKA_RES_CODE i) r.2).hwSet (HKA_RES_NEW i)).hkaWindow i r.2
      if rest.isEmpty then
        let s := s.putBit HKA_STAT_BUSY false
        ok (if s.bit HKA_CTRL_CONT && s.bit HKA_CTRL_EN then s.arm 0 .hkaScanStart else s)
      else ok s
    else ok s

/-- HKA_CTRL: with CONT = 1 scans follow one another from the enable on (R511). -/
def State.wHkaCtrl (v : Word) (s : State) : State :=
  s.regWrite HKA_CTRL v true (fun s => if tb v 31 && tb v 30 && !s.bit HKA_STAT_BUSY then s.arm 0 .hkaScanStart else s)

/-- A read of HKA_RES clears NEW, but not that of a result of the same HKA cycle, of five FAB cycles (R20, R30, R512). -/
def State.rHkaRes (who : Who) (i : Nat) (s : State) : State :=
  (s.putBit (HKA_RES_NEW i) (s.bit (HKA_RES_NEW i) && s.hka.resAt == some (i, s.clk.now / 5))).answer who (s.word (HKA_RES i)) false

/-- RES_READ (R512). -/
def execResRead (who : Who) (i : Fin 16) (s : State) : Out := ok (s.busRead who (HKA_RES i) (State.rHkaRes who i))

/-! ## GPIO (R513, R514) -/

/-- ALERT of pin `i`: once per episode of a filtered low level (R513). -/
def State.gpioAlert (s : State) (i : Nat) : State :=
  if s.get (GPIO_CFG_FUNC i) == 2 && !(s.get GPIO_IN_IN).testBit i then
    if s.alerts.getLsbD i then s else { s.raiseN (368 + i) 0x02 0 with alerts := s.alerts ||| (1#24 <<< i) }
  else { s with alerts := s.alerts &&& ~~~(1#24 <<< i) }

/-- The level of pin `i` behind its filter becomes `level`: the input bit, the captures and the events that see it (R505,
R513, R514). -/
def State.gpioPass (s : State) (i : Nat) (level : Bool) : State :=
  let s := s.putBit ⟨GPIO_IN, i, i⟩ level
  let sees := fun (cfg : Nat) => cfg == 3 || cfg == (if level then 1 else 2)
  let s := s.forN 24 (fun c t =>
    if t.get (TMR_CTRL_CSRC c) == i && sees (t.get (TMR_CTRL_CEDGE c)) then t.arm 0 (.capture (Fin.ofNat 24 c)) else t)
  let s := if sees (s.get (GPIO_CFG_EDGE i)) then s.raiseN (368 + i) 0x01 (if level then 1 else 0) else s
  s.gpioAlert i

/-- Pin `i` in a TBS tick, `new` and `old` being the second flop in it and in the tick before: the filter passes a level that
has held for FILT (R513). -/
def State.gpioFilter (s : State) (i : Nat) (new old : Bool) : State :=
  let n := 200 * s.get (GPIO_CFG_FILT i)
  let k := SMap.get (fun _ => 0) s.gpioRun i
  let run (k : Nat) : State := { s with gpioRun := SMap.set (fun _ => 0) s.gpioRun i k }
  let b := if n = 0 then new else old
  if (s.get GPIO_IN_IN).testBit i == b then run 0
  else if n ≤ k + 1 then (run 0).gpioPass i b
  else run (k + 1)

/-- The pins in a TBS tick: two flops and the filter (R513). -/
def State.gpioTicks (s : State) : State :=
  let old := s.gpioFf2
  let new := s.gpioFf1
  if s.gpioBall == new && new == old && old.toNat == s.get GPIO_IN_IN && s.gpioRun.isEmpty then s
  else
    let s : State := { s with gpioFf1 := s.gpioBall, gpioFf2 := new }
    s.forN 24 (fun i t => t.gpioFilter i (new.getLsbD i) (old.getLsbD i))

/-- Bit `i` of a row of pins becomes `b`. -/
def pinSet (x : BitVec 24) (i : Nat) (b : Bool) : BitVec 24 := if x.getLsbD i == b then x else x ^^^ (1#24 <<< i)

/-- GPIO_EDGE (R505, R513, R514): the level of pin `i`, at its ball or behind its filter, becomes `level`; where the flops
have not seen it, it has stood at the ball long enough. -/
def execGpioEdge (i : Fin 24) (level : Bool) (s : State) (ball : Bool := false) : Out :=
  let set : State := { s with gpioBall := pinSet s.gpioBall i level }
  if ball then ok set
  else if (s.get GPIO_IN_IN).testBit i == level then ok s
  else
    let seen := [s.gpioBall, s.gpioFf1, s.gpioFf2].any (fun x => x.getLsbD i == level)
    let s : State := if seen then s else { set with gpioFf1 := pinSet s.gpioFf1 i level, gpioFf2 := pinSet s.gpioFf2 i level }
    ok (s.gpioPass i level)

/-- GPIO_CFG. -/
def State.wGpioCfg (i : Nat) (v : Word) (s : State) : State := s.regWrite (GPIO_CFG i) v true (fun s => s.gpioAlert i)
/-- Pins that GPIO_SET has set in this TBS tick (R514). -/
def State.gpioTick (s : State) : Word := if s.gpioSetAt.1 = s.T then s.gpioSetAt.2 else 0
/-- GPIO_SET and GPIO_CLR: a set wins over a clear of the same tick (R514). -/
def State.wGpioSet (v : Word) (s : State) : State :=
  { s.put GPIO_OUT_OUT ((s.word GPIO_OUT ||| v).toNat) with gpioSetAt := (s.T, s.gpioTick ||| v) }
def State.wGpioClr (v : Word) (s : State) : State := s.put GPIO_OUT_OUT ((s.word GPIO_OUT &&& ~~~(v &&& ~~~s.gpioTick)).toNat)

/-- GPIO_SET (R514). -/
def execGpioSet (who : Who) (v : Word) (s : State) : Out := ok (s.busWrite who GPIO_SET v (State.wGpioSet v))
/-- GPIO_CLR (R514). -/
def execGpioClr (who : Who) (v : Word) (s : State) : Out := ok (s.busWrite who GPIO_CLR v (State.wGpioClr v))

/-- What pin `i` drives: none as an input, or where open drain releases it (R508, R513). -/
def State.gpioPin (s : State) (i : Nat) : Option Bool :=
  let lvl := match s.get (GPIO_CFG_FUNC i) with
    | 0 => if s.bit (GPIO_CFG_DIR i) then some ((s.get GPIO_OUT_OUT).testBit i) else none
    | 1 => some (s.tmr i).out
    | _ => none
  if s.bit (GPIO_CFG_OD i) && lvl == some true then none else lvl

/-! ## Ethernet MAC (R515, R516) -/

/-- Address of descriptor `i` of the ring that register `r` gives. -/
def State.descAddr (s : State) (r i : Nat) : Nat := bitsOf (s.word r) 31 8 * 256 + 16 * i
/-- Next descriptor of that ring after `i`. -/
def State.descNext (s : State) (r i : Nat) : Nat := (i + 1) % (bitsOf (s.word r) 7 0 + 1)
/-- The MAC owns the descriptor at `a`. -/
def State.descOwned (s : State) (a : Nat) : Bool := (s.dtcmNat a 4).testBit 31

/-- The MAC gives a descriptor back, with its status, LEN and T (R516). -/
def State.descReturn (s : State) (a status len : Nat) (t : BitVec 64) : State :=
  let w := s.dtcmNat a 4
  let s := s.dtcmSeen a 4
  let w := w % 2 ^ 24 / 2048 * 2048 + w / 2 ^ 30 % 2 * 2 ^ 30 + status * 2 ^ 24 + len
  (s.dtcmPut a (bytesLE w 4)).dtcmPut (a + 8) (bytesLE t.toNat 8)

/-- Nanoseconds of a bit time at the speed set (R515, R518). -/
def State.ethBit (s : State) : Nat := match s.get ETH_CTRL_SPEED with | 0 => 100 | 1 => 10 | _ => 1

/-- A frame as it leaves: padded to 64 bytes with its FCS (R515). -/
def ethFrame (bs : List Byte) : List Byte :=
  let b := bs ++ List.replicate (60 - bs.length) 0
  b ++ bytesLE (crc32 b) 4

/-- The MAC looks at the next transmit descriptors until it finds one to send, or one that is not its own; `n` is how many
it may pass (R516). -/
def State.ethNext (s : State) (n : Nat) : State :=
  match n with
  | 0 => { s with eth := { s.eth with sending := false } }
  | n + 1 =>
    let a := s.descAddr ETH_TXRING s.eth.txIdx
    let w := s.dtcmNat a 4
    let buf := s.dtcmNat (a + 4) 4
    let s := s.dtcmSeen a 16
    let len := w % 2048
    let skip := fun (s : State) => { s with eth := { s.eth with txIdx := s.descNext ETH_TXRING s.eth.txIdx } }
    if !w.testBit 31 then { s with eth := { s.eth with sending := false } }
    else if len = 0 then (skip (s.descReturn a 0 0 (BitVec.ofNat 64 (s.dtcmNat (a + 8) 8)))).ethNext n
    else if 1518 < len then
      let s := s.descReturn a 1 len (BitVec.ofNat 64 (s.dtcmNat (a + 8) 8))
      (skip (s.raiseN 360 (Config.unstatedCause (8 * 360 + 1) % 256) len)).ethNext n
    else
      let r := s.dtcmFetch buf len
      let s := r.1
      let f := ethFrame r.2
      let s := { s with eth := { s.eth with sending := true, sfd := s.T + BitVec.ofNat 64 (64 * s.ethBit / 5), wire := f } }
      s.arm (8 * (f.length + 20) * s.ethBit / 4) .txDone

/-- ETH_TXKICK (R516). -/
def State.wEthKick (s : State) : State := if s.bit ETH_CTRL_EN_TX && !s.eth.sending then s.ethNext 256 else s

/-- TX_KICK (R516). -/
def execTxKick (who : Who) (v : Word) (s : State) : Out := ok (s.busWrite who ETH_TXKICK v State.wEthKick)

/-- TX_DONE (R516): the frame has left; the next owned descriptor follows. -/
def execTxDone (s : State) : Out :=
  let s := s.disarm .txDone
  if s.eth.sending then
    let i := s.eth.txIdx
    let a := s.descAddr ETH_TXRING i
    let s := s.descReturn a 0 (s.dtcmNat a 4 % 2048) s.eth.sfd
    let s := s.raiseN 360 (Config.unstatedCause (8 * 360) % 256) i
    let s := { s with eth := { s.eth with txIdx := s.descNext ETH_TXRING i } }
    if s.bit ETH_CTRL_EN_TX then ok (s.ethNext 256) else ok { s with eth := { s.eth with sending := false } }
  else ok s

/-- The receive filter (R515). -/
def State.ethAccepts (s : State) (bs : List Byte) : Bool :=
  let dest := natLE (bs.take 6)
  let pause := (bs.drop 12).take 4 == [0x88, 0x08, 0x00, 0x01]
  !pause && (s.bit ETH_CTRL_PROMISC || dest == 0xFFFFFFFFFFFF
    || dest == natLE ((bytesLE (s.get ETH_MAC_LO_MAC + s.get ETH_MAC_HI_MAC * 2 ^ 32) 6).reverse)
    || ((bs.headD 0).getLsbD 0 && s.bit ETH_CTRL_MCAST))

/-- RX (R515, R516): a frame has been received whole, from its destination address to its FCS. -/
def execRx (bytes : List Byte) (s : State) : Out :=
  let n := bytes.length
  if !s.bit ETH_CTRL_EN_RX || !s.ethAccepts bytes || decide (n < 64) then ok s
  else
    let i := s.eth.rxIdx
    let a := s.descAddr ETH_RXRING i
    if 1522 < n ∨ !s.descOwned a then ok ((s.dtcmSeen a 4).inc ETH_CNT_RXDROP_COUNT)
    else
      let data := bytes.take (n - 4)
      let good := natLE (bytes.drop (n - 4)) == crc32 data
      let sfd := s.T - BitVec.ofNat 64 (8 * n * s.ethBit / 5)
      let s := ((s.dtcmSeen a 16).dtcmPut (s.dtcmNat (a + 4) 4) data).descReturn a (if good then 0 else 2) (n - 4) sfd
      let s := s.raiseN 361 (Config.unstatedCause (8 * 361) % 256) i
      ok { s with eth := { s.eth with rxIdx := s.descNext ETH_RXRING i } }

/-- A ring register: its address lies in the DTCM below the boot record (R516); the ring starts at its first descriptor. -/
def State.wEthRing (a : Nat) (v : Word) (s : State) : State :=
  let b := bitsOf v 31 8 * 256
  s.regWrite a v (decide (0x18000000 ≤ b) && decide (b ≤ 0x1803EFFF)) (fun s =>
    { s with eth := if a = ETH_TXRING then { s.eth with txIdx := 0 } else { s.eth with rxIdx := 0 } })

/-- ETH_MDIO (R515): a write while a transaction runs is discarded. -/
def State.wEthMdio (v : Word) (s : State) : State :=
  s.regWrite ETH_MDIO v (!s.bit ETH_MDIO_GO) (fun s => if tb v 31 then s.putBit ETH_MDIO_GO true else s)

/-- MDIO (R515). -/
def execMdio (who : Who) (v : Word) (s : State) : Out := ok (s.busWrite who ETH_MDIO (withBit v 31) (State.wEthMdio (withBit v 31)))

/-- The ROM reads the identifier, register 2, of the PHY at MDIO address `n`; past 31 it has found none (R517). -/
def State.phySeek (s : State) (n : Nat) : State :=
  if 31 < n then { s with boot := { s.boot with phyAt := none } }
  else { s.setWord ETH_MDIO (BitVec.ofNat 32 (2 ^ 31 + n * 2 ^ 21 + 2 * 2 ^ 16)) with boot := { s.boot with phyAt := some n } }

/-- The identifier has come: the first that is not 0xFFFF is that of the PHY it negotiates through (R517). -/
def State.phyFound (s : State) (d : BitVec 16) : State :=
  match s.boot.phyAt with
  | none => s
  | some n => if d = 0xFFFF then s.phySeek (n + 1) else { s with boot := { s.boot with phyAt := none, phy := some n } }

/-- MDIO_DONE (R515, R516): a read brings `data`; a read of the status register, 1 of clause 22, raises LINK. -/
def execMdioDone (data : BitVec 16) (s : State) : Out :=
  if s.bit ETH_MDIO_GO then
    let s := s.putBit ETH_MDIO_GO false
    if s.bit ETH_MDIO_WRITE then ok s
    else
      let s := s.put ETH_MDIO_DATA data.toNat
      if s.get ETH_MDIO_REG = 1 then ok (s.raiseN 362 (Config.unstatedCause (8 * 362) % 256) data.toNat) else ok (s.phyFound data)
  else ok s

/-! ## xSPI (R519..R528) -/

/-- A window read fails (R520, R524, R525, R527). -/
def State.winFail (s : State) (who : Who) (cause a : Nat) : State :=
  ((s.hwSet XSP_STAT_WIN_ERR).raiseN 365 cause (a % 2 ^ 28)).answer who 0 true

/-- No operation is on the bus (R524). -/
def State.xspFree (s : State) : Bool := s.xsp.icmd.isNone && s.ldg.burst.isNone

/-- The 16 bytes of a CS0 block; with XSP_RST_N low, or behind an indirect command that may program or erase, they are what
the device drives: free (R520). -/
def State.flashBlock (s : State) (b : Nat) : State × List Byte :=
  if s.bit XSP_CTRL_RST || s.flashOpen then (s.drawn, bytesLE (Config.freeNat s.free) 16) else (s, readBytes erasedByte s.flash (16 * b) 16)

/-- A read of block `b` that the buffer does not hold (R520, R525). -/
def State.winMiss (s : State) (who : Who) (a o b : Nat) : State :=
  if s.xsp.dqs && s.get (XSP_PROF_MODE 0) == 1 then
    (({ s with xsp := { s.xsp with dqs := false } }).inc XSP_CNT_DQS_COUNT).winFail who 0x01 a
  else
    let r := s.flashBlock b
    let o' := s.xspOp 0 (bitsOf (s.word (XSP_CMDS 0)) 15 0) (some (BitVec.ofNat 32 (16 * b))) (s.get (XSP_PROF_RDUMMY 0)) false 16 []
    let s := { r.1 with xsp := { r.1.xsp with buf := some (b, r.2), op := some o' } }
    s.answer who (BitVec.ofNat 32 (natLE ((r.2.drop (o % 16)).take 4))) false

/-- A read that needs the bus waits for the operation in progress; one behind PF_OWN has failed (R524). -/
def State.winAsk (s : State) (who : Who) (a o b : Nat) : State :=
  if s.xspFree then s.winMiss who a o b else { s with xsp := { s.xsp with waits := s.xsp.waits ++ [(who, a)] } }

/-- A read of the word at `a` of the window, through its buffer (R520, R524, R525). -/
def State.winRead (who : Who) (a : Nat) (s : State) : State :=
  let o := a % 2 ^ 28 / 4 * 4
  let b := o / 16
  let q := s.xspQueue
  let s := q.1
  if q.2 then s.answer who 0 false
  else if !s.bit XSP_CTRL_WIN_EN then s.winFail who 0x02 a
  else if s.bit XSP_STAT_PF_OWN then s.winFail who 0x03 a
  else
    match s.xsp.buf with
    | some (b', bs) =>
      if b' = b then s.answer who (BitVec.ofNat 32 (natLE ((bs.drop (o % 16)).take 4))) false else s.winAsk who a o b
    | none => s.winAsk who a o b

/-- The operation in progress is over: the window reads that wait take the bus (R524). -/
def State.winServe (s : State) : State :=
  s.xsp.waits.foldl (fun t e => State.winRead e.1 e.2 t) { s with xsp := { s.xsp with waits := [] } }

/-- WINDOW_READ (R520): a word, or the word that holds the byte or halfword. -/
def execWindowRead (who : Who) (a : Nat) (s : State) : Out :=
  let a := 0x20000000 + a % 2 ^ 28
  ok (s.busRead who a (State.winRead who a))

/-- The buffer is emptied (R520). -/
def State.xspFlush (s : State) : State := { s with xsp := { s.xsp with buf := none } }

/-- An indirect command fails or is refused (R522, R523, R527). -/
def State.xspFail (s : State) (code value : Nat) : State :=
  let s := ((s.put XSP_ERR_VALUE value).hwSet XSP_ERR_ERRV).put XSP_ERR_CODE code
  (s.hwSet XSP_STAT_FAIL).raiseN 364 0x02 (code + value % 2 ^ 16 * 2 ^ 16)

/-- Of BUSY, DQS and PFAIL the spec states no VALUE: it is free (log entry 2). -/
def State.xspFailFree (s : State) (code : Nat) : State := s.drawn.xspFail code (Config.freeNat s.free % 2 ^ 16)

/-- The indirect command in progress is over. -/
def State.xspEnd (s : State) : State :=
  { (s.putBit XSP_STAT_BUSY false).putBit XSP_ICMD_GO false with xsp := { s.xsp with icmd := none } }

/-- Bytes `0 .. n - 1` of XSP_IBUF (R528). -/
def State.ibuf (s : State) (n : Nat) : List Byte := (List.range n).map (fun i => byteOf (s.get (XSP_IBUF_DATA (i / 4))) (i % 4))

/-- What an indirect command `w` of LEN `n` puts on the bus (R519, R522). -/
def State.icmdOp (s : State) (w : Word) (n : Nat) : XspOp :=
  s.xspOp (bitsOf w 30 30) (bitsOf w 15 0) (if tb w 28 then some (s.word XSP_IADDR) else none) (bitsOf w 20 16) (tb w 29) n (if tb w 29 then s.ibuf n else [])

/-- GO (R520, R522..R524). -/
def State.xspGo (s : State) : State :=
  let n := s.get XSP_ILEN_LEN
  if s.bit XSP_STAT_PF_OWN then s.xspFailFree 4
  else if 256 < n then s.xspFail 1 n
  else
    let q := s.xspQueue
    let s := q.1
    if q.2 then s
    else
      let w := s.word XSP_ICMD
      let s := if s.bit XSP_ICMD_CS then s else s.xspFlush
      let s := if !s.bit XSP_ICMD_CS && (tb w 29 || n == 0) then { s with flashOpen := true } else s
      let o := s.icmdOp w n
      let s := { s with xsp := { s.xsp with icmd := some (w, n), ddr := o.ddr, op := some o } }
      (s.putBit XSP_STAT_BUSY true).putBit XSP_ICMD_GO true

/-- XSP_ICMD: while BUSY, a GO waits for the end of its cycle, in which BUSY may clear, and any other write is discarded
(R5, R523). -/
def State.wXspIcmd (v : Word) (s : State) : State :=
  if s.bit XSP_STAT_BUSY then
    if !tb v 31 then s.access XSP_ICMD
    else if s.xsp.late.isSome then s.xspFailFree 2
    else { s with xsp := { s.xsp with late := some v } }
  else s.regWrite XSP_ICMD v true (fun s => if tb v 31 then s.xspGo else s)

/-- The end of the XSP cycle of a GO written while BUSY: a new command, or the refusal (R523); an XSP cycle is as long as a
TBS tick (R30). -/
def State.xspTick (s : State) : State :=
  match s.xsp.late with
  | none => s
  | some v =>
    if !s.tickEnds then s else
    let s : State := { s with xsp := { s.xsp with late := none } }
    if s.bit XSP_STAT_BUSY then s.xspFailFree 2 else s.wXspIcmd v

/-- XSP_IADDR, XSP_ILEN and XSP_IBUF: not while BUSY (R523). -/
def State.wXspArg (a : Nat) (v : Word) (s : State) : State := s.regWrite a v (!s.bit XSP_STAT_BUSY) id

/-- XSP_CTRL (R520, R526, R528). -/
def State.wXspCtrl (v : Word) (s : State) : State :=
  s.regWrite XSP_CTRL v true (fun s =>
    let s := if tb v 0 then s.xspFlush else s
    if tb v 2 then s.put XSP_CNT_DQS_COUNT 0 else s)

/-- XSP_ERR: writing ERRV clears all three fields (R528). -/
def State.wXspErr (v : Word) (s : State) : State := s.clearErr XSP_ERR_ERRV v

/-- ICMD_GO (R522). -/
def execIcmdGo (who : Who) (v : Word) (s : State) : Out := ok (s.busWrite who XSP_ICMD (withBit v 31) (State.wXspIcmd (withBit v 31)))

/-- The bytes a device sent, into XSP_IBUF from byte 0 on (R522). -/
def State.ibufFill (s : State) (bs : List Byte) (n : Nat) : State :=
  s.forN n (fun i t => t.put ⟨XSP_IBUF (i / 4), i % 4 * 8 + 7, i % 4 * 8⟩ (bs.getD i 0xFF).toNat)

/-- A read of the indirect command in progress ends as a DQS failure (R525). -/
def State.xspDqsFail (s : State) : State := (s.xspEnd.inc XSP_CNT_DQS_COUNT).xspFailFree 3

/-- ICMD_DONE (R522, R525): with the bytes that the device sent; a failure is a DQS failure, which only the data phase of a
read in 8D-8D-8D has. Behind a Ledger burst that is still on the bus it waits (R524). -/
def execIcmdDone (good : Bool) (data : List Byte) (s : State) : Out :=
  match s.xsp.icmd with
  | none => ok s
  | some (w, n) =>
    let s := s.disarm (.icmdDone good data)
    if s.ldg.burst.isSome then ok (s.arm 1 (.icmdDone good data))
    else if good || !s.xsp.ddr || tb w 29 || n == 0 then
      let s := if tb w 29 then s else s.ibufFill data n
      ok (((s.xspEnd).hwSet XSP_STAT_DONE).raiseN 364 0x01 n)
    else ok s.xspDqsFail

/-- DQS_FAIL (R525): the read in progress, or the next one of the window, ends as a DQS failure where its chip select is
in 8D-8D-8D. -/
def execDqsFail (s : State) : Out :=
  match s.xsp.icmd with
  | some (w, n) => if !tb w 29 && s.xsp.ddr && n != 0 then ok s.xspDqsFail else ok s
  | none => ok { s with xsp := { s.xsp with dqs := s.get (XSP_PROF_MODE 0) == 1 } }

/-- XSP_CNT_CLR (R528). -/
def execXspCntClr (who : Who) (v : Word) (s : State) : Out := ok (s.busWrite who XSP_CTRL (withBit v 2) (State.wXspCtrl (withBit v 2)))

/-- The power-fail flush takes the bus (R524). -/
def State.xspCut (s : State) : State :=
  let s := s.putBit XSP_STAT_PF_OWN true
  if s.xsp.icmd.isSome then s.xspEnd.xspFailFree 4 else s

end Sys2Proof.Machine
end

