-- ==== Sys2Proof/Machine/Image.lean ====
section
/-! DEFINITION. Machine/Image.lean: the flash slots: markers, the container, the checks of a slot, the choice of the slot to
start, and starting it (17, R450..R461). -/

namespace Sys2Proof.Machine

/-! ## Flash (R450) -/

/-- Flash address of a slot. -/
def slotBase (t : Nat) : Nat := t * 0x4000000

/-- `n` bytes of slot `t` from offset `o` on. -/
def State.slotBytes (s : State) (t o n : Nat) : List Byte := readBytes erasedByte s.flash (slotBase t + o) n

/-- A little-endian field of slot `t`. -/
def State.slotNat (s : State) (t o n : Nat) : Nat := natLE (s.slotBytes t o n)

/-- Programs bytes: a program clears bits, it sets none (log entry 3); after a power failure the bus is the Ledger's and
nothing is written (R524). -/
def State.flashProgram (s : State) (a : Nat) (bs : List Byte) : State :=
  if s.bit XSP_STAT_PF_OWN then s
  else
    let old := readBytes erasedByte s.flash a bs.length
    { s.xspFlush with flash := writeBytes erasedByte s.flash a (List.zipWith (· &&& ·) old bs) }

/-- Erases the bytes of a range. -/
def State.flashErase (s : State) (a n : Nat) : State :=
  if s.bit XSP_STAT_PF_OWN then s
  else { s.xspFlush with flash := SMap.clear s.flash (fun k => decide (a ≤ k) && decide (k < a + n)) }

/-! ## Markers (R450) -/

def mkSTAGING : Nat := 0
def mkTRIAL : Nat := 1
def mkATTEMPT : Nat := 2
def mkCONFIRMED : Nat := 3
def mkFAILED : Nat := 4

/-- Offset of a marker in its slot. -/
def markerAt (m : Nat) : Nat := 0x03FFF000 + 16 * m

/-- A marker reads set: torn ones in the direction that keeps the device on its previous image. -/
def State.marker (s : State) (t m : Nat) : Bool :=
  let bs := s.slotBytes t (markerAt m) 16
  if bs.all (· == 0xFF) then false
  else if bs.all (· == 0x00) then true
  else m == mkSTAGING || m == mkATTEMPT || m == mkFAILED

/-- Writes a marker. -/
def State.setMarker (s : State) (t m : Nat) : State := s.flashProgram (slotBase t + markerAt m) (List.replicate 16 0)

/-- A confirmed slot (R455). -/
def State.confirmed (s : State) (t : Nat) : Bool :=
  !s.marker t mkFAILED && (s.marker t mkCONFIRMED || (List.range 5).all (fun m => !s.marker t m))

/-- A trial: TRIAL set, CONFIRMED and FAILED clear (R455). -/
def State.isTrial (s : State) (t : Nat) : Bool := s.marker t mkTRIAL && !s.marker t mkCONFIRMED && !s.marker t mkFAILED

/-! ## The container (R451..R453) -/

/-- An entry of the section table. -/
structure Section where
  typ : Nat
  idx : Nat
  flags : Nat
  off : Nat
  len : Nat
  load : Nat
  digest : List Byte
deriving DecidableEq, Repr

/-- The entry that 64 bytes spell. -/
def sectionOf (b : List Byte) : Section :=
  { typ := natLE (part b 0 1), idx := natLE (part b 1 1), flags := natLE (part b 2 2), off := natLE (part b 4 4)
    len := natLE (part b 8 4), load := natLE (part b 12 4), digest := part b 16 48 }

/-- The first `n` entries of a section table. -/
def sectionsOf (table : List Byte) (n : Nat) : List Section := (List.range n).map (fun i => sectionOf (part table (64 * i) 64))

def State.imgSections (s : State) (t : Nat) : List Section := sectionsOf (s.slotBytes t 0xA0 2048) (min 32 (s.slotNat t 0x19 1))
def State.imgSeq (s : State) (t : Nat) : Nat := s.slotNat t 0x0C 4
def State.imgVersion (s : State) (t : Nat) : Nat := s.slotNat t 0x10 4
def State.imgKeysel (s : State) (t : Nat) : Nat := s.slotNat t 0x18 1

/-- Two ranges of bytes share one. -/
def rangesMeet (a n b m : Nat) : Bool := decide (a < b + m) && decide (b < a + n)

/-- A section stands as R452 and R454 ask. -/
def Section.good (e : Section) : Bool :=
  decide (1 ≤ e.typ) && decide (e.typ ≤ 6) && e.flags == 0
    && decide (e.off % 4096 = 0) && decide (0x1000 ≤ e.off) && decide (e.off + e.len ≤ 0x4000000)
    && (match e.typ with
      | 1 => e.idx == 0 && decide (0x10000000 ≤ e.load) && decide (e.load + e.len ≤ 0x10080000)
      | 2 => e.idx == 0 && decide (0x18000000 ≤ e.load) && decide (e.load + e.len ≤ 0x1803F000)
      | 3 => e.idx == 0 && e.load == 0
      | 4 => decide (e.idx ≤ 3) && e.load == 0
      | 5 => e.idx == 0 && e.load == 0 && e.len == 256
      | _ => e.load == 0)

/-- No two sections rangesMeet. -/
def disjoint (l : List Section) : Bool :=
  match l with
  | [] => true
  | e :: t => t.all (fun f => !rangesMeet e.off e.len f.off f.len) && disjoint t

/-- A byte of the PERM section: role codes 0..4 and no reserved bit. -/
def permByte (b : Byte) : Bool := decide (b.toNat % 16 ≤ 4) && decide (b.toNat / 16 ≤ 4)

/-- A profile holds no reserved mode or clock (R453). -/
def profileGood (b : List Byte) : Bool := decide ((b.getD 0 0).toNat ≤ 1) && decide ((b.getD 1 0).toNat ≤ 3) && decide ((b.getD 2 0).toNat ≤ 31) && decide ((b.getD 3 0).toNat ≤ 31)

/-- FORMAT of slot `t` (R454). -/
def State.imgFormat (s : State) (t : Nat) : Bool :=
  let zero := fun (o n : Nat) => (s.slotBytes t o n).all (· == 0)
  let cnt := s.slotNat t 0x19 1
  let secs := s.imgSections t
  let entry := s.slotNat t 0x1C 4
  s.slotBytes t 0 4 == [0x50, 0x56, 0x49, 0x4D] && s.slotNat t 4 2 == 1 && s.slotNat t 6 2 == 0x1000
    && decide (0x1000 ≤ s.slotNat t 8 4) && decide (s.slotNat t 8 4 ≤ 0x03FFF000)
    && decide (s.imgVersion t ≤ 128) && decide (1 ≤ s.imgKeysel t) && decide (s.imgKeysel t ≤ 2)
    && decide (1 ≤ cnt) && decide (cnt ≤ 32)
    && zero 0x1A 2 && zero 0x91 15 && zero (0xA0 + 64 * cnt) (64 * (32 - cnt)) && zero 0x8A0 1792
    && s.slotNat t 0x30 1 == 4 && profileGood (s.slotBytes t 0x20 8) && profileGood (s.slotBytes t 0x28 8)
    && secs.all Section.good && disjoint secs
    && (secs.filter (fun e => e.typ == 1)).length == 1 && (secs.filter (fun e => e.typ == 5)).length == 1
    && secs.any (fun e => e.typ == 1 && decide (e.load ≤ entry) && decide (entry < e.load + e.len))
    && secs.all (fun e => e.typ != 5 || (s.slotBytes t e.off e.len).all permByte)

/-! ## The check of a slot (R454) -/

/-- The SHA-384 of bytes is the digest given. -/
def digestIs (bs digest : List Byte) : Bool := digestBytes (sha384 bs) == digest

/-- The code of the first failing check, 0 when the slot passes. -/
def State.slotCode (s : State) (t : Nat) : Nat :=
  let key := s.slotBytes t 0x30 97
  let sel := s.imgKeysel t
  if !s.imgFormat t then 1
  else if !s.keyMatches key (if sel = 2 then 128 else 140) || (sel == 2 && s.lc == lcFIELD && !s.bit SYS_STRAP_RECOVERY) then 2
  else if !ecdsaVerify key (s.slotBytes t 0 0xFA0) (s.slotBytes t 0xFA0 96) then 3
  else if s.imgVersion t < s.rollback then 4
  else if (s.imgSections t).any (fun e => !digestIs (s.slotBytes t e.off e.len) e.digest) then 5
  else 0

/-- The ROM checks slot `t` and keeps its code (R457). -/
def State.romCheck (s : State) (t : Nat) : State × Bool :=
  let c := s.slotCode t
  ({ s with boot := { s.boot with codes := if t = 0 then (c, s.boot.codes.2) else (s.boot.codes.1, c) } }, c == 0)

/-- XSP_PROF and XSP_CMDS of a chip select from a profile, as they are (R453). -/
def State.loadProfile (s : State) (cs : Nat) (b : List Byte) : State :=
  (s.setWord (XSP_PROF cs) (BitVec.ofNat 32 (natLE (part b 0 4)))).setWord (XSP_CMDS cs) (BitVec.ofNat 32 (natLE (part b 4 4)))

/-- The check on the way to a start: XPROF0 counts from the moment the header has verified, whatever the checks behind its
signature say (R453). -/
def State.romTry (s : State) (t : Nat) : State × Bool :=
  let r := s.romCheck t
  let c := s.slotCode t
  (if c = 1 ∨ c = 2 ∨ c = 3 then r.1 else r.1.loadProfile 0 (s.slotBytes t 0x20 8), r.2)

/-! ## Starting a slot (R453, R456, R457) -/

/-- The ITCM and DTCM sections of slot `t` are copied. -/
def State.loadSections (s : State) (t : Nat) : State :=
  (s.imgSections t).foldl (fun u e =>
    match e.typ with
    | 1 => u.tcmStore false (e.load - 0x10000000) (s.slotBytes t e.off e.len)
    | 2 => u.tcmStore true (e.load - 0x18000000) (s.slotBytes t e.off e.len)
    | _ => u) s

/-- RGT_PERM 0..255 from the PERM section (R452, R456). -/
def State.loadPerm (s : State) (t : Nat) : State :=
  match (s.imgSections t).find? (fun e => e.typ == 5) with
  | none => s
  | some e => (List.range 256).foldl (fun u i => u.wPerm i (BitVec.ofNat 32 (s.slotNat t (e.off + i) 1))) s

/-- The role of the supervisor after a start (R417, R456). -/
def State.startRole (s : State) (keysel : Nat) : State := s.roleWrite (.sup true) false (if keysel = 2 then 3 else 1)

/-- The boot record (R457). -/
def State.bootRecord (s : State) (t : Nat) (trial : Bool) : List Byte :=
  let b := [0x42, 0x52, 0x45, 0x43] ++ bytesLE t 1 ++ bytesLE (s.imgKeysel t) 1 ++ [if trial then 1 else 0, 0]
    ++ bytesLE (s.imgSeq t) 4 ++ bytesLE (s.imgVersion t) 4 ++ s.slotBytes t 0x14 4
    ++ bytesLE (s.word SYS_RST_CAUSE).toNat 4 ++ bytesLE (s.word SYS_STRAP).toNat 4
    ++ bytesLE s.boot.codes.1 1 ++ bytesLE s.boot.codes.2 1 ++ [0, 0] ++ s.slotBytes t 0xA0 2048
  let b := b ++ List.replicate (0xFFC - b.length) 0
  b ++ bytesLE (crc32 b) 4

/-- Where the boot record stands in the DTCM. -/
def recordAt : Nat := 0x1803F000

/-- A field of the boot record. -/
def State.recNat (s : State) (o n : Nat) : Nat := s.dtcmNat (recordAt + o) n

/-- The boot record carries its MAGIC and its CRC. -/
def State.recordGood (s : State) : Bool :=
  let b := (s.dtcmBytes recordAt 0x1000).getD []
  b.take 4 == [0x42, 0x52, 0x45, 0x43] && natLE (b.drop 0xFFC) == crc32 (b.take 0xFFC)

/-- The slot started (R457). -/
def State.runSlot (s : State) : Nat := s.recNat 4 1 % 2

/-- The slot started and the other one: escrow. -/
def State.escrow (s : State) : Nat := 1 - s.runSlot

/-- Slot `t`, which has passed its checks, is started (R456). -/
def State.startSlot (s : State) (t : Nat) (trial : Bool) : State :=
  let sel := s.imgKeysel t
  let s := (s.loadSections t).loadPerm t
  let s := s.wSeal 0x5EA1
  let s := s.startRole sel
  let s := s.dtcmPut recordAt (s.bootRecord t trial)
  let s := s.raiseN 36 0x01 (t + sel * 0x100)
  let s := s.loadProfile 1 (s.slotBytes t 0x28 8)
  ({ s with boot := { s.boot with rom := .image } }).leaveRom

/-! ## The choice of the slot (R455, R458, R459) -/

/-- A Vault word as the ROM reads it: in SCRAPPED, KEYHASH, OWNER and INSTALLER read 0 (R437). -/
def State.romWord (s : State) (w : Nat) : Word := if s.lc = lcSCRAPPED ∧ [4, 6, 7].contains (vltRegion w) then 0 else s.vltWord w

/-- The owner's and the installer's choices, with their defaults (R461). -/
def State.ownerNat (s : State) (hi lo dflt : Nat) : Nat := if tb (s.romWord 256) 31 then bitsOf (s.romWord 256) hi lo else dflt
def State.ethRecov (s : State) : Bool := s.ownerNat 18 18 1 == 1
def State.solo (s : State) : Bool := s.ownerNat 17 17 0 == 1
def State.batLow (s : State) : Nat := s.ownerNat 9 0 600
def State.reqInst (s : State) : Bool := tb (s.romWord 384) 31 && tb (s.romWord 384) 0

/-- The ROM opens the Ethernet transport (R458, R459, R517). -/
def State.romEth (s : State) : State := (({ s with boot := { s.boot with rom := .eth } }).phySeek 0).arm 0 .ethHello

/-- The ROM waits for debug (R447, R458). -/
def State.romDebug (s : State) : State := { s with boot := { s.boot with rom := .debug } }

/-- No slot can be started (R458). -/
def State.noImage (s : State) : State :=
  let s := s.raiseN 36 0x03 (s.boot.codes.1 + s.boot.codes.2 * 0x100)
  let s := { s with boot := { s.boot with noImage := true } }
  if s.get SYS_STRAP_BOOT_SEL == 1 && s.ethRecov then s.romEth else s.romDebug

/-- The confirmed slots, by descending SEQ, slot 0 first on equal SEQ. -/
def State.confirmedSlots (s : State) : List Nat :=
  (if s.imgSeq 0 < s.imgSeq 1 then [1, 0] else [0, 1]).filter s.confirmed

/-- Starts the first slot of a list that passes. -/
def State.startFirst (s : State) (l : List Nat) : State :=
  match l with
  | [] => s.noImage
  | t :: rest =>
    let r := s.romTry t
    if r.2 then r.1.startSlot t false else r.1.startFirst rest

/-- The selection (R455). -/
def State.romSelect (s : State) : State :=
  match (List.range 2).find? s.isTrial with
  | none => s.startFirst s.confirmedSlots
  | some t =>
    if s.marker t mkATTEMPT then
      let s := (s.setMarker t mkFAILED).raiseN 36 0x02 t
      s.startFirst s.confirmedSlots
    else
      let r := s.romTry t
      if r.2 then (r.1.setMarker t mkATTEMPT).startSlot t true else r.1.startFirst r.1.confirmedSlots

/-- The boot ROM after the release of the supervisor (R437, R447, R455, R459, R526): BLANK acts as BOOT_SEL = 0b11. -/
def State.romStart (s : State) : State :=
  let s := s.putBit XSP_CTRL_RST false
  let sel := s.get SYS_STRAP_BOOT_SEL
  if s.bit SYS_STRAP_RECOVERY then
    let s := s.raiseN 36 0x08 (s.word SYS_STRAP).toNat
    if sel = 3 ∨ s.lc = lcBLANK then s.romDebug else s.romEth
  else if s.lc = lcBLANK ∨ sel = 3 then s.romDebug
  else if s.lc = lcSCRAPPED then s.noImage
  else if sel = 2 then s.romEth
  else s.romSelect

end Sys2Proof.Machine
end

