-- ==== Sys2Proof/Machine/Boot.lean ====
section
/-! DEFINITION. Machine/Boot.lean: the resets and the start-up (17, 20), the Vault's scans (16), power failure, the warm
restart, the update service, and recovery over Ethernet (19). -/

namespace Sys2Proof.Machine

/-! ## Resets (R445, R449, R538) -/

/-- Timers of the companions, which no reset of this device stops. -/
def companionTimer (i : Instr) : Bool :=
  match i with
  | .companionAutonomy _ | .companionHold _ | .seizeAccept _ _ _ | .portLiveLoss _ _ | .protectiveAction _ _ => true
  | .hello _ _ _ | .setAdvance _ _ _ | .bootStart _ _ _ | .setHold _ _ _ | .bootDone _ _ _ | .reset _ _ _ => true
  | .feedSide _ _ _ | .feedClear _ _ _ | .feedHardlim _ _ _ => true
  | _ => false

/-- A Vault command that a reset cuts leaves its cells as they stand then (R437). -/
def State.vltAbandon (s : State) : State :=
  match s.vlt.cmd with
  | none => s
  | some c => c.cells.foldl (fun t e => t.blowSome e.1 e.2.1 e.2.2) s

/-- Every domain in its reset state; with `aon` the AON domain keeps its registers (R445). What stays is outside the
domains: fuses, flash, MRAM, companions, the supplies' levels; and the model's own queue and counter. -/
def State.cleared (s : State) (aon : Bool) : State :=
  let s := s.vltAbandon
  let t : State :=
    { member := s.member, vlt := { aN := s.vlt.aN, aS := s.vlt.aS, bN := s.vlt.bN, bS := s.vlt.bS }
      flash := s.flash, flashOpen := s.flashOpen, mram := s.mram, comps := s.comps, free := s.free, pending := s.pending
      boot := { porst := s.boot.porst, rail := s.boot.rail, straps := s.boot.straps }
      alarms := (s.alarms.filter (fun e => companionTimer e.2)).map (fun e => (e.1 - s.clk.now, e.2)) }
  let t := (t.setWord SYS_PWRSTAT (s.word SYS_PWRSTAT)).putBit VLT_STAT_VPP_OK (s.bit SYS_PWRSTAT_VPP_OK)
  if aon then (t.setWord SYS_RST_CAUSE (s.word SYS_RST_CAUSE)).setWord SYS_STRAP (s.word SYS_STRAP) else t

/-- What the straps show outside SYS_STRAP (R336, R433). -/
def State.strapped (s : State) : State :=
  (s.putBit VLT_STAT_RECOV_STRAP (s.bit SYS_STRAP_RECOVERY)).put LNK_EPOCH_UNIT (s.get SYS_STRAP_UNIT_ID)

/-- The start-up begins (R449): `cause` is what source 33 will carry. -/
def State.startUp (s : State) (cause : Nat) : State :=
  let s := { s.strapped with boot := { s.boot with cause := cause } }
  let s := (s.arm 1600 (.selfCheck true)).arm (us 50) (.pllLock .frame)
  ((s.arm (us 50) (.pllLock .system)).arm (us 200) .vaultScan).arm (us 320) .supervisorRelease

/-- The start-up of a power-on: SYS_RST_CAUSE shows POR alone, SYS_STRAP the straps sampled last (R446, R472). -/
def State.powerUp (s : State) : State := ((s.setWord SYS_RST_CAUSE 1).setWord SYS_STRAP (BitVec.ofNat 32 s.boot.straps.toNat)).startUp 1

/-- PORST_N_LOW (R445). -/
def execPorstNLow (s : State) : Out :=
  let s := s.cleared false
  ok { s with boot := { s.boot with porst := true } }

/-- POWER_ON_RESET (R446, R449): PORST_N rises; `strap` is RECOVERY, BOOT_SEL, 0, UNIT_ID as SYS_STRAP shows them. -/
def execPowerOnReset (strap : BitVec 5) (s : State) : Out :=
  let s := s.cleared false
  let s := { s with boot := { s.boot with porst := false, straps := strap &&& 0x1D } }
  if s.boot.rail then ok s else ok s.powerUp

/-- RAIL_LOW (R538): every domain is in reset, AON too. -/
def execRailLow (s : State) : Out :=
  let s := s.cleared false
  ok { s with boot := { s.boot with rail := true } }

/-- RAIL_RETURN (R538): with PORST_N high the start-up begins, from the reset state and with the straps sampled last (log
entry 22). -/
def execRailReturn (s : State) : Out :=
  if !s.boot.rail then ok s
  else
    let s := s.cleared false
    let s := { s with boot := { s.boot with rail := false } }
    if s.boot.porst then ok s else ok s.powerUp

/-- The system reset by request (R445). -/
def State.systemReset (s : State) : State := (((s.cleared true).hwSet SYS_RST_CAUSE_SYSREQ).startUp 2)

/-- SYS_RST_CTRL (R472). -/
def State.wRstCtrl (v : Word) (s : State) : State :=
  let warm := tb v 0
  let sys := tb v 1
  if (warm || sys) && (bitsOf v 31 16 != 0x5AFE || (warm && sys)) then s.access SYS_RST_CTRL
  else if sys then s.systemReset
  else if warm then s.coresDown 1
  else s

/-- SYSTEM_RESET (R445). -/
def execSystemReset (who : Who) (v : Word) (s : State) : Out := ok (s.busWrite who SYS_RST_CTRL (withBit v 1) (State.wRstCtrl (withBit v 1)))
/-- WARM_REQUEST (R409, R445). -/
def execWarmRequest (who : Who) (v : Word) (s : State) : Out := ok (s.busWrite who SYS_RST_CTRL (withBit v 0) (State.wRstCtrl (withBit v 0)))

/-- TEST_RESET (R445): the test port alone, whose instruction is IDCODE then (R536). -/
def execTestReset (s : State) : Out := ok { s with boot := { s.boot with tap := .idcode, captured := [], scan := [] } }

/-! ## The Vault's scans (R428, R432) -/

/-- The device stays in reset from now on, and the scan repeats in a second. -/
def State.vltHold (s : State) : State :=
  ((s.cleared true).modVlt (fun x => { x with hold := some 0 })).strapped.putVariant.arm (seconds 1) .vaultHoldRescan

/-- VAULT_SCAN (R428): once in every system reset. -/
def execVaultScan (s : State) : Out :=
  let s := s.disarm .vaultScan
  if s.inReset || s.bit VLT_STAT_SCAN_DONE then ok s
  else if s.vltHolds then ok s.vltHold
  else ok s.vltScan

/-- VAULT_HOLD_RESCAN (R432): a scan in which every region passes releases the reset. -/
def execVaultHoldRescan (s : State) : Out :=
  let s := s.disarm .vaultHoldRescan
  if s.vlt.hold.isNone then ok s
  else if s.vltHolds then ok s.vltHold
  else ok (((s.cleared true).hwSet SYS_RST_CAUSE_VHOLD).startUp 3)

/-- VAULT_READ (R441). -/
def execVaultRead (who : Who) (w : Fin 512) (s : State) : Out := ok (s.busRead who (VLT_WIN + 4 * w) (fun s => s.vltWindow who w))

/-! ## The release of the supervisor, and the warm restart (R409, R410, R449, R460) -/

/-- The supervisor cores leave reset, and their watchdog's count starts again (R378). -/
def State.coresUp (s : State) : State :=
  ({ s with bus := { s.bus with coresHeld := false }, cores := { s.cores with cycAt := s.clk.now } }).wdogStart

/-- SUPERVISOR_RELEASE (R428, R449): not before the scan is complete. -/
def execSupervisorRelease (s : State) : Out :=
  let s := s.disarm .supervisorRelease
  if s.inReset || !s.bit VLT_STAT_SCAN_DONE || s.boot.rom != .reset then ok s
  else
    let f := s.coresUp.freeWord
    ok (f.1.raise 33 s.boot.cause f.2).romStart

/-- Every ITCM section still has the digest of the copied table (R460). -/
def State.itcmGood (s : State) : Bool :=
  let table := (s.dtcmBytes (recordAt + 0x20) 2048).getD []
  ((sectionsOf table 32).filter (fun e => e.typ == 1)).all (fun e =>
    s.tcmGood false (e.load - 0x10000000) e.len && digestIs (readBytes zeroByte s.itcm (e.load - 0x10000000) e.len) e.digest)

/-- The checks of the reads that R460 makes: the boot record, and the ITCM sections it lists (R361). -/
def State.warmSeen (s : State) : State :=
  let table := (s.dtcmBytes (recordAt + 0x20) 2048).getD []
  ((sectionsOf table 32).filter (fun e => e.typ == 1)).foldl (fun t e => t.tcmSeen false (e.load - 0x10000000) e.len)
    (s.dtcmSeen recordAt 0x1000)

/-- The ROM starts no slot: in BLANK, and with RECOVERY_N low (R455, R459). -/
def State.noSlot (s : State) : Bool := s.lc == lcBLANK || s.bit SYS_STRAP_RECOVERY

/-- The cores run an image from now on: a halt asked for before is taken (R413). -/
def State.runImage (s : State) : State := ({ s with boot := { s.boot with rom := .image } }).leaveRom

/-- The boot ROM after a warm restart (R460): where it may start no slot, no slot passes (log entry 51). -/
def State.romWarm (s : State) : State :=
  let good := s.recordGood && s.itcmGood
  let role := s.recNat 5 1
  let t := s.runSlot
  let s := s.warmSeen
  if good then (s.startRole role).runImage
  else if s.noSlot then s.systemReset
  else
    let r := s.romTry t
    if r.2 then
      let s := (r.1.loadSections t).raiseN 36 0x09 t
      let s := s.startRole (s.imgKeysel t)
      (s.dtcmPut recordAt (s.bootRecord t (s.isTrial t))).runImage
    else r.1.systemReset

/-- WARM_RELEASE (R410, R460, R471). -/
def execWarmRelease (s : State) : Out :=
  let s := s.disarm .warmRelease
  if s.warmHeld then ok (s.coresUp.raiseN 33 0x04 s.boot.warm).romWarm else ok s

/-! ## Power failure (R389, R437, R473, R524) -/

/-- PFAIL_FALL: the supply event, the detection, the power-fail latch, and what stops. -/
def execPfailFall (s : State) : Out :=
  if s.bit SYS_PWRSTAT_PFAIL then ok s
  else
    let s := s.putBit SYS_PWRSTAT_PFAIL true
    if s.inReset then ok s
    else
      let s := (s.raiseN 34 0x01 0).detect 14
      let f := s.freeWord
      let s := (f.1.raise 40 (Config.unstatedCause (8 * 40) % 256) f.2).pfStart
      let s := s.vltPfail
      ok (if s.bit LDG_STAT_PF_ACTIVE then s.xspCut else s)

/-- PFAIL_RISE (R473). -/
def execPfailRise (s : State) : Out :=
  if s.bit SYS_PWRSTAT_PFAIL then
    let s := s.putBit SYS_PWRSTAT_PFAIL false
    ok (if s.inReset then s else s.raiseN 34 0x02 0)
  else ok s

/-! ## Pins (R375, R432, R448, R458, R536) -/

/-- The IDCODE of the test port (R536): SYS_IDENT.STEPPING, 0x5C96, the manufacturer code. -/
def State.idcode (s : State) : Word := BitVec.ofNat 4 (s.get SYS_IDENT_STEPPING) ++ 0x5C96#16 ++ Config.manufacturer

/-- FAULT_N, SAFE_N and RSTOUT_N. -/
def State.pins (s : State) : Bool × Bool × Bool :=
  if s.boot.porst || s.boot.rail then (false, false, false)
  else
    match s.vlt.hold with
    | some t => (decide (t + ms 100 ≤ s.clk.now), false, false)
    | none => (s.faultPins.1, s.faultPins.2 && !s.boot.noImage, s.bit SYS_RSTOUT_RELEASE)

/-! ## The update service (R466..R469) -/

/-- The service returns; a status other than 0 is reported (R466). -/
def State.updReturn (s : State) (a0 : Nat) : State := if a0 = 0 then s.service 0 else (s.service a0).raiseN 36 0x04 a0

/-- A running core calls the service: it kicks the watchdog (R466) and reads the head of the boot record, whose code word
may be uncorrectable: the load faults and the service does not go on (R361; log entry 72). -/
def State.romService (s : State) (op : State → State) : State :=
  if !s.issues (.sup true) then s
  else
    let t := s.wdogStart.dtcmSeen recordAt 16
    if (t.dtcmBytes recordAt 16).isSome then op t else t.answer (.sup true) 0 true

/-- The conditions that BEGIN and ACTIVATE share, in order (R468). -/
def State.updCondition (s : State) (begin_ : Bool) : Option Nat :=
  if s.get RGT_ROLE_SUP_ROLE < (if s.reqInst then 2 else 1) then some 16
  else if (s.lc != lcPROVISIONED && s.lc != lcFIELD) || s.bit SYS_STRAP_RECOVERY then some 13
  else if begin_ && !s.confirmed s.runSlot then some 14
  else if s.bit MNT_STAT_HOLDUP then some 8
  else if s.bit MNT_STAT_EMERG then some 12
  else if !s.strings.isEmpty && decide (s.get BAT_AGG_SOC < s.batLow) then some 9
  else if s.bit SYS_UPD_LOCK_LOCK then some 10
  else if s.bit TWN_STAT_NOT_READY && !s.solo then some 11
  else none

/-- `n` bytes of slot `t` from offset `o` on read back erased (R467). -/
def State.slotErased (s : State) (t o n : Nat) : Bool := s.flash.all (fun e => !(decide (slotBase t + o ≤ e.1) && decide (e.1 < slotBase t + o + n)))

/-- A marker has been written: 0, or FLASH (R467). -/
def State.markerCode (s : State) (t m : Nat) : Nat := if (s.slotBytes t (markerAt m) 16).all (· == 0) then 0 else 7

/-- Staged bytes, and whether a VERIFY holds. -/
def State.staging (s : State) (len : Option Nat) (v : Bool) : State := { s with boot := { s.boot with staged := len, verified := v } }

/-- BEGIN (R466, R468): the conditions of entry, then the length, of which 0 has no effect (R7). The erased blocks and the
marker are read back (R467). -/
def execBegin (len : Word) (s : State) : Out :=
  ok (s.romService (fun s =>
    let n := len.toNat
    match s.updCondition true with
    | some c => s.updReturn c
    | none =>
      if 0x03FFF000 < n then s.updReturn 6
      else if n = 0 then s.updReturn 0
      else
        let t := s.escrow
        let u := s.flashErase (slotBase t + 0x03FFF000) 0x1000
        let erased := u.slotErased t 0x03FFF000 0x1000
        let u := u.setMarker t mkSTAGING
        let c := u.markerCode t mkSTAGING
        let m := (n + 65535) / 65536 * 65536
        let u := u.flashErase (slotBase t) m
        (u.staging (some n) false).updReturn (if erased && c == 0 && u.slotErased t 0 m then 0 else 7)))

/-- WRITE (R466). With a3 = 0 it has no effect and no error, whatever a2 is and with no BEGIN before it (R7; log
entry 72). -/
def execWrite (a1 a2 a3 : Word) (s : State) : Out :=
  ok (s.romService (fun s =>
    let n := a3.toNat
    if n = 0 then s.updReturn 0 else
    match s.boot.staged with
    | none => s.updReturn 15
    | some len =>
      if 65536 < n ∨ len < a2.toNat + n then s.updReturn 6
      else
        let r := s.dtcmFetch a1.toNat n
        let a := slotBase s.escrow + a2.toNat
        let s := (r.1.flashProgram a r.2).staging (some len) false
        s.updReturn (if readBytes erasedByte s.flash a n = r.2 then 0 else 7)))

/-- VERIFY (R466). -/
def execVerify (s : State) : Out :=
  ok (s.romService (fun s =>
    if s.boot.staged.isNone then s.updReturn 15
    else
      let c := s.slotCode s.escrow
      (s.staging s.boot.staged (c == 0)).updReturn c))

/-- ACTIVATE (R466, R468): the conditions of entry, the VERIFY, then the version and the sequence number. -/
def execActivate (s : State) : Out :=
  ok (s.romService (fun s =>
    let t := s.escrow
    match s.updCondition false with
    | some c => s.updReturn c
    | none =>
      if !s.boot.verified then s.updReturn 15
      else if s.imgVersion t < s.rollback then s.updReturn 4
      else if s.imgSeq t ≤ s.recNat 8 4 then s.updReturn 18
      else
        let s := s.setMarker t mkTRIAL
        let c := s.markerCode t mkTRIAL
        (if c = 0 then s.raiseN 36 0x05 (s.imgSeq t) else s).updReturn c))

/-- ADVANCE_RB to the running version, where it exceeds the value in force (R469): the ROM's boot-issued writes. -/
def State.updAdvance (s : State) : State :=
  let v := s.recNat 0x0C 4
  if v ≤ s.rollback then s
  else if !s.bit VLT_STAT_VPP_OK then s.raiseN 36 0x07 v
  else
    let w := (0x85000000 : Word) + setBits 0 (VLT_CTRL_VALUE.hi) (VLT_CTRL_VALUE.lo) v
    let s := s.busWrite (.sup true) VLT_PKEY 0x0B1E (State.wVltPkey 0x0B1E)
    s.busWrite (.sup true) VLT_CTRL w (State.wVltCtrl w)

/-- COMMIT (R466, R469). -/
def execCommit (a1 : Word) (s : State) : Out :=
  ok (s.romService (fun s =>
    let t := s.runSlot
    if !s.isTrial t || !s.marker t mkATTEMPT then s.updReturn 15
    else
      let s := s.setMarker t mkCONFIRMED
      let c := s.markerCode t mkCONFIRMED
      if c ≠ 0 then s.updReturn c
      else
        let s := s.raiseN 36 0x06 (s.recNat 0x0C 4)
        (if a1 = 1 then s.updAdvance else s).updReturn 0))

/-- ABORT (R466). -/
def execAbort (s : State) : Out :=
  ok (s.romService (fun s => let s := s.setMarker s.escrow mkFAILED; s.updReturn (s.markerCode s.escrow mkFAILED)))

/-- ADVANCE (R466, R469), the call with a0 = 6; with a reserved `a0`, above 6, the service returns FUNCTION. -/
def execAdvance (s : State) (a0 : Word := 6) : Out :=
  ok (s.romService (fun s => if 6 < a0.toNat then s.updReturn 17 else if !s.confirmed s.runSlot then s.updReturn 15 else s.updAdvance.updReturn 0))

/-! ## Recovery over Ethernet (R459, R517) -/

/-- The ROM answers with STATUS and a payload. -/
def State.ethSend (s : State) (op status : Nat) (bs : List Byte) : State :=
  { s with boot := { s.boot with ethOut := (op, status, bs), ethSent := s.boot.ethSent + 1 } }

/-- The station address of the ROM (R517). -/
def State.ethStation (s : State) : Nat :=
  let a := bitsOf (s.romWord 5) 15 0 * 2 ^ 32 + (s.romWord 4).toNat
  if a = 0 then 0x0200 * 2 ^ 32 + (s.romWord 0).toNat else a

/-- The recovery frame last sent, without FCS (R517): HELLO to broadcast, a response to the requester, whose address is free;
the station address, EtherType, OP, with bit 7 in a response, STATUS, TAG, then the payload behind OFFSET and LEN, of which
the spec states no content: free. -/
def State.ethFrameOut (s : State) : List Byte :=
  let free := bytesLE (Config.freeNat s.free) 6
  (if s.boot.ethOut.1 = 1 then List.replicate 6 0xFF else bytesLE (Config.freeNat (s.free + 1)) 6)
    ++ (bytesLE s.ethStation 6).reverse ++ [0x88, 0xB5] ++ bytesLE (s.boot.ethOut.1 + s.boot.ethOut.2.1 * 256) 2
    ++ bytesLE (s.boot.ethTag.getD 0).toNat 2 ++ free ++ s.boot.ethOut.2.2

/-- ETH_HELLO (R517). -/
def execEthHello (s : State) : Out :=
  let s := s.disarm .ethHello
  if s.boot.rom = .eth ∧ !s.boot.ethHeard then
    let p := (List.range 4).flatMap (fun i => bytesLE (s.vltWord i).toNat 4)
      ++ [BitVec.ofNat 8 (s.get SYS_STRAP_UNIT_ID), BitVec.ofNat 8 s.lc, BitVec.ofNat 8 s.boot.codes.1, BitVec.ofNat 8 s.boot.codes.2]
    ok ((s.ethSend 0x01 0 p).arm (seconds 1) .ethHello)
  else ok s

/-- The ROM serves recovery: over Ethernet, or in RECOVERY over the debug port, whose requests are the same (R458, R459; log
entry 53). -/
def State.recovers (s : State) : Bool := s.boot.rom == .eth || (s.boot.rom == .debug && s.bit SYS_STRAP_RECOVERY)

/-- A request arrives: the ROM answers it only while it serves recovery, and sends no HELLO any more. One with the TAG of
the last gets the last response again (R517). -/
def State.ethRequest (s : State) (tag : BitVec 16) (op : State → State) : State :=
  if s.recovers && s.issues (.sup true) then
    if s.boot.ethTag = some tag then { s with boot := { s.boot with ethSent := s.boot.ethSent + 1 } }
    else op (({ s with boot := { s.boot with ethHeard := true, ethTag := some tag } }).disarm .ethHello)
  else s

/-- In RECOVERY every request but CHAL and GRANT waits for the grant of MAKER (R459). -/
def State.ethGated (s : State) (code : Nat) (tag : BitVec 16) (op : State → State) : State :=
  s.ethRequest tag (fun s => if s.bit SYS_STRAP_RECOVERY && !s.boot.ethMaker then s.ethSend (0x80 + code) 16 [] else op s)

/-- ETH_CHAL (R418, R517). -/
def execEthChal (s : State) (tag : BitVec 16 := 0) : Out :=
  ok (s.ethRequest tag (fun s =>
    let s := State.rChal (.sup true) s
    s.ethSend 0x82 0 ((List.range 8).flatMap (fun i => bytesLE (s.word (RGT_CHAL i)).toNat 4))))

/-- ETH_GRANT (R419, R459, R517): in RECOVERY a grant of MAKER alone, the status of another is free (log
entry 86). -/
def execEthGrant (cred : List Byte) (s : State) (tag : BitVec 16 := 0) : Out :=
  ok (s.ethRequest tag (fun s =>
    let role := (cred.getD 4 0).toNat
    if s.bit SYS_STRAP_RECOVERY && credFormat cred && role != 3 then s.drawn.ethSend 0x83 (Config.freeNat s.free) []
    else
      let p := s.credJudge cred
      let s := p.1.ethSend 0x83 p.2 []
      if p.2 = 0 then
        let s := { s with boot := { s.boot with ethMaker := s.boot.ethMaker || role == 3 } }
        s.roleWrite (.sup true) (cred.getD 5 0 == 1) (BitVec.ofNat 32 role)
      else s))

/-- The target slot (R517): of lower SEQ, slot 0 on equal SEQ; a header without FORMAT has no SEQ and comes before one
with. -/
def State.ethTarget (s : State) : Nat :=
  match s.imgFormat 0, s.imgFormat 1 with
  | true, true => if s.imgSeq 1 < s.imgSeq 0 then 1 else 0
  | true, false => 1
  | _, _ => 0

/-- ETH_BEGIN (R517); a length of 0 has no effect (R7). -/
def execEthBegin (len : Word) (s : State) (tag : BitVec 16 := 0) : Out :=
  ok (s.ethGated 4 tag (fun s =>
    if 0x03FFF000 < len.toNat then s.ethSend 0x84 6 []
    else if len = 0 then s.ethSend 0x84 0 []
    else
      let t := s.ethTarget
      let s := s.flashErase (slotBase t) 0x4000000
      ({ s with boot := { s.boot with ethLen := some len.toNat, ethSlot := t } }).ethSend 0x84 0 []))

/-- ETH_WRITE (R517). -/
def execEthWrite (off : Word) (data : List Byte) (s : State) (tag : BitVec 16 := 0) : Out :=
  ok (s.ethGated 5 tag (fun s =>
    if 1024 < data.length ∨ s.boot.ethLen.getD 0 < off.toNat + data.length then s.ethSend 0x85 6 []
    else
      let a := slotBase s.boot.ethSlot + off.toNat
      let s := s.flashProgram a data
      s.ethSend 0x85 (if readBytes erasedByte s.flash a data.length = data then 0 else 7) []))

/-- ETH_FINISH (R454, R459, R517): CONFIRMED and STAGING stay clear, and FAILED is set on the other slot. -/
def execEthFinish (s : State) (tag : BitVec 16 := 0) : Out :=
  ok (s.ethGated 6 tag (fun s =>
    let t := if s.boot.ethLen.isSome then s.boot.ethSlot else s.ethTarget
    let r := s.romCheck t
    if r.2 then (r.1.setMarker (1 - t) mkFAILED).ethSend 0x86 0 [] else r.1.ethSend 0x86 (s.slotCode t) []))

/-- ETH_RESET (R517): the response leaves, then the system reset. -/
def execEthReset (s : State) (tag : BitVec 16 := 0) : Out :=
  ok (s.ethGated 7 tag (fun s =>
    let s := s.ethSend 0x87 0 []
    let t := s.systemReset
    { t with boot := { t.boot with ethOut := s.boot.ethOut, ethSent := s.boot.ethSent, ethTag := s.boot.ethTag } }))

end Sys2Proof.Machine
end

