-- ==== Sys2Proof/Machine/Frames.lean ====
section
/-! DEFINITION. Machine/Frames.lean: what comes about at the fixed cycles of a frame (01, 02, 03): the start of a major
frame, the downstream frames, the consumer cycle, the actuation copy. While the device is held in reset, only its
companions live on. -/

namespace Sys2Proof.Machine

/-! ## The start of a major frame (R35, R36, R38, R72, R76, R148, R352) -/

/-- The grid moves on by one major frame: MFN counts, FAB cycle 0 begins, T stands at the frame's start. -/
def State.frameAdvance (s : State) : State :=
  let s := s.put TBS_MFN_MFN (s.mfn + 1)
  { s with clk := { s.clk with tBase := s.clk.tBase + 1920, cyc := 0 } }

/-- An engine runs in the major frame that starts (R144). -/
def State.runsNow (s : State) (n : Nat) : Bool := s.estate n == esRUNNING || s.estate n == esARMED

/-- Bootstrap rounds that were asked for start (R76). -/
def State.roundsDue (s : State) : State :=
  s.forN 4 (fun n t => if (t.round n).step = .requested then t.arm 0 (.bootRoundStart (Fin.ofNat 4 n)) else t)

/-- In LEADER the frame's start drives a pulse on SYNC_OUT, a wide one where an epoch begins (R45). -/
def State.syncLead (s : State) : State :=
  if s.get TBS_SYNC_CTRL_MODE = 1 then s.drivePulse (s.mfn % 2 == 0) else s

/-- MAJOR_FRAME_START (R36). The counters of R32 are one in this model, so a mismatch only comes as FAULT_DETECT 13. -/
def execMajorFrameStart (s : State) : Out :=
  let s := s.frameAdvance
  if s.inReset then ok s
  else
    let s := s.forN s.nEngines (fun n t => t.digestLatch n)
    let s := s.forN s.nLinks (fun k t => (t.advApply k).remeasStart k)
    ok (s.roundsDue.syncLead.twinFrame s.runsNow)

/-! ## The downstream frames (R55, R62, R107, R340, R361) -/

/-- The copy that waits for link `k` is read; an uncorrectable one is discarded (R34, R361). -/
def State.copyRead (s : State) (k : Nat) : State :=
  match (s.link k).copies with
  | e :: t => if e.good then s else (s.detect 53).modLink k (fun l => { l with copies := t })
  | [] => s

/-- HEARTBEAT_TOGGLE (R340). -/
def State.hbToggle (s : State) : State :=
  s.modTwn (fun t => { t with hbo := s.bit TWN_CTRL_HB_EN && !t.hbo, authDue := true })

/-- DOWNSTREAM_FRAME (R55). `rx` is what ports of companions receive otherwise than as sent (log entry 12). -/
def execDownstreamFrame (s : State) (rx : List CompRx := []) : Out :=
  let s := { s with clk := { s.clk with sentAt := some s.clk.now } }
  if s.inReset then ok (s.forN s.member.links (fun k t => t.compReceive k (received rx k .own []) (received rx k .twin [])))
  else
    let s := s.forN s.nLinks (fun k t => t.copyRead k)
    ok (s.downstream rx).hbToggle.serveFrame

/-! ## The consumer cycle (R23, R81, R283, R289, R302, R311, R345, R351, R392) -/

/-- The links' mailboxes, and the links that brought a frame. -/
def State.mailAll (s : State) : State × List Nat :=
  (List.range s.nLinks).foldl (fun x k =>
    let r := x.1.mailUpdate k
    (r.1, if r.2 then x.2 ++ [k] else x.2)) (s, [])

/-- What a LINK channel records of its link's interval: a frame that failed its CRC as decoded, else the mailbox. -/
def State.waveLink (s : State) (fresh : Nat → Bool) (c : Nat) : State :=
  if s.get (LDG_WCH_SRC c) == 1 then
    let k := s.get (LDG_WCH_LINK c)
    match (s.link k).badFrame with
    | some u => if fresh k then s.waveSample c (s.link k).mb.data false false else s.waveSample c u true false
    | none => s.waveSample c (s.link k).mb.data false (!fresh k)
  else s

/-- The consumers of R23 and those that act with them. -/
def State.consumers (s : State) (fresh : Nat → Bool) : State :=
  let s := s.forN s.nLinks (fun k t => ((t.feedMeasure k (fresh k)).purseDebit k (fresh k)))
  let s := s.forN 8 (fun st t => t.batInterval fresh st)
  let s := s.forN 16 (fun c t => t.waveLink fresh c)
  let s := { s with ldg := { s.ldg with sampledAt := some s.clk.now } }
  s.forN s.nLinks (fun k t => if fresh k then t.echoCheck k else t)

/-- HOLDUP is evaluated; its assertion ends a running rest window (R302, R326). -/
def State.holdupStep (s : State) : State :=
  let was := s.bit MNT_STAT_HOLDUP
  let s := s.holdupEval
  if s.bit MNT_STAT_HOLDUP && !was then s.rotAbort 1 else s

/-- MAILBOX_UPDATE (R81). -/
def execMailboxUpdate (s : State) : Out :=
  if s.inReset then ok s
  else
    let r := s.mailAll
    let fresh := fun k => r.2.contains k
    let s := r.1.consumers fresh
    let s := s.holdupStep.yieldEval fresh
    ok (s.forN s.nLinks (fun k t => if (t.link k).badFrame.isSome then t.modLink k (fun l => { l with badFrame := none }) else t))

/-! ## The actuation copy (R84, R180, R268, R296, R372, R373) -/

/-- The thresholds that TRIP wrote are latched (R180). -/
def State.latchTrip (s : State) (k : Nat) : State :=
  let l := s.link k
  let s := match l.tripFt with
    | some v => s.put (LNK_PROT_IEFF_TRIP_FT k) v.toNat
    | none => s
  s.modLink k (fun l => { l with
    tripFt := none, tripOv := none, tripUv := none, latOv := l.tripOv.getD l.latOv, latUv := l.tripUv.getD l.latUv })

/-- ACTA, ACTB and BGT for the next frame of link `k`; in the safe state BGT repeats its last value (R372). A read of
LNK_ACT gives the register all the same (log entry 30). -/
def State.actFor (s : State) (k : Nat) : ActCopy :=
  let acta := (s.feedForce k).getD (BitVec.ofNat 16 (s.get (LNK_ACT_ACTA k)))
  { acta := acta, actb := BitVec.ofNat 16 (s.get (LNK_ACT_ACTB k))
    bgt := if s.safe then (s.link k).last.bgt else BitVec.ofNat 8 (s.bgtOf k) }

/-- The copy for link `k`; at most two wait (R34). A pending seize may go out from the frame of this cut-off on (R111). -/
def State.copyAct (s : State) (k : Nat) : State :=
  let s := s.latchTrip k
  let e := s.queueEntry 65 k (s.actFor k)
  e.1.modLink k (fun l => { l with seize := l.seize.map (fun z => { z with ready := true }), copies := (l.copies ++ [e.2]).drop ((l.copies.length + 1) - 2) })

/-- ACTUATION_COPY (R84): for the next downstream frame of every link, whether it is going to leave or not. -/
def execActuationCopy (s : State) : Out :=
  if s.inReset then ok s else ok (s.forN s.nLinks (fun k t => t.copyAct k))

end Sys2Proof.Machine
end

