-- ==== Sys2Proof/Machine/TwoWire.lean ====
section
/-! DEFINITION. Machine/TwoWire.lean: the eight two-wire controller ports and the target port (18). A transaction reaches
the model as what the bus answers (`TwbResult`), which takes effect no earlier than the bit clock lets it; what the other
devices do to a port's lines comes the same way; a host's transfer comes with its bytes. -/

namespace Sys2Proof.Machine

/-! ## Controller ports: what goes on the bus (R477, R478, R480, R485) -/

def State.twb (s : State) (p : Nat) : Twb := SMap.get (fun _ => {}) s.twbs p
def State.modTwb (s : State) (p : Nat) (f : Twb → Twb) : State := { s with twbs := SMap.set (fun _ => {}) s.twbs p (f (s.twb p)) }

/-- Fields of a command word. -/
def cmdTYPE (w : Word) : Nat := bitsOf w 27 24
def cmdPLEN (w : Word) : Nat := bitsOf w 17 16
def cmdADDR (w : Word) : Nat := bitsOf w 14 8

/-- Bytes `o .. o + n - 1` of the transmit buffer (R498). -/
def State.txBytes (s : State) (p o n : Nat) : List Byte :=
  (List.range n).map (fun i => byteOf (s.get (TWB_TXBUF_DATA p ((o + i) / 4))) ((o + i) % 4))

/-- A byte on the bus. -/
def busByte (n : Nat) : Byte := BitVec.ofNat 8 n

/-- The pointer `ptr` of PLEN bytes, most significant byte first (R478). -/
def ptrBytes (plen ptr : Nat) : List Byte := (bytesLE ptr plen).reverse

/-- The segments of a split write: pointer, offset in the buffer and number of bytes of each (R485); `fuel` bounds their
number. -/
def segments (n : Nat) (ptr off rem fuel : Nat) : List (Nat × Nat × Nat) :=
  match fuel with
  | 0 => []
  | fuel + 1 =>
    let k := min rem (2 ^ n - ptr % 2 ^ n)
    (ptr, off, k) :: if rem ≤ k then [] else segments n (ptr + k) (off + k) (rem - k) fuel

/-- A write that is split into pages (R485). -/
def State.twbSplit (s : State) (p : Nat) (w : Word) : Bool := cmdTYPE w == 0 && s.get (TWB_PAGE_PAGE_LOG2 p) != 0 && decide (1 ≤ cmdPLEN w)

/-- Its segments. -/
def State.twbSegs (s : State) (p : Nat) (w : Word) : List (Nat × Nat × Nat) :=
  segments (s.get (TWB_PAGE_PAGE_LOG2 p)) (s.get (TWB_PTR_PTR p) % 2 ^ (8 * cmdPLEN w)) 0 (s.get (TWB_LEN_WLEN p)) 257

/-- The command runs as a WRITE (R479). -/
def State.twbType (s : State) (p : Nat) (w : Word) : Nat := if cmdTYPE w = 2 ∧ s.get (TWB_LEN_RLEN p) = 0 then 0 else cmdTYPE w

/-- What the port sends, address bytes included, its PEC apart (R477). -/
def State.twbBytes (s : State) (p : Nat) (w : Word) : List Byte :=
  let aw := busByte (2 * cmdADDR w)
  let ar := busByte (2 * cmdADDR w + 1)
  let wlen := s.get (TWB_LEN_WLEN p)
  let ptr := ptrBytes (cmdPLEN w) (s.get (TWB_PTR_PTR p))
  let data := s.txBytes p 0 wlen
  match s.twbType p w with
  | 0 =>
    if s.twbSplit p w then
      let g := (s.twbSegs p w).getD (s.twb p).seg (0, 0, 0)
      aw :: ptrBytes (cmdPLEN w) (g.1 % 2 ^ (8 * cmdPLEN w)) ++ s.txBytes p g.2.1 g.2.2
    else aw :: ptr ++ data
  | 1 => [ar]
  | 2 => aw :: ptr ++ data ++ [ar]
  | 3 => aw :: ptr ++ busByte wlen :: data
  | 4 => aw :: ptr ++ [ar]
  | 5 => aw :: ptr ++ busByte wlen :: data ++ [ar]
  | 6 => [busByte (2 * cmdADDR w + bitsOf w 28 28)]
  | 7 => [0x19]
  | _ => []

/-- What the port sends, with the PEC that it appends to a write or to each segment of one (R477, R480, R485). -/
def State.twbSends (s : State) (p : Nat) (w : Word) : List Byte :=
  let l := s.twbBytes p w
  if tb w 29 && (s.twbType p w == 0 || s.twbType p w == 3) then l ++ [busByte (crc8 l)] else l

/-- What goes out in the transaction or probe that begins: a probe is A+W (R485). -/
def State.twbOpens (s : State) (p : Nat) (w : Word) : List Byte :=
  if (s.twb p).probes.isSome then [busByte (2 * cmdADDR w)] else s.twbSends p w

/-- Bits of bytes in bus order, each byte with its acknowledge, in which the port leaves SDA to the target. -/
def wireBits (bs : List Byte) : List (Option Bool) := bs.flatMap (fun b => (List.range 8).map (fun i => some (b.getLsbD (7 - i))) ++ [none])

/-- What the port drives on SDA in the bit periods behind the START: `none` where it leaves SDA, or sends a repeated START. -/
def State.twbWire (s : State) (p : Nat) (w : Word) : List (Option Bool) :=
  let l := (s.twb p).out
  let t := s.twbType p w
  if (t == 2 || t == 4 || t == 5) && (s.twb p).probes.isNone then wireBits l.dropLast ++ [none] ++ wireBits (l.drop (l.length - 1)) else wireBits l

/-! ## Lines, the bit clock, a free bus (R475, R476) -/

/-- FAB cycles of a TWB cycle (R30). -/
def twbCycle : Nat := 5

/-- Filtered SCL and SDA as the other devices hold them (R475). -/
def State.scl (s : State) (p : Nat) : Bool := (s.twb p).scl.out
def State.sda (s : State) (p : Nat) : Bool := (s.twb p).sda.out

/-- A TWB cycle of a line begins at FAB cycle `now`: the flops take their levels, and the filter passes one that has stood
for `filt` TWB cycles; each edge lags by `2 + filt` (R475). -/
def TwLine.clock (y : TwLine) (now filt : Nat) : TwLine :=
  let z := { y with ff1 := y.level, ff2 := y.ff1 }
  let passed (b : Bool) : TwLine := { z with out := b, run := 0, at_ := if b = y.out then y.at_ else now }
  if filt = 0 then passed z.ff2
  else if y.ff2 = y.out then { z with run := 0 }
  else if filt ≤ y.run + 1 then passed y.ff2
  else { z with run := y.run + 1 }

/-- A change is on its way through the line. -/
def TwLine.moving (y : TwLine) : Bool := y.level != y.ff1 || y.ff1 != y.ff2 || y.ff2 != y.out || y.run != 0

/-- The balls of port `p` change. -/
def State.twbLines (s : State) (p : Nat) (scl sda : Bool) : State :=
  s.modTwb p (fun x => { x with scl := { x.scl with level := scl }, sda := { x.sda with level := sda } })

/-- TWB_STAT shows the filtered lines; in a HOLD the port itself holds SCL low (R484, R499). -/
def State.twbShow (s : State) (p : Nat) : State :=
  (s.putBit (TWB_STAT_SCL p) (s.scl p && !s.bit (TWB_STAT_HOLD p))).putBit (TWB_STAT_SDA p) (s.sda p)

/-- T_LOW in FAB cycles. -/
def State.tLow (s : State) (p : Nat) : Nat := twbCycle * s.get (TWB_TIMING_T_LOW p)

/-- FAB cycles of a bit period until the filtered SCL is seen high: low for T_LOW, then the rise through synchroniser and
filter (R476). -/
def State.tRise (s : State) (p : Nat) : Nat := s.tLow p + twbCycle * (2 + s.get (TWB_TIMING_FILT p))

/-- Least bit period in FAB cycles (R476). -/
def State.bitPeriod (s : State) (p : Nat) : Nat := s.tRise p + twbCycle * s.get (TWB_TIMING_T_HIGH p)

/-- A command is on the bus: a transaction, a probe or a CLEAR. -/
def Twb.onBus (x : Twb) : Bool := x.cmd.isSome && !x.wait

/-- FAB cycles by which SCL, held low by another device from cycle `low` to now, has stretched the clock: from the first
point at which the port would have seen it high (R476). -/
def State.stretch (s : State) (p low : Nat) : Nat :=
  let first := (s.twb p).begun + s.tRise p
  let seen := if low ≤ first then first else first + (low - first + s.bitPeriod p - 1) / s.bitPeriod p * s.bitPeriod p
  s.clk.now - seen

/-- Byte index on the bus, the address byte at 0, that a command has come to (R482, R483). -/
def State.twbIdx (s : State) (p : Nat) : Nat := ((s.clk.now - (s.twb p).begun) / s.bitPeriod p - 1) / 9

/-- The bus is free: both filtered lines high for T_LOW, and no START since the last STOP. -/
def State.busFree (s : State) (p : Nat) : Bool :=
  !(s.twb p).taken && (match (s.twb p).high with | some h => decide (h + s.tLow p ≤ s.clk.now) | none => false)

/-- A transaction or probe goes on the bus. -/
def State.twbOpen (s : State) (p : Nat) (w : Word) : State :=
  s.modTwb p (fun x => { x with wait := false, begun := s.clk.now, out := s.twbOpens p w })

/-- A transaction or probe that waits begins on a free bus, once its time has come (R476, R485). -/
def State.twbBegin (s : State) (p : Nat) : State :=
  match (s.twb p).cmd with
  | some w =>
    if (s.twb p).wait && s.busFree p && decide ((s.twb p).begun ≤ s.clk.now) then (s.twbOpen p w).disarm (.twbTimeout (Fin.ofNat 8 p) none) else s
  | none => s

/-- The port's STOP leaves a free bus (R476); where SCL is held low, the port owes it (R483). -/
def State.twbStop (s : State) (p : Nat) : State :=
  s.modTwb p (fun x => { x with
    owes := !x.scl.out, taken := x.taken && !x.scl.out
    high := if x.scl.out && x.sda.out then some (s.clk.now - s.tLow p) else none })

/-! ## How a command ends (R477, R479..R484, R497, R499) -/

/-- The command is no longer in progress. -/
def State.twbIdle (s : State) (p : Nat) : State :=
  let s := ((s.putBit (TWB_STAT_BUSY p) false).putBit (TWB_CMD_GO p) false).modTwb p (fun x => { x with
    cmd := none, tries := 0, seg := 0, sent := 0, probes := none, wait := false })
  { s with alarms := s.alarms.filter (fun e => match e.2 with | .twbCmdEnd q _ | .pollProbe q _ => q.val != p | _ => true) }

/-- TWB_ERR, FAIL and its event. -/
def State.twbError (s : State) (p code value : Nat) : State :=
  let s := ((s.put (TWB_ERR_VALUE p) value).hwSet (TWB_ERR_ERRV p)).put (TWB_ERR_CODE p) code
  (s.hwSet (TWB_STAT_FAIL p)).raiseN (328 + p) 0x02 (code + value % 2 ^ 16 * 2 ^ 16)

/-- HOLD clears, and the port lets SCL go (R484). -/
def State.twbUnhold (s : State) (p : Nat) : State :=
  ((s.putBit (TWB_STAT_HOLD p) false).disarm (.twbTimeout (Fin.ofNat 8 p) none)).twbShow p

/-- The command fails: it ends with STOP and clears HOLD. -/
def State.twbFail (s : State) (p code value : Nat) : State :=
  let s := s.twbIdle p
  ((if s.bit (TWB_STAT_HOLD p) then s.twbStop p else s).twbUnhold p).twbError p code value

/-- XFER of a command `w` that fails with `n` bytes behind the address moved: the data among them (R499). -/
def State.twbMoved (s : State) (p : Nat) (w : Word) (n : Nat) : State :=
  let wlen := s.get (TWB_LEN_WLEN p)
  let head := match s.twbType p w with
    | 0 => cmdPLEN w
    | 2 => cmdPLEN w + wlen + 1
    | 3 => cmdPLEN w + 1
    | 4 => cmdPLEN w + 2
    | 5 => cmdPLEN w + wlen + 3
    | _ => 0
  s.put (TWB_STAT_XFER p) ((s.twb p).sent + (n - head))

/-- A failure of which the spec states no VALUE: it is free (log entry 2). -/
def State.twbFailFree (s : State) (p code : Nat) : State := s.drawn.twbFail p code (Config.freeNat s.free % 2 ^ 16)

/-- FAB cycles to the end of the TWB cycle, of five FAB cycles, that lies `d` FAB cycles ahead (R5, R30). -/
def State.twbEnd (s : State) (d : Nat) : Nat := (s.clk.now + d) / 5 * 5 + 4 - s.clk.now

/-- The command ends with DONE; with NOSTOP the port holds SCL low for the next one (R484). -/
def State.twbDone (s : State) (p : Nat) (w : Word) (xfer value : Nat) : State :=
  let hold := tb w 30 && !s.twbSplit p w
  let s := ((s.twbIdle p).put (TWB_STAT_XFER p) xfer).hwSet (TWB_STAT_DONE p)
  let s := s.raiseN (328 + p) 0x01 value
  if hold then
    let s := (s.putBit (TWB_STAT_HOLD p) true).twbShow p
    let t := s.get (TWB_CFG_TMO_MS p)
    if t = 0 then s else s.arm (s.twbEnd (ms t)) (.twbTimeout (Fin.ofNat 8 p) none)
  else s.twbUnhold p

/-- Received data, from byte 0 of the receive buffer on. -/
def State.rxFill (s : State) (p : Nat) (bs : List Byte) : State :=
  s.forN bs.length (fun i t => t.put ⟨TWB_RXBUF p (i / 4), i % 4 * 8 + 7, i % 4 * 8⟩ (bs.getD i 0).toNat)

/-- `n` bytes of what was read; a byte the line gave nobody to send reads as the released line, 0xFF. -/
def readPad (bs : List Byte) (n : Nat) : List Byte := (bs ++ List.replicate (n - bs.length) 0xFF).take n

/-- A read of `n` data bytes behind `pre` bytes already taken ends: the data are kept, and the PEC is checked (R480). -/
def State.twbReadEnd (s : State) (p : Nat) (w : Word) (read : List Byte) (pre n : Nat) : State :=
  let all := readPad read (pre + n + 1)
  let data := (all.drop pre).take n
  let crc := crc8 (s.twbSends p w ++ all.take (pre + n))
  let s := s.rxFill p data
  if tb w 29 && (all.getD (pre + n) 0).toNat != crc then
    ((s.put (TWB_STAT_XFER p) n).hwSet (TWB_STAT_PEC_ERR p)).twbFailFree p 7
  else s.twbDone p w n (if cmdTYPE w = 7 then (data.getD 0 0).toNat else n)

/-- A block read (R479). -/
def State.twbBlock (s : State) (p : Nat) (w : Word) (read : List Byte) : State :=
  let n := ((readPad read 1).getD 0 0).toNat
  let s := s.put (TWB_STAT_BCOUNT p) n
  if s.get (TWB_LEN_RLEN p) < n then s.twbFail p 1 n else s.twbReadEnd p w read 1 n

/-- A segment of a split write is over, its polling included: the next one, or the end (R485). -/
def State.twbNextSeg (s : State) (p : Nat) (w : Word) : State :=
  let x := s.twb p
  let l := s.twbSegs p w
  let sent := x.sent + (l.getD x.seg (0, 0, 0)).2.2
  if x.seg + 1 < l.length then
    (s.modTwb p (fun x => { x with seg := x.seg + 1, sent := sent, probes := none, wait := true, begun := s.clk.now })).twbBegin p
  else s.twbDone p w sent sent

/-- FAB cycles of POLL_US (R485). -/
def State.pollGap (s : State) (p : Nat) : Nat := 250 * s.get (TWB_PAGE_POLL_US p)

/-- The next probe starts POLL_US from now (R485). -/
def State.twbPoll (s : State) (p k : Nat) : State :=
  s.modTwb p (fun x => { x with probes := some k, wait := true, begun := s.clk.now + s.pollGap p })

/-- The transaction went through. -/
def State.twbOk (s : State) (p : Nat) (w : Word) (read : List Byte) : State :=
  let s := s.twbStop p
  let wlen := s.get (TWB_LEN_WLEN p)
  match s.twbType p w with
  | 0 =>
    if s.twbSplit p w then
      if s.get (TWB_PAGE_POLL_N p) = 0 then s.twbNextSeg p w else s.twbPoll p 0
    else s.twbDone p w wlen wlen
  | 1 | 2 => s.twbReadEnd p w read 0 (s.get (TWB_LEN_RLEN p))
  | 3 => s.twbDone p w wlen wlen
  | 4 | 5 => s.twbBlock p w read
  | 6 => s.twbDone p w 0 0
  | 7 => s.twbReadEnd p w read 0 1
  | _ => s

/-- TMO_MS starts on a port whose command waits for the bus, or for SCL (R483, R487). -/
def State.twbGuard (s : State) (p : Nat) : State :=
  let t := s.get (TWB_CFG_TMO_MS p)
  if t = 0 then s else s.arm (s.twbEnd (ms t)) (.twbTimeout (Fin.ofNat 8 p) none)

/-- Arbitration lost, or a bus error: the port releases both lines, and the command starts again from its first byte up to
RETRY times (R482, R487). -/
def State.twbLost (s : State) (p : Nat) (w : Word) (code idx : Nat) : State :=
  let s := s.inc (TWB_CNT_ARB_COUNT p)
  if cmdTYPE w = 8 then (s.put (TWB_STAT_XFER p) 0).twbFail p 5 idx
  else
    let n := (s.twb p).tries
    let s := s.modTwb p (fun x => { x with taken := true })
    if n < s.get (TWB_CFG_RETRY p) then
      (s.modTwb p (fun x => { x with tries := n + 1, seg := 0, sent := 0, probes := none, wait := true, begun := s.clk.now })).twbGuard p
    else (s.twbMoved p w (idx - 1)).twbFail p code idx

/-- Bytes the command reads, of those the bus gives (R477, R479). -/
def State.twbReads (s : State) (p : Nat) (w : Word) (read : List Byte) : Nat :=
  let pec := if tb w 29 then 1 else 0
  match s.twbType p w with
  | 1 | 2 => s.get (TWB_LEN_RLEN p) + pec
  | 4 | 5 => let n := ((readPad read 1).getD 0 0).toNat; if s.get (TWB_LEN_RLEN p) < n then 1 else 1 + n + pec
  | 7 => 1 + pec
  | _ => 0

/-- Bit periods from the START to an answer of the bus: one each for a START, a repeated START and a STOP, nine a byte
(R476, R480, R487). -/
def State.twbBits (s : State) (p : Nat) (w : Word) (r : TwbResult) : Nat :=
  let t := s.twbType p w
  match r with
  | .ok read =>
    2 + (if t = 2 ∨ t = 4 ∨ t = 5 then 1 else 0) + 9 * ((s.twbSends p w).length + s.twbReads p w read)
  | .nackAddr => 11
  | .nackData idx => 2 + 9 * (idx + 2)
  | .arbLost idx | .busError idx => 9 * idx
  | .stuckSda => 1
  | .cleared _ | .lines _ _ => 0

/-- FAB cycles until that answer can be there: none while another device holds SCL low; the START and STOP of a CLEAR take
T_HIGH (R476, R487). -/
def State.twbWait (s : State) (p : Nat) (w : Word) (r : TwbResult) : Nat :=
  let high := match r with | .cleared _ => twbCycle * s.get (TWB_TIMING_T_HIGH p) | _ => 0
  max ((s.twb p).begun + s.twbBits p w r * s.bitPeriod p + high - s.clk.now) (if s.scl p then 0 else twbCycle)

/-- A CLEAR completes after `n` clocks, or fails with SDA still low behind the ninth (R487). -/
def State.twbCleared (s : State) (p n : Nat) : State :=
  ((((s.twbIdle p).twbStop p).put (TWB_STAT_XFER p) 0).hwSet (TWB_STAT_DONE p)).raiseN (328 + p) 0x03 n
def State.twbStuckSda (s : State) (p : Nat) : State := (s.put (TWB_STAT_XFER p) 0).twbFail p 8 9

/-- What an answer of the bus does to the command `w` in progress. -/
def State.twbEnds (s : State) (p : Fin 8) (w : Word) (r : TwbResult) : Out :=
    let clear := cmdTYPE w == 8
    match r with
    | .lines _ _ => ok s
    | .ok read => if (s.twb p).probes.isSome then ok s else ok (s.twbOk p w read)
    | .nackAddr =>
      if clear then ok s
      else ok ((((s.twbMoved p w 0).twbStop p).inc (TWB_CNT_NACK_COUNT p)).twbFail p 2 (if cmdTYPE w = 7 then 0x0C else cmdADDR w))
    | .nackData idx => if clear then ok s else ok ((((s.twbMoved p w idx).twbStop p).inc (TWB_CNT_NACK_COUNT p)).twbFail p 3 idx)
    | .arbLost idx => ok (s.twbLost p w 4 idx)
    | .busError idx => ok (s.twbLost p w 5 idx)
    | .cleared n => if clear && (s.twb p).ends && decide (n = (s.twb p).clocks) then ok (s.twbCleared p n) else ok s
    | .stuckSda => if clear && !(s.twb p).ends && decide ((s.twb p).clocks = 9) && !s.sda p then ok (s.twbStuckSda p) else ok s

/-- TWB_CMD_END (R475..R482, R487): the balls change, or the bus answers the transaction in progress. An answer given early
takes effect when the bit clock is there. -/
def execTwbCmdEnd (p : Fin 8) (r : TwbResult) (s : State) : Out :=
  let s := s.disarm (.twbCmdEnd p r)
  match r, (s.twb p).cmd with
  | .lines scl sda, _ => ok (s.twbLines p scl sda)
  | _, none => ok s
  | r, some w =>
    let d := s.twbWait p w r
    if (s.twb p).wait then ok s
    else if d = 0 then s.twbEnds p w r
    else ok (s.arm d (.twbCmdEnd p r))

/-- SCL has been held low for TMO_MS while a command is on the bus (R483). -/
def State.sclStuck (s : State) (p : Nat) : Bool :=
  (s.twb p).onBus && !s.scl p && decide (max (s.twb p).scl.at_ (s.twb p).begun + ms (s.get (TWB_CFG_TMO_MS p)) ≤ s.clk.now)

/-- TWB_TIMEOUT (R483, R484, R487): SCL held low at byte `idx`, or no free bus; with no command, HOLD expires. The timer
itself gives no byte, which the bit clock then tells. TMO_MS = 0 disables all of them. -/
def execTwbTimeout (p : Fin 8) (idx : Option Nat) (s : State) : Out :=
  let go := s.get (TWB_CFG_TMO_MS p) != 0
  match (s.twb p).cmd with
  | some w =>
    let i := idx.getD (s.twbIdx p)
    let t := s.disarm (.twbTimeout p none)
    if go && s.sclStuck p then
      if cmdTYPE w = 8 ∧ (s.twb p).clocks = 0 ∧ (s.twb p).ends = false then ok ((t.put (TWB_STAT_XFER p) 0).twbFailFree p 9)
      else ok ((((t.twbMoved p w (i - 1)).twbStop p).inc (TWB_CNT_TMO_COUNT p)).twbFail p 6 i)
    else if go && (s.twb p).wait && idx.isNone then ok (((t.twbMoved p w 0).inc (TWB_CNT_TMO_COUNT p)).twbFail p 6 0xFFFF)
    else ok s
  | none => if go && s.bit (TWB_STAT_HOLD p) then ok (s.twbFailFree p 6) else ok s

/-- FAB cycles until the probe in progress, or the next one, is over (R476, R485). -/
def State.probeWait (s : State) (p : Nat) : Nat :=
  let x := s.twb p
  (if x.wait then max x.begun s.clk.now else x.begun) + 11 * s.bitPeriod p - s.clk.now

/-- POLL_PROBE (R485): the next probe after a segment was acknowledged or not. -/
def execPollProbe (p : Fin 8) (ack : Bool) (s : State) : Out :=
  let s := s.disarm (.pollProbe p ack)
  let x := s.twb p
  match x.cmd, x.probes with
  | some w, some k =>
    let d := s.probeWait p
    if d ≠ 0 then ok (s.arm d (.pollProbe p ack))
    else if ack then ok ((s.twbStop p).twbNextSeg p w)
    else if s.get (TWB_PAGE_POLL_N p) ≤ k + 1 then
      ok (((s.put (TWB_STAT_XFER p) (x.sent + ((s.twbSegs p w).getD x.seg (0, 0, 0)).2.2)).twbStop p).twbFail p 10 x.seg)
    else ok ((s.twbStop p).twbPoll p (k + 1))
  | _, _ => ok s

/-! ## What the lines bring about (R475, R476, R482, R483, R487) -/

/-- The phase of the bit clock in which the port has SCL high, behind the START. -/
def State.twbHigh (s : State) (p : Nat) : Bool :=
  let e := s.clk.now - (s.twb p).begun
  decide (s.bitPeriod p ≤ e) && decide (s.tRise p ≤ e % s.bitPeriod p)

/-- A transaction or a probe is on the bus, and its clock is high. -/
def State.twbWatch (s : State) (p : Nat) : Bool :=
  (match (s.twb p).cmd with | some w => cmdTYPE w != 8 | none => false) && (s.twb p).onBus && s.twbHigh p

/-- The filtered lines follow in a TWB cycle: an edge of SDA with SCL high is a START or a STOP, and one that the port did
not generate is a bus error (R482); SCL low on the bus starts TMO_MS, and its rise ends a stretch and brings the STOP that
the port owes (R476, R483). -/
def State.twbSettle (s : State) (p : Nat) : State :=
  let x := s.twb p
  let f := s.get (TWB_TIMING_FILT p)
  let c := x.scl.clock s.clk.now f
  let d := x.sda.clock s.clk.now f
  let rose := !x.scl.out && c.out
  let edge := x.scl.out && c.out && x.sda.out != d.out
  let foreign := edge && s.twbWatch p
  let y := { x with
    scl := c, sda := d
    taken := if edge then !d.out else x.taken && !(rose && x.owes)
    owes := x.owes && !rose
    high := if c.out && d.out then (if x.scl.out && x.sda.out then x.high else some s.clk.now) else none
    begun := if rose && x.onBus then (if x.clocks = 0 && x.cmd.any (fun w => cmdTYPE w == 8) then s.clk.now else x.begun + s.stretch p x.scl.at_) else x.begun }
  let i := s.twbIdx p
  let s := (s.modTwb p (fun _ => y)).twbShow p
  let s := if x.onBus && x.scl.out && !c.out then s.twbGuard p else if x.onBus && rose then s.disarm (.twbTimeout (Fin.ofNat 8 p) none) else s
  match x.cmd with
  | some w => if foreign then (s.twbLost p w 5 i).modTwb p (fun z => { z with taken := y.taken }) else s
  | none => s

/-- At each SCL high, the port compares a 1 that it drives with the filtered SDA (R482). -/
def State.twbCompare (s : State) (p : Nat) : State :=
  match (s.twb p).cmd with
  | some w =>
    let e := s.clk.now - (s.twb p).begun
    if s.twbWatch p && s.scl p && !s.sda p && decide (e % s.bitPeriod p < s.tRise p + twbCycle)
        && (s.twbWire p w).getD (e / s.bitPeriod p - 1) none == some true then s.twbLost p w 4 (s.twbIdx p)
    else s
  | none => s

/-- A CLEAR looks at SDA with SCL high, at first and behind each clock: high, it goes on to its START and STOP; low, it gives
a clock, of which the ninth is the last (R487). -/
def State.twbClear (s : State) (p : Nat) : State :=
  let x := s.twb p
  if x.cmd.any (fun w => cmdTYPE w == 8) && !x.ends && x.scl.out && decide (x.begun + (if x.clocks = 0 then 0 else s.bitPeriod p) ≤ s.clk.now) then
    if x.sda.out then
      let s := s.modTwb p (fun x => { x with ends := true, begun := s.clk.now })
      s.arm (s.twbWait p 0x08000000 (.cleared x.clocks)) (.twbCmdEnd (Fin.ofNat 8 p) (.cleared x.clocks))
    else if x.clocks = 9 then s.twbStuckSda p
    else s.modTwb p (fun x => { x with clocks := x.clocks + 1, begun := s.clk.now })
  else s

/-! ## How a command begins (R477, R479, R486..R488) -/

/-- The port is busy with `w`, which waits for a free bus, or for SCL where it is a CLEAR; behind NOSTOP the bus is the
port's own (R476, R484, R487). -/
def State.twbStart (s : State) (p : Nat) (w : Word) : State :=
  let held := s.bit (TWB_STAT_HOLD p)
  let clear := cmdTYPE w == 8
  let s := (s.putBit (TWB_STAT_BUSY p) true).putBit (TWB_CMD_GO p) true
  let s := (s.twbUnhold p).modTwb p (fun x => { x with
    cmd := some w, tries := 0, seg := 0, sent := 0, probes := none, wait := !held && !clear, begun := s.clk.now, look := none
    clocks := 0, ends := false })
  let s := if held then s.twbOpen p w else s.twbBegin p
  if (s.twb p).wait || !s.scl p then s.twbGuard p else s

/-- The length that refuses a command at GO (R479). -/
def State.twbLength (s : State) (p : Nat) (w : Word) : Option Nat :=
  let wlen := s.get (TWB_LEN_WLEN p)
  let rlen := s.get (TWB_LEN_RLEN p)
  if 256 < wlen ∨ (255 < wlen ∧ (cmdTYPE w = 3 ∨ cmdTYPE w = 5)) then some wlen else if 256 < rlen then some rlen else none

/-- GO of an enabled port (R479, R487). -/
def State.twbGo (s : State) (p : Nat) : State :=
  let w := s.word (TWB_CMD p)
  let wlen := s.get (TWB_LEN_WLEN p)
  let rlen := s.get (TWB_LEN_RLEN p)
  match s.twbLength p w with
  | some n => s.twbFail p 1 n
  | none =>
    if (cmdTYPE w = 1 ∧ rlen = 0) ∨ (s.twbType p w = 0 ∧ cmdPLEN w = 0 ∧ wlen = 0) then
      ((s.put (TWB_STAT_XFER p) 0).hwSet (TWB_STAT_DONE p)).raiseN (328 + p) 0x01 0
    else if cmdTYPE w = 8 ∧ s.get (TWB_CFG_TMO_MS p) = 0 ∧ !s.scl p then s.twbFailFree p 9
    else s.twbStart p w

/-- SDA is stuck low while a write that set EN looks at the lines (R488). -/
def State.twbStuck (s : State) (p : Nat) : Bool := (s.twb p).look.isSome && s.scl p && !s.sda p

/-- A GO is refused with BUSY, of which the spec states no VALUE. -/
def State.twbBusy (s : State) (p : Nat) : State := s.drawn.twbError p 11 (Config.freeNat s.free % 2 ^ 16)

/-- TWB_CMD: a GO while BUSY waits for the end of its TWB cycle, in which BUSY may clear; one before a CLEAR that EN brings
about is refused (R486, R488), and a GO with EN = 0 starts nothing. -/
def State.wTwbCmd (p : Nat) (v : Word) (s : State) : State :=
  if s.bit (TWB_STAT_BUSY p) && tb v 31 then
    if (s.twb p).late.isSome then s.twbBusy p else s.modTwb p (fun x => { x with late := some v })
  else if s.twbStuck p && tb v 31 then s.twbBusy p
  else s.regWrite (TWB_CMD p) v true (fun s => if tb v 31 && s.bit (TWB_CFG_EN p) then s.twbGo p else s)

/-- The registers that BUSY guards (R486); a PAGE_LOG2 of 1 or 2 is reserved (R499). -/
def State.wTwbArg (p a : Nat) (v : Word) (s : State) : State :=
  let n := bitsOf v 3 0
  s.regWrite a v (!s.bit (TWB_STAT_BUSY p) && !(a == TWB_PAGE p && (n == 1 || n == 2))) id

/-- TWB_CFG (R486, R488, R499). -/
def State.wTwbCfg (p : Nat) (v : Word) (s : State) : State :=
  let was := s.bit (TWB_CFG_EN p)
  s.regWrite (TWB_CFG p) v (!s.bit (TWB_STAT_BUSY p)) (fun s =>
    let s := if tb v 2 then ((s.put (TWB_CNT_ARB_COUNT p) 0).put (TWB_CNT_NACK_COUNT p) 0).put (TWB_CNT_TMO_COUNT p) 0 else s
    if !tb v 0 then (s.twbUnhold p).modTwb p (fun x => { x with look := none })
    else if !was && tb v 3 then s.modTwb p (fun x => { x with look := some (s.clk.now + s.tLow p) })
    else s)

/-- The write that set EN looks at the lines after T_LOW (R488). -/
def State.twbLook (s : State) (p : Nat) : State :=
  if (s.twb p).look.any (fun t => t ≤ s.clk.now) then
    let go := s.twbStuck p && !s.bit (TWB_STAT_BUSY p)
    let s := s.modTwb p (fun x => { x with look := none })
    if go then s.twbStart p 0x08000000 else s
  else s

/-- A TWB cycle is over: a GO written in it while BUSY is a new command, or is refused (R486). -/
def State.twbLate (s : State) (p : Nat) : State :=
  match (s.twb p).late with
  | some v =>
    if s.clk.now % 5 = 0 then
      let s := s.modTwb p (fun x => { x with late := none })
      if s.bit (TWB_STAT_BUSY p) then s.twbBusy p else s.wTwbCmd p v
    else s
  | none => s

/-- A port on which time brings something about. -/
def Twb.due (x : Twb) (now : Nat) : Bool :=
  (now % twbCycle == 0 && (x.scl.moving || x.sda.moving || (x.cmd.isSome && !x.sda.out) || x.cmd.any (fun w => cmdTYPE w == 8)))
    || x.wait || x.look.isSome || x.late.isSome

/-- A port in a FAB cycle: a GO that waited; where a TWB cycle begins, its lines and what they bring; a free bus; the look
of R488. -/
def State.twbStep (s : State) (p : Nat) : State :=
  let s := s.twbLate p
  let s := if s.clk.now % twbCycle = 0 then ((s.twbSettle p).twbCompare p).twbClear p else s
  (s.twbBegin p).twbLook p

/-- The two-wire ports in a FAB cycle. -/
def State.twbTick (s : State) : State :=
  if s.twbs.any (fun e => e.2.due s.clk.now) then s.forN 8 (fun p t => t.twbStep p) else s

/-- TWB_ERR: writing ERRV clears all three fields (R499). -/
def State.wTwbErr (p : Nat) (v : Word) (s : State) : State := s.clearErr (TWB_ERR_ERRV p) v

/-- A write of TWB_CMD with GO and one TYPE. -/
def State.twbRow (s : State) (who : Who) (p typ : Nat) (v : Word) : State :=
  let v := setBits (withBit v 31) 27 24 typ
  s.busWrite who (TWB_CMD p) v (State.wTwbCmd p v)

def execTwbWrite (who : Who) (p : Fin 8) (v : Word) (s : State) : Out := ok (s.twbRow who p 0 v)
def execTwbRead (who : Who) (p : Fin 8) (v : Word) (s : State) : Out := ok (s.twbRow who p 1 v)
def execWriteRead (who : Who) (p : Fin 8) (v : Word) (s : State) : Out := ok (s.twbRow who p 2 v)
def execBlockWrite (who : Who) (p : Fin 8) (v : Word) (s : State) : Out := ok (s.twbRow who p 3 v)
def execBlockRead (who : Who) (p : Fin 8) (v : Word) (s : State) : Out := ok (s.twbRow who p 4 v)
def execBlockProc (who : Who) (p : Fin 8) (v : Word) (s : State) : Out := ok (s.twbRow who p 5 v)
def execQuick (who : Who) (p : Fin 8) (v : Word) (s : State) : Out := ok (s.twbRow who p 6 v)
def execAra (who : Who) (p : Fin 8) (v : Word) (s : State) : Out := ok (s.twbRow who p 7 v)
def execClear (who : Who) (p : Fin 8) (v : Word) (s : State) : Out := ok (s.twbRow who p 8 v)

/-- TWB_ENABLE (R488): the write has EN = 1. -/
def execTwbEnable (who : Who) (p : Fin 8) (v : Word) (s : State) : Out :=
  ok (s.busWrite who (TWB_CFG p) (withBit v 0) (State.wTwbCfg p (withBit v 0)))
/-- TWB_CNT_CLR (R499). -/
def execTwbCntClr (who : Who) (p : Fin 8) (v : Word) (s : State) : Out :=
  ok (s.busWrite who (TWB_CFG p) (withBit v 2) (State.wTwbCfg p (withBit v 2)))

/-! ## The target port (R489..R496) -/

/-- Byte `q` of the window (R489). -/
def State.winByte (s : State) (q : Nat) : Byte := byteOf (s.get (TWT_WIN_DATA (q / 4))) (q % 4)

/-- The target port's record of the TWB cycle in progress (R492, R496). -/
def State.twtNow (s : State) : Twt :=
  if s.twt.cycle = s.clk.now / 5 then s.twt
  else { s.twt with cycle := s.clk.now / 5, hostBytes := [], supBytes := [], asked := false, answered := false }

/-- A byte of the window reached from both sides in one TWB cycle keeps the host's (R492). -/
def State.twtCollide (s : State) (l : List Nat) : State := if l.isEmpty then s else s.hwSet TWT_STAT_COLLIDE

/-- TWT_WIN: a register write leaves the bytes that the host has stored in this TWB cycle (R492). -/
def State.wTwtWin (w : Nat) (v : Word) (s : State) : State :=
  let old := s.word (TWT_WIN w)
  let kept := [0, 1, 2, 3].filter (fun j => s.twtNow.hostBytes.contains (4 * w + j))
  let v := kept.foldl (fun x j => setBits x (8 * j + 7) (8 * j) (bitsOf old (8 * j + 7) (8 * j))) v
  let s := (s.setWord (TWT_WIN w) v).twtCollide kept
  { s with twt := { s.twtNow with supBytes := s.twtNow.supBytes ++ [4 * w, 4 * w + 1, 4 * w + 2, 4 * w + 3] } }

/-- A byte of a host write at the pointer: stored, or refused by protection (R490, R491). -/
def State.twtStore (s : State) (b : Byte) : Option State :=
  let q := s.get TWT_STAT_PTR
  if (s.get TWT_WP_WP).testBit (q / 64) then none
  else
    let n := 2 ^ s.get TWT_CFG_TPAGE_LOG2
    let s := s.twtCollide (s.twtNow.supBytes.filter (· == q))
    let s : State := { s with twt := { s.twtNow with hostBytes := s.twtNow.hostBytes ++ [q] } }
    some ((s.put ⟨TWT_WIN (q / 4), q % 4 * 8 + 7, q % 4 * 8⟩ b.toNat).put TWT_STAT_PTR (q / n * n + (q + 1) % n))

/-- The record of the transfer in progress. -/
def State.setHost (s : State) (h : TwtHost) : State := { s with twt := { s.twt with host := some h } }

/-- A byte of a host write: of its pointer, or data; behind a byte that is not acknowledged the port takes no more
(R490, R491). -/
def State.twtTake (s : State) (b : Byte) : State :=
  match s.twt.host with
  | none => s
  | some h =>
    let bad := { h with refused := true }
    if h.refused then s
    else
      match h.hdr with
      | [] => s.setHost { h with hdr := [b] }
      | [hi] =>
        let q := hi.toNat * 256 + b.toNat
        if 512 ≤ q then ((s.hwSet TWT_STAT_RANGE).raiseN 336 0x06 q).setHost bad
        else (s.put TWT_STAT_PTR q).setHost { h with hdr := [hi, b], first := q }
      | _ =>
        match s.twtStore b with
        | none => ((s.hwSet TWT_STAT_WPV).raiseN 336 0x07 (s.get TWT_STAT_PTR)).setHost bad
        | some s' => s'.setHost { h with count := h.count + 1 }

/-- A byte of a host read: the word is copied at a multiple of 4, and the byte comes from the copy (R490, R492). -/
def State.twtSend (s : State) : State :=
  match s.twt.host with
  | none => s
  | some h =>
    let q := s.get TWT_STAT_PTR
    let q' := (q + 1) % 512
    let b := match h.word with | some w => byteOf w.toNat (q % 4) | none => s.winByte q
    let word := if q' % 4 = 0 then some (s.word (TWT_WIN (q' / 4))) else h.word
    let s : State := { s with twt := { s.twt with out := s.twt.out ++ [b], host := some { h with count := h.count + 1, word := word } } }
    s.put TWT_STAT_PTR q'

/-- The transfer in progress ends: by STOP, or by a repeated START (R492, R493). -/
def State.twtClose (s : State) : State :=
  match s.twt.host with
  | none => s
  | some h =>
    let s := ({ s with twt := { s.twt with host := none } }).putBit TWT_STAT_ACTIVE false
    if h.read then s.raiseN 336 0x02 h.count
    else if h.count = 0 then s
    else ((s.put TWT_LAST_FIRST h.first).put TWT_LAST_COUNT h.count).raiseN 336 0x01 (h.first + h.count * 2 ^ 16)

/-- The port is addressed: a transfer begins (R489, R500). -/
def State.twtOpen (s : State) (read : Bool) : State :=
  let q := s.get TWT_STAT_PTR
  let word := if read && q % 4 == 0 then some (s.word (TWT_WIN (q / 4))) else none
  (s.setHost { read := read, since := s.clk.now, word := word }).putBit TWT_STAT_ACTIVE true

/-- The part of a transfer that `move` brings: a START ends the transfer in progress, and TWT answers no address but its own
(R489, R493). -/
def State.twtPart (s : State) (read : Bool) (addr : BitVec 7) (part : TwtPart) (start move : State → State) : State :=
  let begins := part == .whole || part == .first
  let s := if begins then s.twtClose else s
  let s := if begins && addr.toNat == s.get TWT_CFG_TADDR then (start s).twtOpen read else s
  if s.twt.host.any (fun h => h.read == read) then
    let s := move s
    if part == .whole || part == .last then s.twtClose else s
  else s

/-- The bytes of a host write. -/
def State.twtTakes (s : State) (bytes : List Byte) : State := bytes.foldl State.twtTake s

/-- TWT_WRITE (R489..R493): bytes of a host write behind its address. -/
def execTwtWrite (bytes : List Byte) (s : State) (addr : BitVec 7 := 0x10) (part : TwtPart := .whole) : Out :=
  if s.bit TWT_CFG_EN then ok (s.twtPart false addr part id (·.twtTakes bytes)) else ok s

/-- TWT_READ (R489..R493): `ptr` is what the host wrote before the repeated START, and `n` bytes are read. -/
def execTwtRead (ptr : List Byte) (n : Nat) (s : State) (addr : BitVec 7 := 0x10) (part : TwtPart := .whole) : Out :=
  if s.bit TWT_CFG_EN then
    let start (s : State) : State :=
      let s := if ptr.isEmpty then s else ((s.twtOpen false).twtTakes ptr).twtClose
      { s with twt := { s.twt with out := [] } }
    ok (s.twtPart true addr part start (fun s => s.forN n (fun _ t => t.twtSend)))
  else ok s

/-- FAB cycle from which a low line of the target port has counted against TTMO_MS (R494). -/
def Twt.lowFrom (x : Twt) : Option Nat :=
  x.host.bind (fun h =>
    if x.scl.out then (if x.sda.out then none else some (max h.since x.sda.at_))
    else if x.sda.out then some (max h.since x.scl.at_) else some (max h.since (min x.scl.at_ x.sda.at_)))

/-- TTMO_MS runs while the port is addressed and a line is low, and stops otherwise (R494). -/
def State.twtGuard (s : State) : State :=
  let t := s.get TWT_CFG_TTMO_MS
  match s.twt.lowFrom with
  | some c => if t = 0 then s else s.arm (s.twbEnd (c + ms t - s.clk.now)) (.twtTimeout none)
  | none => s.disarm (.twtTimeout none)

/-- Glitch filter of TWT, which has no FILT field: the default of 3 TWB cycles (R475, log entry 54). -/
def twtFilt : Nat := 3

/-- The lines of the target port follow in a TWB cycle (R475, R494). -/
def State.twtTick (s : State) : State :=
  if s.clk.now % twbCycle = 0 && (s.twt.scl.moving || s.twt.sda.moving || s.twt.lowFrom.isSome || s.armed (.twtTimeout none)) then
    let s : State := { s with twt := { s.twt with scl := s.twt.scl.clock s.clk.now twtFilt, sda := s.twt.sda.clock s.clk.now twtFilt } }
    s.twtGuard
  else s

/-- TWT_TIMEOUT (R494): a line has been low for TTMO_MS while TWT is addressed; the transfer is dropped, and the bytes
already acknowledged stand. With `lines`, the other devices let the balls take these levels. -/
def execTwtTimeout (s : State) (lines : Option (Bool × Bool) := none) : Out :=
  match lines with
  | some l => ok { s with twt := { s.twt with scl := { s.twt.scl with level := l.1 }, sda := { s.twt.sda with level := l.2 } } }
  | none =>
    let due := s.twt.lowFrom.any (fun c => c + ms (s.get TWT_CFG_TTMO_MS) ≤ s.clk.now)
    if s.bit TWT_CFG_EN && s.get TWT_CFG_TTMO_MS != 0 && due then
      let s := { s with twt := { s.twt with host := none } }.disarm (.twtTimeout none)
      ok (((s.putBit TWT_STAT_ACTIVE false).hwSet TWT_STAT_TMO).raiseN 336 0x05 (s.get TWT_STAT_PTR))
    else ok s

/-- A new request is pending: it clears LOST, DONE and TMO, and its time starts (R496); a DONE of the same TWB cycle stays
(R20). -/
def State.attnAsk (s : State) : State :=
  let s := ((s.putBit TWT_ATTN_REQ true).put TWT_ATTN_LOST 0).putBit TWT_ATTN_DONE s.twtNow.answered
  let s : State := { s.putBit TWT_ATTN_TMO false with twt := { s.twt with tmoRaised := false } }
  if s.get TWT_ATTN_ATTN_MS = 0 then s.disarm .attnTmo else s.arm (s.twbEnd (ms (s.get TWT_ATTN_ATTN_MS))) .attnTmo

/-- The request is completed (R495); a REQ written in this TWB cycle is a new one (R20, R496). -/
def State.attnDone (s : State) : State :=
  let lost := s.get TWT_ATTN_LOST
  let s : State := { s with twt := { s.twtNow with out := [busByte (2 * s.get TWT_CFG_TADDR)], answered := true } }
  let s := (((s.putBit TWT_ATTN_REQ false).hwSet TWT_ATTN_DONE).disarm .attnTmo).raiseN 336 0x03 lost
  if s.twt.asked then s.attnAsk else s

/-- TWT_ARA (R495): a host reads 0x0C. -/
def execTwtAra (won : Bool) (s : State) : Out :=
  if s.bit TWT_CFG_EN && s.bit TWT_CFG_ARA_EN && s.bit TWT_ATTN_REQ then
    if won then ok s.attnDone else ok (s.inc TWT_ATTN_LOST)
  else ok s

/-- TWT_ATTN (R495, R496): a REQ is accepted while no request is pending. -/
def State.wTwtAttn (v : Word) (s : State) : State :=
  s.regWrite TWT_ATTN v true (fun s =>
    if tb v 31 then
      let s : State := { s with twt := { s.twtNow with asked := true } }
      if s.bit TWT_ATTN_REQ then s else s.attnAsk
    else s)

/-- TWT_CFG (R500). -/
def State.wTwtCfg (v : Word) (s : State) : State := s.regWrite TWT_CFG v (!s.bit TWT_STAT_ACTIVE) id

/-- ATTN_REQ (R495). -/
def execAttnReq (who : Who) (v : Word) (s : State) : Out := ok (s.busWrite who TWT_ATTN (withBit v 31) (State.wTwtAttn (withBit v 31)))

/-- ATTN_TMO (R496): raised once for a request. -/
def execAttnTmo (s : State) : Out :=
  let s := s.disarm .attnTmo
  if s.bit TWT_ATTN_REQ && !s.twt.tmoRaised && s.get TWT_ATTN_ATTN_MS != 0 then
    let s : State := { s.hwSet TWT_ATTN_TMO with twt := { s.twt with tmoRaised := true } }
    ok (s.raiseN 336 0x04 (s.get TWT_ATTN_ATTN_MS))
  else ok s

end Sys2Proof.Machine
end

