-- ==== Sys2Proof/Machine/Bus.lean ====
section
/-! DEFINITION. Machine/Bus.lean: the register interface as a whole (00, 15): which operation a word write at an address
is, what a word read at an address answers, the linked counters, and the entry of events, with which waiting audited
writes complete. -/

namespace Sys2Proof.Machine

/-- Index of `a` in a family of registers at `base` with a stride, 0 for one that lies off the family's grid. -/
def famIx (base stride a : Nat) : Nat := (a - base) / stride
/-- `a` is a register of the family of `n` registers at `base`. -/
def inFam (base stride n a : Nat) : Bool := decide (base ≤ a) && decide (a < base + stride * n) && decide ((a - base) % stride = 0)

/-! ## Word writes, block by block (R10, R11, R19) -/

/-- A register whose write has no operation of its own. -/
def State.wPlain (a : Nat) (v : Word) (s : State) : State := s.regWrite a v true id

/-- SYS (R472). -/
def State.wSys (a : Nat) (v : Word) (s : State) : State := if a = SYS_RST_CTRL then s.wRstCtrl v else s.wPlain a v

/-- RGT (R415, R417, R422); the gates of its own registers stand in `State.writeWord`. -/
def State.wRgt (a : Nat) (v : Word) (s : State) : State :=
  if inFam (RGT_PERM 0) 4 256 a then s.wPerm (famIx (RGT_PERM 0) 4 a) v
  else if a = RGT_SEAL then s.wSeal v
  else if a = RGT_ROLE_SUP then s.wRole false v
  else if a = RGT_ROLE_DBG then s.wRole true v
  else s.wPlain a v

/-- EVR (R407). -/
def State.wEvr (a : Nat) (v : Word) (s : State) : State := if a = EVR_SWEV then s.wEvrSwev v else s.wPlain a v

/-- FCU (R378). -/
def State.wFcu (a : Nat) (v : Word) (s : State) : State :=
  if a = FCU_CTRL then s.wFcuCtrl v
  else if a = FCU_SAFE then s.wFcuSafe v
  else if a = FCU_WDOG then s.wFcuWdog v
  else if inFam (FCU_FLAG 0) 4 6 a then s.wFcuFlag (famIx (FCU_FLAG 0) 4 a) v
  else if inFam (FCU_SCFG 0) 4 192 a then s.wFcuScfg (famIx (FCU_SCFG 0) 4 a) v
  else if inFam (FCU_INJ 0) 4 78 a then s.wFcuInj (famIx (FCU_INJ 0) 4 a) v
  else s.wFcuReg a v

/-- TBS (R40..R49). -/
def State.wTbs (a : Nat) (v : Word) (s : State) : State :=
  if a = TBS_CTRL then s.wTbsCtrl v
  else if a = TBS_LOAD_LO ∨ a = TBS_LOAD_HI then s.wTbsLoad a v
  else if a = TBS_MFOFS then s.wTbsMfofs v
  else if a = TBS_SYNC_CTRL then s.wTbsSync v
  else s.wPlain a v

/-- TMR (R501..R509). -/
def State.wTmr (a : Nat) (v : Word) (s : State) : State :=
  let i := famIx (TMR_CTRL 0) 0x40 a
  if 24 ≤ i then s
  else if a = TMR_CTRL i then s.wTmrCtrl i v
  else if a = TMR_CNT i then s.wTmrCnt i v
  else if a = TMR_PER i then s.wTmrPer i v
  else if a = TMR_CMP i then s.wTmrCmp i v
  else if a = TMR_STAT i then s.wTmrStat i v
  else s.wPlain a v

/-- HKA, GPIO, ETH and XSP (R511..R528). -/
def State.wPeriph (a : Nat) (v : Word) (s : State) : State :=
  if a = HKA_CTRL then s.wHkaCtrl v
  else if inFam (GPIO_CFG 0) 4 24 a then s.wGpioCfg (famIx (GPIO_CFG 0) 4 a) v
  else if a = GPIO_SET then s.wGpioSet v
  else if a = GPIO_CLR then s.wGpioClr v
  else if a = ETH_TXKICK then s.wEthKick
  else if a = ETH_TXRING ∨ a = ETH_RXRING then s.wEthRing a v
  else if a = ETH_MDIO then s.wEthMdio v
  else if a = XSP_CTRL then s.wXspCtrl v
  else if a = XSP_ERR then s.wXspErr v
  else if a = XSP_ICMD then s.wXspIcmd v
  else if a = XSP_IADDR ∨ a = XSP_ILEN ∨ inFam (XSP_IBUF 0) 4 64 a then s.wXspArg a v
  else s.wPlain a v

/-- The two-wire ports (R497..R500). -/
def State.wTw (a : Nat) (v : Word) (s : State) : State :=
  let p := famIx (TWB_CFG 0) 0x1000 a
  if p < 8 then
    if a = TWB_CFG p then s.wTwbCfg p v
    else if a = TWB_CMD p then s.wTwbCmd p v
    else if a = TWB_ERR p then s.wTwbErr p v
    else if a = TWB_TIMING p ∨ a = TWB_PTR p ∨ a = TWB_LEN p ∨ a = TWB_PAGE p ∨ inFam (TWB_TXBUF p 0) 4 64 a then s.wTwbArg p a v
    else s.wPlain a v
  else if a = TWT_CFG then s.wTwtCfg v
  else if a = TWT_ATTN then s.wTwtAttn v
  else if inFam (TWT_WIN 0) 4 128 a then s.wTwtWin (famIx (TWT_WIN 0) 4 a) v
  else s.wPlain a v

/-- VLT (R443). -/
def State.wVlt (a : Nat) (v : Word) (s : State) : State :=
  if a = VLT_CTRL then s.wVltCtrl v
  else if a = VLT_PKEY then s.wVltPkey v
  else if a = VLT_SHDAT then s.wVltShdat v
  else if a = VLT_OVR then s.wVltOvr v
  else if a = VLT_ERR then s.wErr a v
  else if inFam VLT_WIN 4 512 a then s.access a
  else s.wPlain a v

/-- TWN (R358). -/
def State.wTwn (a : Nat) (v : Word) (s : State) : State :=
  if a = TWN_CTRL then s.wTwnCtrl v
  else if a = TWN_CFG then s.wTwnCfg v
  else if a = TWN_CSEED then s.wTwnCseed v
  else if a = TWN_FWD_TX then s.wFwdTx v
  else if a = TWN_XFER_CTRL then s.wXferCtrl v
  else s.wPlain a v

/-- MNT (R310). -/
def State.wMnt (a : Nat) (v : Word) (s : State) : State :=
  if a = MNT_APPLY then s.wMntApply v else if a = MNT_APPLY_MFN then s.wMntApplyMfn v else s.wMntReg a v

/-- BAT (R335). -/
def State.wBat (a : Nat) (v : Word) (s : State) : State :=
  if a = BAT_APPLY then s.wBatApply v else if a = BAT_APPLY_MFN then s.wBatApplyMfn v else s.wBatReg a v

/-- LDG (R396). -/
def State.wLdg (a : Nat) (v : Word) (s : State) : State :=
  if a = LDG_CTRL then s.wLdgCtrl v
  else if a = LDG_ERR then s.wLdgErr v
  else if a = LDG_RD_CTRL then s.wLdgRdCtrl v
  else if inFam (LDG_WCH 0) 4 16 a then s.wLdgWch (famIx (LDG_WCH 0) 4 a) v
  else if a = LDG_SEQ_BASE ∨ a = LDG_AUTH_WPTR ∨ inFam LDG_MR_OWN 4 4 a then s.wLdgRegion a v
  else s.wPlain a v

/-- The first pages of blocks 0..16, and their further pages (R400). -/
def State.wBlocks (a : Nat) (v : Word) (s : State) : State :=
  match (a - 0x40000000) / 0x10000 with
  | 0 => s.wSys a v
  | 1 => s.wRgt a v
  | 2 => s.wEvr a v
  | 3 => s.wFcu a v
  | 4 => s.wTbs a v
  | 5 => s.wTmr a v
  | 8 => s.wTw a v
  | 11 => s.wVlt a v
  | 12 => s.wTwn a v
  | 13 => s.wMnt a v
  | 14 => s.wBat a v
  | 15 => if a = FRA_CTRL then s.wFraCtrl v else s.wFraReg a v
  | 16 => s.wLdg a v
  | _ => s.wPeriph a v

/-- A link's page, and the links' global page (R87, R97, R98, R119). -/
def State.wLnk (a : Nat) (v : Word) (s : State) : State :=
  let k := famIx (LNK_CTRL 0) 0x400 a
  if k < 96 then
    if a = LNK_CTRL k then s.wLnkCtrl k v
    else if a = LNK_ERR k then s.wErr a v
    else if a = LNK_CMD k then s.wLnkCmd k v
    else if a = LNK_ACT k then s.wLnkAct k v
    else s.wPlain a v
  else if a = LNK_BGO then s.wLnkBgo v
  else if a = LNK_BERR then s.wErr a v
  else if inFam (LNK_RESEIZE 0) 4 3 a then s.wReseize (famIx (LNK_RESEIZE 0) 4 a) v
  else s.wPlain a v

/-- A feed's page, and the feeds' global page (R286, R287). -/
def State.wFsm (a : Nat) (v : Word) (s : State) : State :=
  let k := famIx (FSM_CTRL 0) 0x100 a
  if a = FSM_GCTRL then s.wFsmGctrl v
  else if a = FSM_CTRL k then s.wFsmCtrl k v
  else if a = FSM_CFG k then s.wFsmCfg k v
  else if a = FSM_INWIN k then s.wFsmInwin k v
  else s.wPlain a v

/-- An engine's windows (R146, R147, R196) and its control page (R149, R212, R232). -/
def State.wTel (a : Nat) (v : Word) (s : State) : State :=
  let n := famIx 0x50000000 0x100000 a
  let o := (a - 0x50000000) % 0x100000
  if o < 0x10000 then (if o / 4 % 4 = 3 then s.commitBundle n (o / 16) v else s.stageWord n (o / 4 % 4) v)
  else if o < 0x12000 then s.supStore n false ((o - 0x10000) / 4) v
  else if o < 0x14000 then s.supStore n true ((o - 0x12000) / 4) v
  else if o < 0x17000 then s.bankStore n (o - 0x14000) v
  else if a = TEL_CTRL n then s.wTelCtrl n v
  else if a = TEL_SCH_ENSET n then s.wEnReq n true v
  else if a = TEL_SCH_ENCLR n then s.wEnReq n false v
  else if inFam (TEL_CPROT n 0) 4 16 a then s.wCprot n (famIx (TEL_CPROT n 0) 4 a) v
  else if a = TEL_CUPD_CTRL n then s.wCupdCtrl n v
  else if a = TEL_CUPD_MFN n ∨ inFam (TEL_CUPD_BUF n 0) 4 16 a then s.wCupdReg n a v
  else s.wPlain a v

/-- The operation of a word write at address `a`, once it has passed every check before the register. -/
def State.wReg (a : Nat) (v : Word) (s : State) : State :=
  if a < 0x18000000 then s.tcmStore false (a - 0x10000000) (bytesLE v.toNat 4)
  else if a < 0x40000000 then s.tcmStore true (a - 0x18000000) (bytesLE v.toNat 4)
  else if a < 0x41000000 then s.wBlocks a v
  else if a < 0x42000000 then s.wLnk a v
  else if a < 0x48000000 then s.wFsm a v
  else if a < 0x50000000 then s.raiseN 366 0x07 (a - 0x48000000)
  else if a < 0x51000000 then s.wTel a v
  else if a = SCH_CTRL then s.wSchCtrl v
  else if a = SCH_ERR then s.wSchErr v
  else s.wPlain a v

/-- A word write of any requester at any address: the RGT registers with gates of their own first (R416, R417), then the
general way. A misaligned one of the cores is an exception (R397). -/
def State.writeWord (s : State) (who : Who) (a : Nat) (v : Word) : State :=
  if a % 4 ≠ 0 then s.misaligned who
  else if inFam (RGT_PERM 0) 4 256 a && !(bootIssued who && !s.bit RGT_STAT_SEALED) then s.throughQueue who (fun s => s.deny who a true 4)
  else if a = RGT_SEAL ∧ !bootIssued who then s.throughQueue who (fun s => s.deny who a true 4)
  else if a = RGT_ROLE_SUP ∨ a = RGT_ROLE_DBG then
    s.throughQueue who (fun s => if bootIssued who then s.roleWrite who (a == RGT_ROLE_DBG) v else s.deny who a true 4)
  else s.busWrite who a v (State.wReg a v)

/-! ## The linked counters (R12..R15, R40, R283, R312, R399, R507) -/

/-- The path of a requester (R13). -/
def pathOf (who : Who) : Who := match who with | .sup _ => .sup false | w => w

/-- The low channel of a chained pair. -/
def pairLow (i : Nat) : Nat := i / 2 * 2
/-- A pair of timer channels is chained (R507). -/
def State.chained (s : State) (i : Nat) : Bool := s.get (TMR_CTRL_SMODE (pairLow i + 1)) == 1

/-- Addresses of the two words; the CSRs have none. -/
def Linked.addrs (c : Linked) : Option (Nat × Nat) :=
  match c with
  | .time => some (TBS_TIME_LO, TBS_TIME_HI)
  | .csrTime => none
  | .energy k => some (FSM_ENERGY_LO k, FSM_ENERGY_HI k)
  | .tally st => some (BAT_TALLY_LO st, BAT_TALLY_HI st)
  | .timer i => some (TMR_CNT (pairLow i), TMR_CNT (pairLow i + 1))

/-- The counter's words now: low, high. -/
def State.linkedWords (s : State) (c : Linked) : Word × Word :=
  match Linked.addrs c with
  | some (lo, hi) => if c = .time then (s.T.extractLsb' 0 32, s.T.extractLsb' 32 32) else (s.word lo, s.word hi)
  | none => (s.T.extractLsb' 0 32, s.T.extractLsb' 32 32)

/-- The counter's TORN bit. -/
def tornOf (c : Linked) : Fld :=
  match c with
  | .time | .csrTime => TBS_STATUS_TORN
  | .energy k => FSM_MSTAT_TORN k
  | .tally st => BAT_SFLAG_TORN st
  | .timer i => TMR_STAT_TORN (pairLow i + 1)

/-- The high word held for a path. -/
def State.held (s : State) (who : Who) (c : Linked) : Option Word := (s.bus.hold.find? (fun e => e.1 = (pathOf who, c))).map (·.2)
/-- Holds a high word for a path, or nothing. -/
def State.setHeld (s : State) (who : Who) (c : Linked) (h : Option Word) : State :=
  { s with bus := { s.bus with hold := s.bus.hold.filter (fun e => e.1 ≠ (pathOf who, c)) ++ (match h with | some w => [((pathOf who, c), w)] | none => []) } }

/-- A pair of timer channels that is not chained is no linked counter: its words read as they are. -/
def State.isLinked (s : State) (c : Linked) : Bool := match c with | .timer i => s.chained i | _ => true

/-- The same counter whichever of its two channels names it. -/
def Linked.norm (c : Linked) : Linked := match c with | .timer i => .timer (Fin.ofNat 24 (pairLow i)) | c => c

/-- Whether a path reaches a linked counter: no Teller reaches a Tally (R312), and the paths of a timer pair are those of the
supervisor and the debug port (R507). -/
def linkedPath (who : Who) (c : Linked) : Bool := match who, c with | .eng _, .tally _ => false | .eng _, .timer _ => false | _, _ => true

/-- The low word is read (R12, R15). -/
def State.lowRead (s : State) (who : Who) (c : Linked) : State :=
  if !linkedPath who c then s else
  let w := s.linkedWords c
  let s := if s.isLinked c then s.setHeld who c (some w.2) else s
  s.answer who w.1 false

/-- The high word is read (R12, R14). -/
def State.highRead (s : State) (who : Who) (c : Linked) : State :=
  if !linkedPath who c then s else
  let w := s.linkedWords c
  if s.isLinked c then
    match s.held who c with
    | some h => (s.setHeld who c none).answer who h false
    | none => (s.hwSet (tornOf c)).answer who w.2 false
  else s.answer who w.2 false

/-- LINKED_LOW_READ (R12). -/
def execLinkedLowRead (who : Who) (c : Linked) (s : State) : Out :=
  let c := Linked.norm c
  match Linked.addrs c with
  | some (lo, _) => ok (s.busRead who lo (fun s => s.lowRead who c))
  | none => ok (if s.issues who then s.lowRead who c else s)

/-- LINKED_HIGH_READ (R14). -/
def execLinkedHighRead (who : Who) (c : Linked) (s : State) : Out :=
  let c := Linked.norm c
  match Linked.addrs c with
  | some (_, hi) => ok (s.busRead who hi (fun s => s.highRead who c))
  | none => ok (if s.issues who then s.highRead who c else s)

/-! ## Word reads (R19) -/

/-- Registers whose word shows the moment: what they read, none for one that reads what `regs` holds. -/
def State.viewOf (s : State) (who : Who) (a : Nat) : Option Word :=
  let k := famIx (LNK_CTRL 0) 0x400 a
  let f := famIx (FSM_CTRL 0) 0x100 a
  let n := famIx 0x50000000 0x100000 a
  let onoff := fun (b : Bool) (h : Nat) => setBits (s.word a) h h (if b then 1 else 0)
  if inFam (RGT_PERM 0) 4 256 a then some (s.permWord (famIx (RGT_PERM 0) 4 a))
  else if a = RGT_STAT then some (onoff (bootIssued who) 1)
  else if a = FCU_STAT then some s.fcuStat
  else if a = VLT_SHDAT then some (vget s.vlt.shadow (s.get VLT_SHADR_ADDR))
  else if inFam (FCU_SCFG 0) 4 192 a && s.srcAbsent (famIx (FCU_SCFG 0) 4 a) then some (onoff false 0)
  else if a = MNT_STAT then some (onoff s.mintPend 5)
  else if a = MNT_HU_TIME then some (BitVec.ofNat 32 s.huTime)
  else if inFam (LNK_CMD_STAT 0) 0x400 96 a then some (onoff (s.busy k) 0)
  else if inFam (LNK_PROT_IEFF 0) 0x400 96 a then some (setBits (s.word a) 14 0 (s.ftEff k))
  else if inFam (LNK_PROT_VEFF 0) 0x400 96 a then some (setBits (setBits (s.word a) 14 0 (s.ovEff k)) 30 16 (s.uvEff k))
  else if inFam (FSM_STATUS 0) 0x100 96 a then some (setBits (s.word a) 21 21 (if s.bit FSM_GSTAT_ACTIVE && decide (f < 96) then 1 else 0))
  else if inFam (TEL_STATUS 0) 0x100000 16 a then
    (match s.running n with
     | some t => some (setBits (onoff true 6) 27 16 (s.bundleAt t))
     | none => some (setBits (onoff false 6) 27 16 0))
  else none

/-- The linked counter whose low (`false`) or high word stands at `a`. -/
def linkedAt (a : Nat) : Option (Linked × Bool) :=
  if a = TBS_TIME_LO then some (.time, false)
  else if a = TBS_TIME_HI then some (.time, true)
  else if inFam (FSM_ENERGY_LO 0) 0x100 96 a then some (.energy (Fin.ofNat 96 (famIx (FSM_ENERGY_LO 0) 0x100 a)), false)
  else if inFam (FSM_ENERGY_HI 0) 0x100 96 a then some (.energy (Fin.ofNat 96 (famIx (FSM_ENERGY_HI 0) 0x100 a)), true)
  else if inFam (BAT_TALLY_LO 0) 0x40 8 a then some (.tally (Fin.ofNat 8 (famIx (BAT_TALLY_LO 0) 0x40 a)), false)
  else if inFam (BAT_TALLY_HI 0) 0x40 8 a then some (.tally (Fin.ofNat 8 (famIx (BAT_TALLY_HI 0) 0x40 a)), true)
  else if inFam (TMR_CNT 0) 0x80 12 a then some (.timer (Fin.ofNat 24 (2 * famIx (TMR_CNT 0) 0x80 a)), false)
  else if inFam (TMR_CNT 1) 0x80 12 a then some (.timer (Fin.ofNat 24 (2 * famIx (TMR_CNT 1) 0x80 a)), true)
  else none

/-- A read of a register page: the reads that act, the linked counters, the views, else the word. -/
def State.rReg (s : State) (who : Who) (a : Nat) : State :=
  if a / 0x1000 = FCU_CTRL / 0x1000 && !s.fcu.checked then s.drawn.answer who (BitVec.ofNat 32 (Config.freeNat s.free)) false
  else if a = EVR_CLAIM then s.rEvrClaim who
  else if a = RGT_CHAL 0 then s.rChal who
  else if inFam (TMR_CAP 0) 0x40 24 a then s.rTmrCap who (famIx (TMR_CAP 0) 0x40 a)
  else if inFam (HKA_RES 0) 4 16 a then s.rHkaRes who (famIx (HKA_RES 0) 4 a)
  else if inFam VLT_WIN 4 512 a then s.vltWindow who (famIx VLT_WIN 4 a)
  else
    match linkedAt a with
    | some (c, false) => s.lowRead who c
    | some (c, true) => s.highRead who c
    | none => s.answer who ((s.viewOf who a).getD (s.word a)) false

/-- The answer of a word read at address `a` that has passed every check. What the boot ROM holds is not given: free. -/
def State.rWord (s : State) (who : Who) (a : Nat) : State :=
  if a < 0x10000000 then s.drawn.answer who (BitVec.ofNat 32 (Config.freeNat s.free)) false
  else if a < 0x18000000 then s.tcmRead who false (a - 0x10000000)
  else if a < 0x20000000 then s.tcmRead who true (a - 0x18000000)
  else if a < 0x40000000 then State.winRead who a s
  else if a < 0x48000000 then s.rReg who a
  else if a < 0x50000000 then s.ledgerRead who a
  else if a < 0x51000000 then (if (a - 0x50000000) % 0x100000 < 0x17000 then s.engRead who a else s.rReg who a)
  else if a < 0x60000000 then s.rReg who a
  else s.answer who (s.mbField ((a - 0x60000000) / 0x80) (a % 0x80 / 4)) false

/-- A word read of any requester at any address. -/
def State.readWord (s : State) (who : Who) (a : Nat) : State :=
  let a := a / 4 * 4
  s.busRead who a (fun s => s.rWord who a)

/-! ## The commands -/

/-- REGISTER_WRITE (R10, R11, R19, R383, R414). -/
def execRegisterWrite (who : Who) (a : Nat) (v : Word) (s : State) : Out := ok (s.writeWord who a v)

/-- ABSENT_WRITE (R2): a write on the page of a resource that the member lacks. -/
def execAbsentWrite (who : Who) (a : Nat) (v : Word) (s : State) : Out := ok (s.writeWord who a v)

/-- AUDITED_WRITE (R383): a write that calls for an AUDIT record. -/
def execAuditedWrite (who : Who) (a : Nat) (v : Word) (s : State) : Out := ok (s.writeWord who a v)

/-- An access outside the map, a write to a read-only range, or a narrow access to a checked range other than the xSPI
window (R401). -/
def unmappedAccess (a : Nat) (wr : Bool) (width : Nat) : Bool :=
  match regionOf a with
  | .none => true
  | .checked e => (wr && !(Region.checked e).writable) || (decide (width < 4) && e != 195)
  | r => wr && !r.writable

/-- UNMAPPED_ACCESS (R401). A read that the map does take is answered as a read; a write that it takes is REGISTER_WRITE,
which names its value. -/
def execUnmappedAccess (who : Who) (a : Nat) (wr : Bool) (width : Nat) (s : State) : Out :=
  if unmappedAccess a wr width then
    ok (s.issued who a (fun s => s.unmapped who a))
  else if width ≠ 0 ∧ a % width ≠ 0 then ok (s.misaligned who)
  else if wr then ok s
  else ok (s.readWord who a)

/-! ## The entry of events (R50, R383) -/

/-- The oldest waiting write whose requester's queue has room for its record. -/
def State.waitReady (s : State) : Option (Ev × Who × Nat × Word) := s.bus.waiting.find? (fun w => !s.auditFull w.2.1)

/-- Whether a waiting write finds room for its record. -/
def State.waitDone (s : State) : Bool := s.waitReady.isSome

/-- That write completes, with its answer, in the step in which its record enters the queue (R383). -/
def State.waitNext (s : State) : State :=
  match s.waitReady with
  | none => s
  | some (e, who, a, v) =>
    let s := { s with bus := { s.bus with waiting := s.bus.waiting.erase (e, who, a, v) } }
    let s := (s.answer who 0 false).raiseEv e
    if s.absentAt a then s.raiseN 44 0x05 a else s.wReg a v

/-- EVENT_ENTRY (R50). -/
def execEventEntry (s : State) : Out :=
  let s := s.eventEntry
  ok (if s.waitDone then s.waitNext else s)

end Sys2Proof.Machine
end

