-- ==== Sys2Proof/Machine/Pins.lean ====
section
/-! DEFINITION. Machine/Pins.lean: what the signal balls show (R533) and the IEEE 1149.1 port (R473, R536). -/

namespace Sys2Proof.Machine

/-- A pull of 50 kΩ (R533). -/
inductive Pull where
  | none_ | up | down
deriving DecidableEq, Repr

/-- What the device does to a ball: it drives a level; it leaves the ball to its pull, as an input, a released open drain or
at high impedance; its differential driver is off; it repeats a clock or sends. -/
inductive Drive where
  | level (b : Bool)
  | released (pull : Pull)
  | off
  | running
deriving DecidableEq, Repr

/-- The state of a ball in reset (R533); the link and twin drivers off, oscillators and REFCLK_OUT running. -/
def pinReset (p : Pin) : Drive :=
  match p with
  | .ltx _ | .twnTx _ => .off
  | .xin | .x32 | .refclkOut => .running
  | .hbo | .authOut | .syncOut | .rstoutN | .faultN | .safeN => .level false
  | .ethTxc | .ethTxd _ | .ethTxCtl | .ethMdc | .xspClk | .xspRstN => .level false
  | .xspCsN _ => .level true
  | .unitId | .bootSel _ | .tck | .trstN | .xspDq _ | .xspDqs => .released .down
  | .recoveryN | .tms | .tdi | .ethMdio => .released .up
  | _ => .released .none_

/-- An open-drain ball: a 1 releases it. -/
def openDrain (b : Bool) : Drive := if b then .released .none_ else .level false

/-- A ball that carries something while `b` holds. -/
def Drive.when (b : Bool) (idle : Drive) : Drive := if b then .running else idle

/-- The pull of a GPIO pin (R518). -/
def pullOf (n : Nat) : Pull := match n with | 1 => .up | 2 => .down | _ => .none_

/-- What a ball shows outside the boundary scan: its state in reset until the block that owns it changes it (R533). The three
status pins have their own rule in every reset (R375, R432, R448). -/
def State.drives (s : State) (p : Pin) : Drive :=
  let eth := s.boot.rom == .eth
  let mdio := s.bit ETH_MDIO_GO
  let xsp := !s.xspFree
  match p with
  | .faultN => openDrain s.pins.1
  | .safeN => openDrain s.pins.2.1
  | .rstoutN => openDrain s.pins.2.2
  | p =>
    if s.inReset then pinReset p
    else
      match p with
      | .ltx k => Drive.when (decide (k.val < s.nLinks) && s.sending k) .off
      | .twnTx _ => Drive.when (s.bit TWN_CTRL_LANE_EN) .off
      | .hbo => .level s.twn.hbo
      | .authOut => .level s.holder
      | .syncOut => .level (s.clk.syncOut.any (fun e => (s.T - e.1).toNat < e.2))
      | .ethTxc => Drive.when (s.bit ETH_CTRL_EN_TX || eth) (pinReset p)
      | .ethTxd _ | .ethTxCtl => Drive.when (s.eth.sending || eth) (pinReset p)
      | .ethMdc => Drive.when mdio (pinReset p)
      | .ethMdio => Drive.when (mdio && s.bit ETH_MDIO_WRITE) (pinReset p)
      | .xspClk | .xspDq _ | .xspDqs => Drive.when xsp (pinReset p)
      | .xspCsN i => .level !(xsp && s.xsp.op.any (fun o => o.cs == i.val))
      | .xspRstN => .level !s.bit XSP_CTRL_RST
      | .twScl k => if s.bit (TWB_STAT_HOLD k) then .level false else Drive.when (s.twb k).onBus (pinReset p)
      | .twSda k => Drive.when (s.twb k).onBus (pinReset p)
      | .twtSda => Drive.when s.twt.host.isSome (pinReset p)
      | .gpio i => match s.gpioPin i with | some b => .level b | none => .released (pullOf (s.get (GPIO_CFG_PULL i)))
      | p => pinReset p

/-- The balls that the boundary-scan register covers, in the order of R531; that order is the model's (log entry 64). -/
def scanPins : List Pin :=
  [.refclkOut, .tck, .tms, .tdi, .tdo, .trstN, .hbo, .hbi, .authOut, .authIn, .unitId, .bootSel 0, .bootSel 1, .recoveryN, .porstN, .rstoutN, .faultN, .safeN, .pfailN, .pwrgood]
    ++ [.ethTxc] ++ (List.finRange 4).map .ethTxd ++ [.ethTxCtl, .ethRxc] ++ (List.finRange 4).map .ethRxd ++ [.ethRxCtl]
    ++ [.xspClk, .xspDqs, .xspCsN 0, .xspCsN 1, .ethMdc, .ethMdio] ++ (List.finRange 8).map .xspDq ++ [.xspRstN]
    ++ (List.finRange 8).flatMap (fun p => [.twScl p, .twSda p]) ++ [.twtScl, .twtSda] ++ (List.finRange 24).map .gpio

/-- A ball that the device can drive. -/
def pinDriven (p : Pin) : Bool :=
  match p with
  | .hbi | .authIn | .porstN | .pfailN | .pwrgood | .unitId | .bootSel _ | .recoveryN | .tck | .tms | .tdi | .trstN
  | .ethRxc | .ethRxd _ | .ethRxCtl | .tdo => false
  | _ => true

/-- What a ball shows: in EXTEST the boundary-scan register drives the balls that it covers (R536). -/
def State.pin (s : State) (p : Pin) : Drive :=
  let i := scanPins.findIdx (· = p)
  if s.boot.tap = .extest && pinDriven p && decide (i < s.boot.scan.length) then .level (s.boot.scan.getD i false) else s.drives p

/-- The register that the instruction selects captures: IDCODE, one 0 for BYPASS, the balls for the boundary scan; the level of
a ball that the device does not drive is the board's: free (R536). -/
def State.tapCapture (s : State) : State :=
  match s.boot.tap with
  | .idcode => { s with boot := { s.boot with captured := (List.range 32).map (s.idcode.getLsbD ·) } }
  | .bypass => { s with boot := { s.boot with captured := [false] } }
  | _ =>
    let level (i : Nat) (p : Pin) : Bool := match s.pin p with | .level b => b | _ => (Config.freeNat s.free).testBit i
    { s.drawn with boot := { s.boot with captured := scanPins.zipIdx.map (fun e => level e.2 e.1) } }

/-- An operation of the port (R536). -/
def State.tapOp (s : State) (o : TapOp) : State :=
  match o with
  | .ir t => { s with boot := { s.boot with tap := t } }
  | .capture => s.tapCapture
  | .update bits => if s.boot.tap = .sample ∨ s.boot.tap = .extest then { s with boot := { s.boot with scan := bits.take scanPins.length } } else s

/-- TCK_WINDOW (R473, R536): `cnt` rising edges of TCK in 6.4 µs, with which the probe has done `ops`. -/
def execTckWindow (cnt : Nat) (s : State) (ops : List TapOp := []) : Out :=
  let s := ops.foldl State.tapOp s
  let khz := min 65535 (cnt * 625 / 4)
  let slow := decide (cnt < 26)
  let was := s.bit SYS_CLKSTAT_TCK_SLOW
  let s := (s.put SYS_CLKSTAT_TCK_KHZ khz).putBit SYS_CLKSTAT_TCK_SLOW slow
  if slow == was then ok s else ok (s.raiseN 32 (if slow then 0x04 else 0x05) khz)

end Sys2Proof.Machine
end

