-- ==== Sys2Proof/Machine/Dispatch.lean ====
section
/-! DEFINITION. Machine/Dispatch.lean: one arm per command, each one direct call of its meaning. -/

namespace Sys2Proof.Machine

open Sys2Proof

def exec (i : Instr) (s : State) : Host.Outcome State Fault Refusal :=
  match i with
  | .registerWrite who a v => Sys2Proof.Machine.execRegisterWrite who a v s
  | .absentWrite who a v => Sys2Proof.Machine.execAbsentWrite who a v s
  | .unmappedAccess who a wr width => Sys2Proof.Machine.execUnmappedAccess who a wr width s
  | .auditedWrite who a v => Sys2Proof.Machine.execAuditedWrite who a v s
  | .linkedLowRead who c => Sys2Proof.Machine.execLinkedLowRead who c s
  | .linkedHighRead who c => Sys2Proof.Machine.execLinkedHighRead who c s
  | .majorFrameStart => Sys2Proof.Machine.execMajorFrameStart s
  | .clockCheck cnt => Sys2Proof.Machine.execClockCheck cnt s
  | .pllUnlock p => Sys2Proof.Machine.execPllUnlock p s
  | .pllLock p => Sys2Proof.Machine.execPllLock p s
  | .timeLoad who v => Sys2Proof.Machine.execTimeLoad who v s
  | .timeLoadApply => Sys2Proof.Machine.execTimeLoadApply s
  | .syncPulse err wide => Sys2Proof.Machine.execSyncPulse err wide s
  | .syncAlign => Sys2Proof.Machine.execSyncAlign s
  | .syncMissing => Sys2Proof.Machine.execSyncMissing s
  | .eventEntry => Sys2Proof.Machine.execEventEntry s
  | .eventRelease => Sys2Proof.Machine.execEventRelease s
  | .upstreamFrame k f => Sys2Proof.Machine.execUpstreamFrame k f s
  | .protectionCompare k vField x bad => Sys2Proof.Machine.execProtectionCompare k vField x bad s
  | .downstreamFrame rx => Sys2Proof.Machine.execDownstreamFrame s rx
  | .mailboxUpdate => Sys2Proof.Machine.execMailboxUpdate s
  | .actuationCopy => Sys2Proof.Machine.execActuationCopy s
  | .train who k v => Sys2Proof.Machine.execTrain who k v s
  | .linkDisable who k v => Sys2Proof.Machine.execLinkDisable who k v s
  | .lnkCntClr who k v => Sys2Proof.Machine.execLnkCntClr who k v s
  | .lockTimeout k => Sys2Proof.Machine.execLockTimeout k s
  | .measureDone k mean => Sys2Proof.Machine.execMeasureDone k mean s
  | .verifyDone k mean => Sys2Proof.Machine.execVerifyDone k mean s
  | .linkLost k => Sys2Proof.Machine.execLinkLost k s
  | .linkWdog k => Sys2Proof.Machine.execLinkWdog k s
  | .cmdTimeout k => Sys2Proof.Machine.execCmdTimeout k s
  | .remeasure k mean => Sys2Proof.Machine.execRemeasure k mean s
  | .lnkActWrite who k v => Sys2Proof.Machine.execLnkActWrite who k v s
  | .nop k port => Sys2Proof.Machine.execNop k port s
  | .hello k port arg => Sys2Proof.Machine.execHello k port arg s
  | .setAdvance k port arg => Sys2Proof.Machine.execSetAdvance k port arg s
  | .bootStart k port arg => Sys2Proof.Machine.execBootStart k port arg s
  | .setHold k port arg => Sys2Proof.Machine.execSetHold k port arg s
  | .bootDone k port arg => Sys2Proof.Machine.execBootDone k port arg s
  | .reset k port arg => Sys2Proof.Machine.execReset k port arg s
  | .feedSide k port arg => Sys2Proof.Machine.execFeedSide k port arg s
  | .feedClear k port arg => Sys2Proof.Machine.execFeedClear k port arg s
  | .feedHardlim k port arg => Sys2Proof.Machine.execFeedHardlim k port arg s
  | .bootGo who v => Sys2Proof.Machine.execBootGo who v s
  | .bootRoundStart n => Sys2Proof.Machine.execBootRoundStart n s
  | .bootOutcome k => Sys2Proof.Machine.execBootOutcome k s
  | .reseize who w v => Sys2Proof.Machine.execReseize who w v s
  | .seizeFail k => Sys2Proof.Machine.execSeizeFail k s
  | .auditCycle => Sys2Proof.Machine.execAuditCycle s
  | .seizeAccept k port e => Sys2Proof.Machine.execSeizeAccept k port e s
  | .companionHold k => Sys2Proof.Machine.execCompanionHold k s
  | .companionAutonomy k => Sys2Proof.Machine.execCompanionAutonomy k s
  | .protectiveAction k port => Sys2Proof.Machine.execProtectiveAction k port s
  | .hardLimit k => Sys2Proof.Machine.execHardLimit k s
  | .taskStart n e => Sys2Proof.Machine.execTaskStart n e s
  | .taskEnd n => Sys2Proof.Machine.execTaskEnd n s
  | .resultWrite n => Sys2Proof.Machine.execResultWrite n s
  | .accumulate n => Sys2Proof.Machine.execAccumulate n s
  | .mulQ31 n q m1 ad da db => Sys2Proof.Machine.execMulQ31 n q m1 ad da db s
  | .macQ31 n q m1 ad da db => Sys2Proof.Machine.execMacQ31 n q m1 ad da db s
  | .msuQ31 n q m1 ad da db => Sys2Proof.Machine.execMsuQ31 n q m1 ad da db s
  | .mulQ16 n q m1 ad da db => Sys2Proof.Machine.execMulQ16 n q m1 ad da db s
  | .macQ16 n q m1 ad da db => Sys2Proof.Machine.execMacQ16 n q m1 ad da db s
  | .msuQ16 n q m1 ad da db => Sys2Proof.Machine.execMsuQ16 n q m1 ad da db s
  | .muli n q m1 ad da imm => Sys2Proof.Machine.execMuli n q m1 ad da imm s
  | .rda n q m1 dd aa sh rnd => Sys2Proof.Machine.execRda n q m1 dd aa sh rnd s
  | .clra n q m1 ad => Sys2Proof.Machine.execClra n q m1 ad s
  | .segh n len => Sys2Proof.Machine.execSegh n len s
  | .add n q dd da b => Sys2Proof.Machine.execAdd n q dd da b s
  | .sub n q dd da b => Sys2Proof.Machine.execSub n q dd da b s
  | .adds n q dd da b => Sys2Proof.Machine.execAdds n q dd da b s
  | .subs n q dd da b => Sys2Proof.Machine.execSubs n q dd da b s
  | .and n q dd da b => Sys2Proof.Machine.execAnd n q dd da b s
  | .or n q dd da b => Sys2Proof.Machine.execOr n q dd da b s
  | .xor n q dd da b => Sys2Proof.Machine.execXor n q dd da b s
  | .shl n q dd da b => Sys2Proof.Machine.execShl n q dd da b s
  | .shr n q dd da b => Sys2Proof.Machine.execShr n q dd da b s
  | .asr n q dd da b => Sys2Proof.Machine.execAsr n q dd da b s
  | .min n q dd da b => Sys2Proof.Machine.execMin n q dd da b s
  | .max n q dd da b => Sys2Proof.Machine.execMax n q dd da b s
  | .abs n q dd da => Sys2Proof.Machine.execAbs n q dd da s
  | .neg n q dd da => Sys2Proof.Machine.execNeg n q dd da s
  | .clamp n q dd da db pr => Sys2Proof.Machine.execClamp n q dd da db pr s
  | .ramp n q dd da db pr => Sys2Proof.Machine.execRamp n q dd da db pr s
  | .sel n q dd pm da db => Sys2Proof.Machine.execSel n q dd pm da db s
  | .cmp n q pd da b cond => Sys2Proof.Machine.execCmp n q pd da b cond s
  | .plog n q pd pa pb op => Sys2Proof.Machine.execPlog n q pd pa pb op s
  | .div n q dd da db mode => Sys2Proof.Machine.execDiv n q dd da db mode s
  | .ldc n q dd idx => Sys2Proof.Machine.execLdc n q dd idx s
  | .ldcx n q dd da idx => Sys2Proof.Machine.execLdcx n q dd da idx s
  | .stc n q idx db => Sys2Proof.Machine.execStc n q idx db s
  | .stcx n q da idx db => Sys2Proof.Machine.execStcx n q da idx db s
  | .lds n q dd idx => Sys2Proof.Machine.execLds n q dd idx s
  | .ldsx n q dd da idx => Sys2Proof.Machine.execLdsx n q dd da idx s
  | .sts n q idx db => Sys2Proof.Machine.execSts n q idx db s
  | .stsx n q da idx db => Sys2Proof.Machine.execStsx n q da idx db s
  | .ldm n q dd b f => Sys2Proof.Machine.execLdm n q dd b f s
  | .sta n q b sel db => Sys2Proof.Machine.execSta n q b sel db s
  | .ldi n q dd imm h => Sys2Proof.Machine.execLdi n q dd imm h s
  | .rds n q dd sel => Sys2Proof.Machine.execRds n q dd sel s
  | .evt n q code db => Sys2Proof.Machine.execEvt n q code db s
  | .trip n q b sel db => Sys2Proof.Machine.execTrip n q b sel db s
  | .inj n q dd => Sys2Proof.Machine.execInj n q dd s
  | .scrubRead n => Sys2Proof.Machine.execScrubRead n s
  | .eccWriteback n => Sys2Proof.Machine.execEccWriteback n s
  | .engineMemRead who a => Sys2Proof.Machine.execEngineMemRead who a s
  | .run who n v => Sys2Proof.Machine.execRun who n v s
  | .stop who n v => Sys2Proof.Machine.execStop who n v s
  | .engineStart n => Sys2Proof.Machine.execEngineStart n s
  | .engineStopped n => Sys2Proof.Machine.execEngineStopped n s
  | .telCntClr who n v => Sys2Proof.Machine.execTelCntClr who n v s
  | .programStage who n a w v => Sys2Proof.Machine.execProgramStage who n a w v s
  | .programCommit who n a v => Sys2Proof.Machine.execProgramCommit who n a v s
  | .contextWrite who n scratch idx v => Sys2Proof.Machine.execContextWrite who n scratch idx v s
  | .bankWrite who n off v => Sys2Proof.Machine.execBankWrite who n off v s
  | .schCommit who v => Sys2Proof.Machine.execSchCommit who v s
  | .admissionDone => Sys2Proof.Machine.execAdmissionDone s
  | .schAbort who v => Sys2Proof.Machine.execSchAbort who v s
  | .swapDecision => Sys2Proof.Machine.execSwapDecision s
  | .swap => Sys2Proof.Machine.execSwap s
  | .enset who n v => Sys2Proof.Machine.execEnset who n v s
  | .enclr who n v => Sys2Proof.Machine.execEnclr who n v s
  | .enableApply => Sys2Proof.Machine.execEnableApply s
  | .cprotWrite who n str v => Sys2Proof.Machine.execCprotWrite who n str v s
  | .cupdGo who n v => Sys2Proof.Machine.execCupdGo who n v s
  | .cupdAbort who n v => Sys2Proof.Machine.execCupdAbort who n v s
  | .cupdApply n => Sys2Proof.Machine.execCupdApply n s
  | .relayWrite n => Sys2Proof.Machine.execRelayWrite n s
  | .fraGo who v => Sys2Proof.Machine.execFraGo who v s
  | .fraStop who v => Sys2Proof.Machine.execFraStop who v s
  | .fraStart => Sys2Proof.Machine.execFraStart s
  | .fraBoundary => Sys2Proof.Machine.execFraBoundary s
  | .fraStepEnd => Sys2Proof.Machine.execFraStepEnd s
  | .fraRunEnd => Sys2Proof.Machine.execFraRunEnd s
  | .fsmEvaluate => Sys2Proof.Machine.execFsmEvaluate s
  | .fsmEn who k v => Sys2Proof.Machine.execFsmEn who k v s
  | .fsmOn who k v => Sys2Proof.Machine.execFsmOn who k v s
  | .fsmOff who k v => Sys2Proof.Machine.execFsmOff who k v s
  | .fsmClear who k v => Sys2Proof.Machine.execFsmClear who k v s
  | .fsmAdopt who k v => Sys2Proof.Machine.execFsmAdopt who k v s
  | .adoptComplete k => Sys2Proof.Machine.execAdoptComplete k s
  | .fsmCntClr who k v => Sys2Proof.Machine.execFsmCntClr who k v s
  | .preMsExpiry k => Sys2Proof.Machine.execPreMsExpiry k s
  | .fsmCmdLimit k => Sys2Proof.Machine.execFsmCmdLimit k s
  | .rampTmo k => Sys2Proof.Machine.execRampTmo k s
  | .shortRamp k => Sys2Proof.Machine.execShortRamp k s
  | .limitTmo k => Sys2Proof.Machine.execLimitTmo k s
  | .retryTimer k => Sys2Proof.Machine.execRetryTimer k s
  | .deadTime k => Sys2Proof.Machine.execDeadTime k s
  | .fetshort k => Sys2Proof.Machine.execFetshort k s
  | .presenceDebounce k => Sys2Proof.Machine.execPresenceDebounce k s
  | .episodeEnd k => Sys2Proof.Machine.execEpisodeEnd k s
  | .sideLoss k => Sys2Proof.Machine.execSideLoss k s
  | .returnToPref k => Sys2Proof.Machine.execReturnToPref k s
  | .blank who v => Sys2Proof.Machine.execBlank who v s
  | .blankClose => Sys2Proof.Machine.execBlankClose s
  | .mintLatch => Sys2Proof.Machine.execMintLatch s
  | .mintCredit => Sys2Proof.Machine.execMintCredit s
  | .mntApply who v => Sys2Proof.Machine.execMntApply who v s
  | .mntApplied => Sys2Proof.Machine.execMntApplied s
  | .holdupOff => Sys2Proof.Machine.execHoldupOff s
  | .holdupSwitch => Sys2Proof.Machine.execHoldupSwitch s
  | .shed c => Sys2Proof.Machine.execShed c s
  | .batUpdate => Sys2Proof.Machine.execBatUpdate s
  | .cellWindow st => Sys2Proof.Machine.execCellWindow st s
  | .batLink st => Sys2Proof.Machine.execBatLink st s
  | .extrapolatedReading st => Sys2Proof.Machine.execExtrapolatedReading st s
  | .directReading st => Sys2Proof.Machine.execDirectReading st s
  | .rotDecision => Sys2Proof.Machine.execRotDecision s
  | .rotWindowStart => Sys2Proof.Machine.execRotWindowStart s
  | .rotWindowEnd => Sys2Proof.Machine.execRotWindowEnd s
  | .batApply who v => Sys2Proof.Machine.execBatApply who v s
  | .batApplied => Sys2Proof.Machine.execBatApplied s
  | .authCell lane c => Sys2Proof.Machine.execAuthCell lane c s
  | .timeCell lane c => Sys2Proof.Machine.execTimeCell lane c s
  | .healthCell lane c => Sys2Proof.Machine.execHealthCell lane c s
  | .digestCell lane c => Sys2Proof.Machine.execDigestCell lane c s
  | .idleCell lane c => Sys2Proof.Machine.execIdleCell lane c s
  | .laneDown lane => Sys2Proof.Machine.execLaneDown lane s
  | .heartbeat hbi authIn => Sys2Proof.Machine.execHeartbeat s hbi authIn
  | .heartbeatEvaluate => Sys2Proof.Machine.execHeartbeatEvaluate s
  | .claim who v => Sys2Proof.Machine.execClaim who v s
  | .claimDecide => Sys2Proof.Machine.execClaimDecide s
  | .handover who v => Sys2Proof.Machine.execHandover who v s
  | .handoverDecision => Sys2Proof.Machine.execHandoverDecision s
  | .digestCompare => Sys2Proof.Machine.execDigestCompare s
  | .talign who v => Sys2Proof.Machine.execTalign who v s
  | .fwdSend who v => Sys2Proof.Machine.execFwdSend who v s
  | .fwdHdr lane c => Sys2Proof.Machine.execFwdHdr lane c s
  | .fwdData lane c => Sys2Proof.Machine.execFwdData lane c s
  | .fwdRsp lane c => Sys2Proof.Machine.execFwdRsp lane c s
  | .fwdTimeout => Sys2Proof.Machine.execFwdTimeout s
  | .xferGo who v => Sys2Proof.Machine.execXferGo who v s
  | .xreq lane c => Sys2Proof.Machine.execXreq lane c s
  | .xrsp lane c => Sys2Proof.Machine.execXrsp lane c s
  | .xsnap lane c => Sys2Proof.Machine.execXsnap lane c s
  | .xjrnl lane c => Sys2Proof.Machine.execXjrnl lane c s
  | .xferApply => Sys2Proof.Machine.execXferApply s
  | .xferQuiet => Sys2Proof.Machine.execXferQuiet s
  | .twnCntClr who v => Sys2Proof.Machine.execTwnCntClr who v s
  | .faultDetect src => Sys2Proof.Machine.execFaultDetect src s
  | .escExpired src => Sys2Proof.Machine.execEscExpired src s
  | .faultAck who w v => Sys2Proof.Machine.execFaultAck who w v s
  | .enterSafe who v => Sys2Proof.Machine.execEnterSafe who v s
  | .soFallback => Sys2Proof.Machine.execSoFallback s
  | .holdEnd => Sys2Proof.Machine.execHoldEnd s
  | .safeExit who v => Sys2Proof.Machine.execSafeExit who v s
  | .txRestart => Sys2Proof.Machine.execTxRestart s
  | .selfCheck ok => Sys2Proof.Machine.execSelfCheck ok s
  | .injectArm who c v => Sys2Proof.Machine.execInjectArm who c v s
  | .fcuCntClr who v => Sys2Proof.Machine.execFcuCntClr who v s
  | .kick who v => Sys2Proof.Machine.execKick who v s
  | .supWdog => Sys2Proof.Machine.execSupWdog s
  | .flushEn who v => Sys2Proof.Machine.execFlushEn who v s
  | .flushBurst ok => Sys2Proof.Machine.execFlushBurst ok s
  | .flushRetry ok => Sys2Proof.Machine.execFlushRetry ok s
  | .pfailFall => Sys2Proof.Machine.execPfailFall s
  | .pfEnd => Sys2Proof.Machine.execPfEnd s
  | .pfDone => Sys2Proof.Machine.execPfDone s
  | .pfailRise => Sys2Proof.Machine.execPfailRise s
  | .ledgerCell lane c => Sys2Proof.Machine.execLedgerCell lane c s
  | .ledgerWindowRead who a => Sys2Proof.Machine.execLedgerWindowRead who a s
  | .waveArm who c v => Sys2Proof.Machine.execWaveArm who c v s
  | .trigNow who v => Sys2Proof.Machine.execTrigNow who v s
  | .waveFreeze c => Sys2Proof.Machine.execWaveFreeze c s
  | .readoutGo who v => Sys2Proof.Machine.execReadoutGo who v s
  | .rdDone => Sys2Proof.Machine.execRdDone s
  | .ldgCntClr who v => Sys2Proof.Machine.execLdgCntClr who v s
  | .evrClaim who => Sys2Proof.Machine.execEvrClaim who s
  | .softwareEvent who v => Sys2Proof.Machine.execSoftwareEvent who v s
  | .warmRequest who v => Sys2Proof.Machine.execWarmRequest who v s
  | .warmRelease => Sys2Proof.Machine.execWarmRelease s
  | .permWrite who e v => Sys2Proof.Machine.execPermWrite who e v s
  | .seal who v => Sys2Proof.Machine.execSeal who v s
  | .sealed => Sys2Proof.Machine.execSealed s
  | .roleWrite who dbg v => Sys2Proof.Machine.execRoleWrite who dbg v s
  | .challenge who => Sys2Proof.Machine.execChallenge who s
  | .challengeExpiry => Sys2Proof.Machine.execChallengeExpiry s
  | .grant a1 => Sys2Proof.Machine.execGrant a1 s
  | .dropRole role req => Sys2Proof.Machine.execDropRole role req s
  | .vaultScan => Sys2Proof.Machine.execVaultScan s
  | .vaultHoldRescan => Sys2Proof.Machine.execVaultHoldRescan s
  | .pkey who v => Sys2Proof.Machine.execPkey who v s
  | .program who v => Sys2Proof.Machine.execProgram who v s
  | .lockW who v => Sys2Proof.Machine.execLockW who v s
  | .lockR who v => Sys2Proof.Machine.execLockR who v s
  | .advanceLc who v => Sys2Proof.Machine.execAdvanceLc who v s
  | .advanceRb who v => Sys2Proof.Machine.execAdvanceRb who v s
  | .repair who v => Sys2Proof.Machine.execRepair who v s
  | .rescan who v => Sys2Proof.Machine.execRescan who v s
  | .vltCmdEnd ok => Sys2Proof.Machine.execVltCmdEnd ok s
  | .shadowWrite who v => Sys2Proof.Machine.execShadowWrite who v s
  | .overrideWrite who v => Sys2Proof.Machine.execOverrideWrite who v s
  | .vaultRead who w => Sys2Proof.Machine.execVaultRead who w s
  | .powerOnReset strap => Sys2Proof.Machine.execPowerOnReset strap s
  | .railLow => Sys2Proof.Machine.execRailLow s
  | .systemReset who v => Sys2Proof.Machine.execSystemReset who v s
  | .supervisorRelease => Sys2Proof.Machine.execSupervisorRelease s
  | .begin len => Sys2Proof.Machine.execBegin len s
  | .write a1 a2 a3 => Sys2Proof.Machine.execWrite a1 a2 a3 s
  | .verify => Sys2Proof.Machine.execVerify s
  | .activate => Sys2Proof.Machine.execActivate s
  | .commit a1 => Sys2Proof.Machine.execCommit a1 s
  | .abort => Sys2Proof.Machine.execAbort s
  | .advance a0 => Sys2Proof.Machine.execAdvance s a0
  | .ethHello => Sys2Proof.Machine.execEthHello s
  | .ethChal tag => Sys2Proof.Machine.execEthChal s tag
  | .ethGrant cred tag => Sys2Proof.Machine.execEthGrant cred s tag
  | .ethBegin len tag => Sys2Proof.Machine.execEthBegin len s tag
  | .ethWrite off data tag => Sys2Proof.Machine.execEthWrite off data s tag
  | .ethFinish tag => Sys2Proof.Machine.execEthFinish s tag
  | .ethReset tag => Sys2Proof.Machine.execEthReset s tag
  | .tckWindow cnt ops => Sys2Proof.Machine.execTckWindow cnt s ops
  | .pwrgoodFall => Sys2Proof.Machine.execPwrgoodFall s
  | .pwrgoodRise => Sys2Proof.Machine.execPwrgoodRise s
  | .vppIn => Sys2Proof.Machine.execVppIn s
  | .vppOut => Sys2Proof.Machine.execVppOut s
  | .twbWrite who p v => Sys2Proof.Machine.execTwbWrite who p v s
  | .twbRead who p v => Sys2Proof.Machine.execTwbRead who p v s
  | .writeRead who p v => Sys2Proof.Machine.execWriteRead who p v s
  | .blockWrite who p v => Sys2Proof.Machine.execBlockWrite who p v s
  | .blockRead who p v => Sys2Proof.Machine.execBlockRead who p v s
  | .blockProc who p v => Sys2Proof.Machine.execBlockProc who p v s
  | .quick who p v => Sys2Proof.Machine.execQuick who p v s
  | .ara who p v => Sys2Proof.Machine.execAra who p v s
  | .clear who p v => Sys2Proof.Machine.execClear who p v s
  | .twbCmdEnd p r => Sys2Proof.Machine.execTwbCmdEnd p r s
  | .twbTimeout p idx => Sys2Proof.Machine.execTwbTimeout p idx s
  | .pollProbe p ack => Sys2Proof.Machine.execPollProbe p ack s
  | .twbEnable who p v => Sys2Proof.Machine.execTwbEnable who p v s
  | .twbCntClr who p v => Sys2Proof.Machine.execTwbCntClr who p v s
  | .twtWrite bytes addr part => Sys2Proof.Machine.execTwtWrite bytes s addr part
  | .twtRead ptr n addr part => Sys2Proof.Machine.execTwtRead ptr n s addr part
  | .twtTimeout lines => Sys2Proof.Machine.execTwtTimeout s lines
  | .twtAra won => Sys2Proof.Machine.execTwtAra won s
  | .attnReq who v => Sys2Proof.Machine.execAttnReq who v s
  | .attnTmo => Sys2Proof.Machine.execAttnTmo s
  | .timerTick idx => Sys2Proof.Machine.execTimerTick idx s
  | .perWrite who idx v => Sys2Proof.Machine.execPerWrite who idx v s
  | .cmpWrite who idx v => Sys2Proof.Machine.execCmpWrite who idx v s
  | .capture idx => Sys2Proof.Machine.execCapture idx s
  | .capRead who idx => Sys2Proof.Machine.execCapRead who idx s
  | .hkaScanStart => Sys2Proof.Machine.execHkaScanStart s
  | .hkaResult idx vin refn refp => Sys2Proof.Machine.execHkaResult idx vin s refn refp
  | .resRead who idx => Sys2Proof.Machine.execResRead who idx s
  | .gpioEdge idx level ball => Sys2Proof.Machine.execGpioEdge idx level s ball
  | .gpioSet who v => Sys2Proof.Machine.execGpioSet who v s
  | .gpioClr who v => Sys2Proof.Machine.execGpioClr who v s
  | .txKick who v => Sys2Proof.Machine.execTxKick who v s
  | .txDone => Sys2Proof.Machine.execTxDone s
  | .rx bytes => Sys2Proof.Machine.execRx bytes s
  | .mdio who v => Sys2Proof.Machine.execMdio who v s
  | .mdioDone data => Sys2Proof.Machine.execMdioDone data s
  | .windowRead who a => Sys2Proof.Machine.execWindowRead who a s
  | .icmdGo who v => Sys2Proof.Machine.execIcmdGo who v s
  | .icmdDone ok data => Sys2Proof.Machine.execIcmdDone ok data s
  | .dqsFail => Sys2Proof.Machine.execDqsFail s
  | .xspCntClr who v => Sys2Proof.Machine.execXspCntClr who v s
  | .porstNLow => Sys2Proof.Machine.execPorstNLow s
  | .railReturn => Sys2Proof.Machine.execRailReturn s
  | .testReset => Sys2Proof.Machine.execTestReset s
  | .cellTransmit lane => Sys2Proof.Machine.execCellTransmit lane s
  | .portLiveLoss k port => Sys2Proof.Machine.execPortLiveLoss k port s
  | .twnRxLockLoss => Sys2Proof.Machine.execTwnRxLockLoss s

end Sys2Proof.Machine
end

