-- ==== Sys2Proof/Machine/Tick.lean ====
section
/-! DEFINITION. Machine/Tick.lean: what an empty queue does (log entry 1). The block runs on: the commands that its own
clocks bring about join the queue, in the order the spec gives them inside a FAB cycle (02, 05), and when none is left
for this cycle, the FAB clock moves on by one cycle. -/

namespace Sys2Proof.Machine

/-! ## Phases of a FAB cycle -/

/-- Phase whose next tick moves the clock on. -/
def phEnd : Nat := 2
/-- Phase whose next tick queues the commands of a cycle's start. -/
def phStart : Nat := 3
/-- The same for the first cycle of a major frame. -/
def phFrame : Nat := 4
/-- Phase whose next tick queues the commands that follow on this cycle's frames and mailboxes. -/
def phMid : Nat := 5

def State.setPhase (s : State) (p : Nat) : State := { s with clk := { s.clk with phase := p } }

/-- Commands join the queue. -/
def State.enqueue (s : State) (l : List Instr) : State := { s with pending := s.pending ++ l }

/-- A command, if its condition holds. -/
def onlyIf (b : Bool) (i : Instr) : List Instr := if b then [i] else []

/-! ## Timers, detections, events, the flush -/

/-- Timers that guard an awaited event (R5): an arrival in the cycle in which they end still comes before their end. -/
def guardTimer (i : Instr) : Bool :=
  match i with
  | .companionAutonomy _ | .soFallback | .escExpired _ | .supWdog | .syncMissing | .twbTimeout _ _ | .attnTmo
  | .twtTimeout _ | .fwdTimeout | .challengeExpiry | .pfEnd | .hkaScanStart => true
  | _ => false

/-- Timers that end behind the mailboxes of their FAB cycle (R5, R64, R280). -/
def mailTimer (i : Instr) : Bool := match i with | .blankClose | .cmdTimeout _ => true | _ => false

/-- A timer's end has come: that of a guard at the end of the FAB cycle, that of a mailbox timer behind the mailboxes, any
other at once (R5, R64, R280). -/
def State.rings (s : State) (e : Nat × Instr) : Bool :=
  decide (e.1 ≤ s.clk.now) && (if guardTimer e.2 then s.clk.phase == phEnd else if mailTimer e.2 then s.clk.phase < phStart || s.clk.phase == phMid else true)

/-- The command of a timer's end: a retry of the flush finds the MRAM as it is (R26, R388). -/
def State.rung (s : State) (i : Instr) : Instr := match i with | .flushRetry _ => .flushRetry s.mramReady | _ => i

/-- Timers whose end has come. -/
def State.ringing (s : State) : List Instr := (s.alarms.filter s.rings).map (fun e => s.rung e.2)

/-- They stop, and their commands join the queue. -/
def State.ringOut (s : State) : State := ({ s with alarms := s.alarms.filter (fun e => !s.rings e) }).enqueue s.ringing

/-- Detections on their way to the collector (R362). -/
def State.detections (s : State) : List Instr := s.fcu.detq.map (fun i => .faultDetect (Fin.ofNat 192 i))

/-- An event, or an audited write that waits, can enter the merge (R50, R383). -/
def State.entryDue (s : State) : Bool := !s.mrg.inflight.isEmpty || s.waitDone

/-- The hold of the first held event has expired, or the merge holds none any more, and it is free (R50, R381, R389). -/
def State.releaseDue (s : State) : Bool :=
  match s.mrg.held with
  | [] => false
  | e :: _ => s.mergeFree && (decide (e.stamp.toNat + holdTicks ≤ s.T.toNat) || s.bit LDG_STAT_PF_ACTIVE)

/-- The oldest record that waits for the flush is 100 µs old (R386), or its age cannot be read. -/
def State.oldestAged (s : State) : Bool :=
  let slot := s.get LDG_FSEQ_SEQ % ringSlots
  let t := BitVec.ofNat 64 (natLE ((s.ringBytes slot).take 8))
  s.eccRead 72 (2 * slot) == .bad || decide (20000 ≤ (s.T - t).toNat)

/-- Something waits for the MRAM (R385). -/
def State.flushWork (s : State) : Bool :=
  if s.ldg.pfCut then s.ldg.pfEnd.isSome else s.backlog != 0 || !s.ldg.authq.isEmpty || !s.ldg.waveq.isEmpty

/-- A burst is due, and the bus is free (R386, R389, R391, R524). -/
def State.flushDue (s : State) : Bool :=
  !s.ldg.pfStop && !s.bit LDG_STAT_BLOCKED && s.xspFree
    && ((s.mayFlush && s.flushWork && (decide (8 ≤ s.backlog) || s.backlog == 0 || s.bit LDG_STAT_PF_ACTIVE || s.oldestAged))
      || (!s.ldg.peerq.isEmpty && !s.ldg.pfCut))

/-- The power-fail flush is complete before its budget (R389). -/
def State.pfComplete (s : State) : Bool := s.bit LDG_STAT_PF_ACTIVE && s.armed .pfEnd && s.mayFlush && !s.flushWork && s.ldg.burst.isNone

/-! ## Commands of a FAB cycle -/

/-- A transfer of one of the blocks that `p` selects runs (R355). -/
def State.xferOf (s : State) (p : Nat → Bool) : Bool :=
  (match s.twn.xfer with | some x => p x.sel | none => false) || (match s.twn.serve with | some x => p x.sel | none => false)

/-- Engines that are present. -/
def State.engines (s : State) : List Engine := (List.range s.nEngines).map (Fin.ofNat 16)

/-- Commands of the grid itself at a frame start: the load of T, the alignment (R40, R46). -/
def State.gridRows (s : State) : List Instr :=
  onlyIf (s.bit TBS_STATUS_LOAD_PEND) .timeLoadApply ++ onlyIf s.clk.align.isSome .syncAlign

/-- Commands of FAB cycle 0, the swap before the enable requests (log entry 88; R24, R144, R201, R204, R243, R304, R325, R333, R342, R374). -/
def State.frameRows (s : State) : List Instr :=
  onlyIf (s.bit TWN_CTRL_CLAIM) .claimDecide
    ++ onlyIf s.fcu.txRestart .txRestart
    ++ (s.engines.filter (fun (n : Engine) => s.estate n == esARMED)).map .engineStart
    ++ onlyIf s.sch.decided .swap
    ++ onlyIf s.mint.huSw.isSome .holdupSwitch
    ++ onlyIf (s.mint.huSw.isSome || !s.sch.enReqs.isEmpty || !s.sch.huReqs.isEmpty) .enableApply
    ++ onlyIf s.rotOver .rotWindowEnd
    ++ onlyIf s.rotStarts .rotWindowStart
    ++ onlyIf (s.mfn % 2 == 0) .mintLatch
    ++ onlyIf (s.mfn % 2 == 0 && s.batDue) .batApplied
    ++ onlyIf s.fraDue .fraStart

/-- Entries of engine `n` that start in this cycle (R123, R187). -/
def State.starting (s : State) (n : Engine) : List Instr :=
  if s.estate n == esRUNNING || s.estate n == esSTOPPING then
    ((List.range 512).filter (fun e => s.startsNow n e)).map (fun e => .taskStart n (Fin.ofNat 512 e))
  else []

/-- Commands at the start of a FAB cycle (R55, R81, R84, R113). -/
def State.startRows (s : State) : List Instr :=
  let c := s.clk.cyc
  onlyIf (c % 75 == 0 && s.clk.sentAt != some s.clk.now) (.downstreamFrame [])
    ++ onlyIf (c % 1200 == 8) .auditCycle
    ++ onlyIf (c % 75 == 8) .mailboxUpdate
    ++ onlyIf (c % 75 == 63) .actuationCopy

/-- Commands that follow on them, and on the watchdogs that the mailboxes ring (R123, R271, R339, R355). -/
def State.midRows (s : State) : List Instr :=
  let c := s.clk.cyc
  onlyIf (c % 75 == 8 && s.xferOf (· == 16)) .xferApply
    ++ onlyIf (c % 75 == 8) .fsmEvaluate
    ++ (if s.clk.now % 16 == 0 && s.bit TWN_CTRL_LANE_EN then [.cellTransmit 0, .cellTransmit 1] else [])
    ++ s.engines.flatMap s.starting

/-- Commands of one engine at the end of a FAB cycle (R128, R130, R133, R141, R236). -/
def State.engineEnd (s : State) (n : Engine) : List Instr :=
  let e := s.eng n
  let ended := match e.task with | some t => decide (t.c0 + t.len ≤ s.clk.now + 1) | none => false
  onlyIf (firstDue s.clk.now (e.results.map (·.due))).isSome (.resultWrite n)
    ++ onlyIf (firstDue s.clk.now (e.accs.map (·.due))).isSome (.accumulate n)
    ++ onlyIf (e.relay.any (fun r => decide (r.1 ≤ s.clk.now))) (.relayWrite n)
    ++ onlyIf (e.wb.any (fun x => !s.inUse n x.1)) (.eccWriteback n)
    ++ onlyIf (s.bit (TEL_CTRL_SCRUB_EN n)) (.scrubRead n)
    ++ onlyIf ended (.taskEnd n)

/-- Commands at the end of a FAB cycle (R144, R200, R230, R295, R315, R350, R355). -/
def State.endRows (s : State) : List Instr :=
  let c := s.clk.cyc
  let last := c == 2399
  s.engines.flatMap s.engineEnd
    ++ onlyIf (c == 1199 && s.xferOf (· == 17)) .xferApply
    ++ onlyIf (c == 1199 && s.mint.alloc.isSome) .mintCredit
    ++ (if last then (s.engines.filter (fun (n : Engine) => (s.eng n).cupdAt.isSome)).map .cupdApply else [])
    ++ onlyIf (last && s.xferOf (fun x => x ≤ 15 || x == 18)) .xferApply
    ++ onlyIf last .swapDecision
    ++ (if last then (s.engines.filter (fun (n : Engine) => s.estate n == esSTOPPING)).map .engineStopped else [])
    ++ onlyIf (last && s.mfn % 2 == 1) .batUpdate
    ++ onlyIf (last && s.bit TWN_CTRL_CMP_EN) .digestCompare

/-- What stands at the very end of a FAB cycle: the evaluation and the decision that still count what arrives in their cycle
(R5, R340, R343), and what a command of cycle 2399 has made due after the rest: the update of a context, the swap decision
(R200, R230). -/
def State.lateRows (s : State) : List Instr :=
  onlyIf (s.clk.cyc % 75 == 60 && s.twn.hbAt != some s.clk.now) .heartbeatEvaluate ++ onlyIf s.decisionDue .handoverDecision ++
  if s.clk.cyc == 2399 then
    let next := BitVec.ofNat 32 (s.mfn + 1)
    (s.engines.filter (fun (n : Engine) => (s.eng n).cupdAt == some next)).map .cupdApply
      ++ onlyIf ((s.swapDue && !s.sch.decided) || (s.get SCH_STAT_STATE == 1 && s.sch.at_ && s.sch.swapMfn == next)) .swapDecision
  else []

/-! ## The tick -/

/-- Every engine fetches the bundle of this cycle; the commands are its operations (R123). -/
def State.issueAll (s : State) : State :=
  let r := s.engines.foldl (fun (x : State × List Instr) (n : Engine) =>
    let y := if (x.1.issuing n).isSome then x.1.fetch n else (x.1, [])
    (y.1, x.2 ++ y.2)) (s, [])
  r.1.enqueue r.2

/-- Uncorrectable loads that are known now, and engines whose halt has come (R139, R144). -/
def State.haltsDue (s : State) : State :=
  s.forN s.nEngines (fun n t => let t := t.loadFault n; match (t.eng n).haltAt with | some c => if c ≤ t.clk.now then t.telHalt n else t | none => t)

/-- The clock moves on by one FAB cycle; what counts for the cycle that ends is over. -/
def State.clockOn (s : State) : State :=
  { s with hw := [], bus := { s.bus with was := [] }, clk := { s.clk with now := s.clk.now + 1, cyc := s.clk.cyc + 1 } }

/-- What a FAB cycle begins with: the actions of a MON cycle, the halts, the ages, the two-wire ports; `m` is the MON cycle
before it. -/
def State.cycleBegins (s : State) (m : Nat) : State :=
  (if s.monCycle == m then s else s.monStep).haltsDue.twinAge.twbTick.twtTick

/-- The pins and the count ticks of the timers, where a TBS tick has begun since `t`. -/
def State.timersOn (s : State) (t : BitVec 64) : State × List Instr := if s.T == t || s.inReset then (s, []) else s.gpioTicks.tmrAdvance

/-- The FAB clock moves on by one cycle, the TBS clock by a tick in four cycles of five (R30, R35); past cycle 2399 the
next major frame starts (R36). Where no frame starts, the commands of the cycle's start join the queue with the clock, so
that no access comes before them in their cycle (R81, R84). -/
def State.advance (s : State) : State :=
  let r := (s.tmrTakes.xspTick.clockOn.cycleBegins s.monCycle).timersOn s.T
  if 2400 ≤ r.1.clk.cyc then (r.1.enqueue (r.2 ++ [.majorFrameStart])).setPhase phFrame
  else if r.1.clk.cyc % 75 = 0 || s.inReset then (r.1.enqueue r.2).setPhase phStart
  else (r.1.enqueue (r.2 ++ r.1.startRows)).setPhase phMid

/-- The next part of the FAB cycle. While the device is in reset, only the link frames of its companions go on. -/
def State.cycleOn (s : State) : State :=
  let p := s.clk.phase
  if s.inReset then
    if phStart ≤ p then (s.enqueue (onlyIf (s.clk.cyc % 75 == 0 && s.clk.sentAt != some s.clk.now) (.downstreamFrame []))).setPhase phEnd else s.advance
  else if p = phFrame then
    let g := s.gridRows
    if g.isEmpty then (s.enqueue s.frameRows).setPhase phStart else s.enqueue g
  else if p = phStart then (s.enqueue s.startRows).setPhase phMid
  else if p = phMid then (s.enqueue s.midRows).setPhase 0
  else if p = 0 then s.issueAll.setPhase 1
  else if p = 1 then (s.enqueue s.endRows).setPhase phEnd
  else
    let l := s.lateRows
    if l.isEmpty then s.advance else s.enqueue l

/-- What the block does on an empty queue (log entry 1). -/
def State.tick (s : State) : State :=
  if !s.ringing.isEmpty then s.ringOut
  else if s.inReset then s.cycleOn
  else if !s.fcu.detq.isEmpty then s.enqueue s.detections
  else if s.entryDue then s.enqueue [.eventEntry]
  else if s.releaseDue then s.enqueue [.eventRelease]
  else if s.pfComplete then s.enqueue [.pfEnd]
  else if !s.xsp.waits.isEmpty && s.xspFree then s.winServe
  else if s.flushDue then s.burstStart
  else s.cycleOn

end Sys2Proof.Machine
end

