-- ==== Sys2Proof/WellFormed.lean ====
section
/-! DEFINITION. WellFormed.lean: which commands are well formed. The operand types hold every range the spec gives a link,
an engine, a register or a field; what is left is the length of an upstream frame. -/

namespace Sys2Proof

/-- A frame of 12 symbols (R56). -/
def UpFrame.wellFormed (f : UpFrame) : Bool := decide (f.syms.length = 12)

/-- A command is well formed: an upstream frame has its 12 symbols, and every other command is. -/
def Instr.wellFormed (i : Instr) : Bool :=
  match i with
  | .upstreamFrame _ f => f.wellFormed
  | _ => true

end Sys2Proof
end

