-- ==== Sys2Proof/Safety.lean ====
section
/-! DEFINITION. Safety.lean: the terms in which claims about the block are made: its data in canonical form, the parts of
the state that a command leaves alone, and an access that reaches its register. -/

namespace Sys2Proof.Machine

/-! ## Canonical data -/

/-- A byte store in canonical form: addresses strictly rising, and no entry equal to what an unlisted address reads as. -/
def Memory.wf (d : Nat → Byte) (m : List Host.Cell) : Bool := SMap.wf d m

/-- Every byte store of the block is in canonical form: the Ledger ring, the waveform store, ITCM, DTCM, flash, MRAM. -/
def State.memoryWf (s : State) : Bool :=
  Memory.wf zeroByte s.ring && Memory.wf zeroByte s.wave && Memory.wf zeroByte s.itcm && Memory.wf zeroByte s.dtcm
    && Memory.wf erasedByte s.flash && Memory.wf erasedByte s.mram

/-- The registers and the stores of the Tellers are in canonical form too. -/
def State.wf (s : State) : Bool :=
  s.memoryWf && SMap.wf resetWord s.regs && SMap.wf (fun _ => 0) s.prog && SMap.wf (fun _ => 0) s.ctx
    && SMap.wf (fun _ => 0) s.scr && SMap.wf (fun _ => 0) s.ents && SMap.wf (fun _ => 0) s.binds
    && SMap.wf (fun _ => 0) s.ecc

/-! ## What a command leaves alone -/

/-- From `s` to `t` nothing but registers changed, and of those at most the ones at the addresses `as`. -/
def State.onlyRegs (s t : State) (as : List Nat) : Prop :=
  t = { s with regs := t.regs, hw := t.hw } ∧ ∀ a, a ∉ as → t.word a = s.word a

/-- From `s` to `t` nothing but registers and the record of link `k` changed, and of those registers at most `as`. -/
def State.onlyLink (s t : State) (k : Nat) (as : List Nat) : Prop :=
  t = { s with regs := t.regs, hw := t.hw, links := t.links } ∧ (∀ j, j ≠ k → t.link j = s.link j) ∧ ∀ a, a ∉ as → t.word a = s.word a

/-- From `s` to `t` nothing but the record of companion `k` changed. -/
def State.onlyComp (s t : State) (k : Nat) : Prop := t = { s with comps := t.comps } ∧ ∀ j, j ≠ k → t.comp j = s.comp j

/-- From `s` to `t` nothing but the record of engine `n` changed. -/
def State.onlyEng (s t : State) (n : Nat) : Prop := t = { s with engs := t.engs } ∧ ∀ m, m ≠ n → t.eng m = s.eng m

/-- From `s` to `t` at most the named things changed beside registers at `as`: `parts t s` is `s` with those things as
they are in `t`. -/
def State.onlyParts (s t : State) (parts : State → State → State) (as : List Nat) : Prop :=
  t = { parts t s with regs := t.regs, hw := t.hw } ∧ ∀ a, a ∉ as → t.word a = s.word a

/-! ## The feed state machine -/

/-- States that the table of R269, with R276, gives after one transition from a state of a feed, by the codes of R268:
0 OFF, 1 PRECHECK, 2 RAMP, 3 ON, 4 LIMIT, 5 TRIPPED, 6 RETRY_WAIT, 7 LOCKOUT, 8 FET_FAULT, 9 TRANSFER. -/
def feedNext (st : Nat) : List Nat :=
  match st with
  | 0 => [0, 1, 8]
  | 1 => [0, 2, 5, 8]
  | 2 => [0, 3, 5]
  | 3 => [0, 4, 5, 9]
  | 4 => [0, 3, 5, 9]
  | 5 => [0, 6, 7, 8]
  | 6 => [0, 1, 8]
  | 7 => [0, 8]
  | 8 => [0]
  | _ => [0, 3, 5, 9]

/-! ## Accesses -/

/-- A word write of `v` by `who` at `a` reaches its register, and `u` is the state the register's own operation starts
from: `s` with the access answered, and with the audit record raised where the page asks for one (R383, R414, R420). -/
def State.admits (s : State) (who : Who) (a : Nat) (v : Word) (u : State) : Prop :=
  s.busQueue who = (s, false) ∧ ∃ need, s.gate who a true = .pass need ∧
    ((auditedNeed need = false ∧ u = s.answer who 0 false)
      ∨ (auditedNeed need = true ∧ s.auditWaits who = false
        ∧ u = (s.answer who 0 false).raiseEv (auditEv who 0x01 a (s.roleOf who) need v)))

/-- A word read by `who` at `a` reaches its register. -/
def State.admitsRead (s : State) (who : Who) (a : Nat) : Prop :=
  s.busQueue who = (s, false) ∧ ∃ need, s.gate who a false = .pass need

/-! ## The mailboxes -/

/-- The frame that becomes current for link `k` in this consumer cycle (R81): the newest of its queue with the sequence
nibble of the frame before, every entry readable and no injection waiting for the mailbox (R361, R371). -/
def State.arrives (s : State) (k : Nat) (u : UpData) : Prop :=
  s.bit (FCU_INJ_ARM 66) = false ∧ (∀ e ∈ (s.link k).queue, e.good = true)
    ∧ (((s.link k).queue.map (·.val)).filter (fun e => e.sq.toNat / 16 == (s.lf + 31) % 16)).getLast? = some u

/-- No frame becomes current for link `k` in this consumer cycle: its interval is stale (R81). -/
def State.missing (s : State) (k : Nat) : Prop := ∀ e ∈ (s.link k).queue, e.val.sq.toNat / 16 ≠ (s.lf + 31) % 16

/-! ## The twin link -/

/-- A cell of TYPE `ty` comes whole, with the word `w` and the place that its lane awaits, on a lane that is UP and in lock,
with no reserved value, and no injection waits for the receive queue: its own effect follows (R338, R339, R361, R371). -/
def State.takesCell (s : State) (lane : Nat) (c : Cell) (w : BitVec 128) (ty : Nat) : Prop :=
  s.bit TWN_CTRL_LANE_EN = true ∧ s.laneUp lane = true ∧ 3 ≤ (s.lane lane).commas ∧ cellRead c = some w
    ∧ (∀ n, (s.lane lane).rxSeq = some n → cellSeq c = (n + 1) % 128) ∧ s.bit (FCU_INJ_ARM 67) = false
    ∧ reservedPay ty (slice w.toNat 119 112) (slice w.toNat 111 0) = false

/-! ## Resets -/

/-- From `s` to `t` every domain was cleared (R445): time and frame 0, no record of a link, an engine, a task, nothing in the
on-chip stores; fuses, flash, MRAM, companions and the queue stand. -/
def State.clearedTo (s t : State) : Prop :=
  t.T = 0 ∧ t.mfn = 0 ∧ t.links = [] ∧ t.engs = [] ∧ t.ring = [] ∧ t.itcm = [] ∧ t.dtcm = [] ∧ t.mrg.inflight = [] ∧ t.flash = s.flash ∧ t.mram = s.mram
    ∧ t.comps = s.comps ∧ t.pending = s.pending ∧ t.member = s.member ∧ (s.vlt.cmd = none → t.vlt.aN = s.vlt.aN ∧ t.vlt.bN = s.vlt.bN)

end Sys2Proof.Machine
end

