-- ==== Sys2Proof/Certificates/Slice0/Obligations.lean ====
section
/-! DEFINITION. Certificates/Slice0/Obligations.lean: the statements for the provers. -/

open Sys2Proof Sys2Proof.Machine

/-! ## The block as a whole -/

/-- A step takes the command at the front of the queue and runs it with the queue's rest. -/
def Obligations.StepRunsFrontCommand : Prop :=
  ∀ (c : Instr) (rest : List Instr) (s : State), s.pending = c :: rest → step s = exec c { s with pending := rest }

/-- On an empty queue, when nothing of the cycle is left to queue, no timer has ended, no detection, action, halt, GO, event
or flush is due and the device is out of reset, a step moves the FAB clock on by one cycle and T by the ticks of that
cycle; past cycle 2399 it queues MAJOR_FRAME_START. What the step does on an empty queue is the model's choice (log
entry 1). -/
def Obligations.IdleStepMovesClock : Prop :=
  ∀ s : State, s.pending = [] → s.clk.phase = phEnd → s.ringing = [] → s.inReset = false → s.fcu.detq = [] →
    s.entryDue = false → s.releaseDue = false → s.pfComplete = false → s.flushDue = false → s.lateRows = [] →
    s.fcu.acts = [] → (∀ n, (s.eng n).haltAt = none) → s.xsp.late = none →
    ∃ t, step s = .next t ∧ t.clk.now = s.clk.now + 1 ∧ t.clk.cyc = s.clk.cyc + 1 ∧ t.mfn = s.mfn
      ∧ t.T = s.clk.tBase + BitVec.ofNat 64 ((s.clk.cyc + 1) * 4 / 5)
      ∧ (Instr.majorFrameStart ∈ t.pending ↔ 2400 ≤ s.clk.cyc + 1)
      ∧ t.ring = s.ring ∧ t.flash = s.flash ∧ t.mram = s.mram ∧ t.links = s.links ∧ t.engs = s.engs

/-- Every well-formed command completes in every state; an upstream frame that has not 12 symbols is refused by name. -/
def Obligations.WellFormedCommandsComplete : Prop :=
  (∀ (c : Instr) (s : State), c.wellFormed = true → ∃ t, exec c s = .next t)
    ∧ ∀ (c : Instr) (s : State), c.wellFormed = false → exec c s = .refused (.illFormed "UPSTREAM_FRAME")

/-- The meaning of a command never touches the queue of the commands that wait behind it. -/
def Obligations.CommandsLeaveQueue : Prop :=
  ∀ (c : Instr) (s t : State), exec c s = .next t → t.pending = s.pending

/-- Every step, from any state, keeps the byte stores, the registers and the stores of the Tellers in canonical form. -/
def Obligations.StepKeepsCanonical : Prop :=
  ∀ s t : State, s.wf = true → step s = .next t → t.wf = true

/-- The state after reset has that form, nothing waits, and its FAB cycle lies inside a major frame.
After reset every register holds its reset word, but SYS_RST_CAUSE, which shows the power-on; T and MFN are 0, no
link or engine has left its reset record, and the on-chip stores hold nothing. What the spec gives no reset value
for reads 0 by the model's choice (log entries 4, 17 and 18). -/
def Obligations.ResetState : Prop :=
  (
  State.reset.wf = true ∧ State.reset.pending = [] ∧ State.reset.clk.cyc < 2400)
  ∧ (
  (∀ a, a ≠ SYS_RST_CAUSE → State.reset.word a = resetWord a) ∧ State.reset.bit SYS_RST_CAUSE_POR = true
    ∧ State.reset.T = 0 ∧ State.reset.mfn = 0
    ∧ (∀ k, State.reset.link k = {}) ∧ (∀ n, State.reset.eng n = {}) ∧ (∀ k, State.reset.get (LNK_STATUS_STATE k) = lsOFF)
    ∧ (∀ n, n < 16 → State.reset.estate n = esSTOPPED)
    ∧ State.reset.ring = [] ∧ State.reset.itcm = [] ∧ State.reset.dtcm = [] ∧ State.reset.prog = [])

/-- A fuse bit that reads 1 in a copy at a margin reads 1 there after every step: no step, reset or power failure clears a
bit of the Vault. -/
def Obligations.BlownFusesStayBlown : Prop :=
  ∀ (s t : State) (w : Nat), step s = .next t →
    vget t.vlt.aN w &&& vget s.vlt.aN w = vget s.vlt.aN w ∧ vget t.vlt.aS w &&& vget s.vlt.aS w = vget s.vlt.aS w
      ∧ vget t.vlt.bN w &&& vget s.vlt.bN w = vget s.vlt.bN w ∧ vget t.vlt.bS w &&& vget s.vlt.bS w = vget s.vlt.bS w

/-! ## The register interface (00, 15) -/

/-- A word write that reaches a register without an operation of its own (REGISTER_WRITE), every field of the word legal:
each RW field takes its bits, each RO field keeps its own, each W1C field clears the bits written 1 but those the hardware
set in this cycle; no other register and nothing else changes. With a reserved encoding in any field no register changes and ACCESS is raised for the register. -/
def Obligations.RegisterWriteByField : Prop :=
  ∀ (who : Who) (a : Nat) (v : Word) (s u : State) (r : RegRow), a % 4 = 0 → rowOf a = some r →
    inFam (RGT_PERM 0) 4 256 a = false → a ≠ RGT_SEAL → a ≠ RGT_ROLE_SUP → a ≠ RGT_ROLE_DBG →
    s.admits who a v u → u.wReg a v = u.wPlain a v →
    (legalAt a v = true → ∃ t, exec (.registerWrite who a v) s = .next t ∧ u.onlyRegs t [a]
      ∧ ∀ f ∈ r.flds, ∀ i, f.lo ≤ i → i ≤ f.hi →
        (f.acc = .rw → (t.word a).getLsbD i = v.getLsbD i) ∧ (f.acc = .ro → (t.word a).getLsbD i = (u.word a).getLsbD i)
          ∧ (f.acc = .w1c → (t.word a).getLsbD i = ((u.word a).getLsbD i && (!v.getLsbD i || (u.hwBits a).getLsbD i))))
    ∧ (legalAt a v = false → exec (.registerWrite who a v) s = .next (u.access a))

/-- A write to the page of an absent resource (ABSENT_WRITE) is discarded: ABSENT is raised on source 44 with the address,
behind the AUDIT record where the page asks for one, the access ends without a fault, nothing else comes about. That
such a write is recorded too is the model's reading (log entry 83).
An access outside the map, a write to a range that takes none, or a narrow access to a checked range other than the
xSPI window (UNMAPPED_ACCESS): it reads 0 with a fault, UNMAPPED is raised with the address, nothing is written.
Readings of the edges of the map: log entries 5 and 19. -/
def Obligations.AbsentAndUnmappedAccesses : Prop :=
  (
  ∀ (who : Who) (a : Nat) (v : Word) (s : State) (need : Nat), a % 4 = 0 →
    inFam (RGT_PERM 0) 4 256 a = false → a ≠ RGT_SEAL → a ≠ RGT_ROLE_SUP → a ≠ RGT_ROLE_DBG →
    s.busQueue who = (s, false) → s.gate who a true = .absent need →
    s.absentAt a = true ∧ (auditedNeed need = false → exec (.absentWrite who a v) s = .next ((s.answer who 0 false).raiseN 44 0x05 a))
      ∧ (auditedNeed need = true → s.auditWaits who = false →
        exec (.absentWrite who a v) s = .next (((s.answer who 0 false).raiseEv (auditEv who 0x01 a (s.roleOf who) need v)).raiseN 44 0x05 a)))
  ∧ (
  ∀ (who : Who) (a : Nat) (wr : Bool) (width : Nat) (s : State), s.busQueue who = (s, false) →
    (regionOf a = .none ∨ (wr = true ∧ (regionOf a).writable = false)
      ∨ (∃ e, regionOf a = .checked e ∧ width < 4 ∧ e ≠ 195)) →
    ∃ u : State, exec (.unmappedAccess who a wr width) s = .next u ∧ u = (s.raiseN 44 0x03 a).answer who 0 true
      ∧ u.bus.resp = { who := who, data := 0, err := true } ∧ u.links = s.links ∧ u.ring = s.ring ∧ u.dtcm = s.dtcm)

/-- A write to a page whose entry asks for INSTALLER or MAKER (AUDITED_WRITE): with room in the merge queue the AUDIT
record enters it, the access ends and the register's operation follows in the same step; with none, or behind a write of
its own that waits, the write waits, its access has no end yet, and nothing else changes. When a waiting write completes
is the model's reading (log entry 22). -/
def Obligations.AuditedWritesWaitForRecord : Prop :=
  ∀ (who : Who) (a : Nat) (v : Word) (s : State) (need : Nat), a % 4 = 0 →
    inFam (RGT_PERM 0) 4 256 a = false → a ≠ RGT_SEAL → a ≠ RGT_ROLE_SUP → a ≠ RGT_ROLE_DBG →
    s.busQueue who = (s, false) → need = 2 ∨ need = 3 →
    (s.gate who a true = .pass need → s.auditWaits who = false → exec (.auditedWrite who a v) s = .next (((s.answer who 0 false).raiseEv
        { src := if who = .dbg then 43 else 42, cause := 0x01, value := v, stamp := 0, order := 0, kind := .audit, ext := BitVec.ofNat 64 (a + s.roleOf who * 0x100000000 + need * 0x10000000000) }).wReg a v))
    ∧ (s.gate who a true = .pass need ∨ s.gate who a true = .absent need → s.auditWaits who = true → ∃ t w, exec (.auditedWrite who a v) s = .next t
        ∧ t = { s with bus := { s.bus with waiting := s.bus.waiting ++ [w] } } ∧ w.2 = (who, a, v))

/-- A low-word read of a linked counter (LINKED_LOW_READ) that issues answers the low word and holds the high word of the same counter
state; the next high-word read on the path (LINKED_HIGH_READ) answers the held value, whatever the counter is by then,
and consumes it.
Each path has a holding register of its own for each counter: a low-word read leaves every other one as it was.
A high-word read with nothing held on the path answers the live high word and sets the counter's TORN bit; it changes
no other register. -/
def Obligations.LinkedCounterReads : Prop :=
  (
  ∀ (who : Who) (c : Linked) (s : State), linkedPath who (Linked.norm c) = true → s.isLinked (Linked.norm c) = true → s.issues who = true →
    (∀ lo hi, Linked.addrs (Linked.norm c) = some (lo, hi) → s.admitsRead who lo) →
    ∃ t, exec (.linkedLowRead who c) s = .next t ∧ t = { s with bus := t.bus }
      ∧ t.bus.resp = { who := who, data := (s.linkedWords (Linked.norm c)).1, err := false }
      ∧ t.held who (Linked.norm c) = some (s.linkedWords (Linked.norm c)).2
      ∧ ∀ t' : State, t'.held who (Linked.norm c) = t.held who (Linked.norm c) → t'.isLinked (Linked.norm c) = true → t'.issues who = true →
        (∀ lo hi, Linked.addrs (Linked.norm c) = some (lo, hi) → t'.admitsRead who hi) →
        ∃ u : State, exec (.linkedHighRead who c) t' = .next u ∧ u = { t' with bus := u.bus } ∧ u.held who (Linked.norm c) = none
          ∧ u.bus.resp = { who := who, data := (s.linkedWords (Linked.norm c)).2, err := false })
  ∧ (
  ∀ (who who' : Who) (c c' : Linked) (s t : State), exec (.linkedLowRead who c) s = .next t →
    pathOf who' ≠ pathOf who ∨ c' ≠ Linked.norm c → t.held who' c' = s.held who' c')
  ∧ (
  ∀ (who : Who) (c : Linked) (s : State), linkedPath who (Linked.norm c) = true → s.isLinked (Linked.norm c) = true → s.held who (Linked.norm c) = none → s.issues who = true →
    (∀ lo hi, Linked.addrs (Linked.norm c) = some (lo, hi) → s.admitsRead who hi) →
    ∃ t, exec (.linkedHighRead who c) s = .next t ∧ t.bit (tornOf (Linked.norm c)) = true
      ∧ t.bus.resp = { who := who, data := (s.linkedWords (Linked.norm c)).2, err := false }
      ∧ t = { s with regs := t.regs, bus := t.bus, hw := t.hw } ∧ (∀ a, a ≠ (tornOf (Linked.norm c)).addr → t.word a = s.word a))

/-! ## The fault collector and the safe state (13) -/

/-- FAULT_DETECT of an enabled, present source whose flag is clear and whose reaction is none or an interrupt: its
counter counts, its flag is set, FCU_FIRST takes it where it was free, and the detection event is raised on the
source's group, with NOTIFY unless the reaction is none. The order inside the step is the model's (log entries 23
and 24).
FAULT_DETECT of a source that is flagged already counts it and does nothing else; of a masked source, nothing.
FAULT_ACK: the flags written 1 clear and their escalations stop, those of sources 0..3 apart; every other flag and timer
stays. A source detected again in this MON cycle keeps its flag, and one that escalates starts again. -/
def Obligations.DetectionsFlagAndReport : Prop :=
  (
  ∀ (i : Fin 192) (s : State), s.fcu.checked = true → s.srcAbsent i = false → s.bit (FCU_SCFG_EN i) = true →
    s.flagged i = false → s.srcReact i ≤ 1 →
    ∃ u : State, exec (.faultDetect i) s = .next (State.raiseEv u { src := groupOf i, cause := 0x01, value := BitVec.ofNat 32 (s.detValue i), stamp := 0, order := 0, notify := s.srcReact i != 0 })
      ∧ ({ s with fcu := { s.fcu with detq := s.fcu.detq.erase i.val, det := i.val :: s.fcu.det } } : State).onlyRegs u
          [FCU_SCNT i, FCU_FLAG (i / 32), FCU_FIRST, FCU_FIRST_TLO, FCU_FIRST_THI, TBS_STATUS]
      ∧ u.flagged i = true ∧ (∀ j : Fin 192, j ≠ i → u.flagged j = s.flagged j)
      ∧ u.get (FCU_SCNT_COUNT i) = min (s.get (FCU_SCNT_COUNT i) + 1) 65535
      ∧ u.bit FCU_FIRST_VALID = true
      ∧ (s.bit FCU_FIRST_VALID = false → u.get FCU_FIRST_SOURCE = i ∧ u.get FCU_FIRST_CLASS = s.srcClass i)
      ∧ (s.bit FCU_FIRST_VALID = true → u.word FCU_FIRST = s.word FCU_FIRST ∧ u.word FCU_FIRST_TLO = s.word FCU_FIRST_TLO))
  ∧ (
  ∀ (i : Fin 192) (s : State), i.val ≠ 13 → s.fcu.checked = true → s.srcAbsent i = false →
    (s.bit (FCU_SCFG_EN i) = true → s.flagged i = true →
      ∃ t, exec (.faultDetect i) s = .next t ∧ t.get (FCU_SCNT_COUNT i) = min (s.get (FCU_SCNT_COUNT i) + 1) 65535
        ∧ ({ s with fcu := { s.fcu with detq := s.fcu.detq.erase i.val, det := i.val :: s.fcu.det } } : State).onlyRegs t [FCU_SCNT i])
    ∧ (s.bit (FCU_SCFG_EN i) = false →
      exec (.faultDetect i) s = .next { s with fcu := { s.fcu with detq := s.fcu.detq.erase i.val } }))
  ∧ (
  ∀ (who : Who) (w : Fin 6) (v : Word) (s u : State), s.admits who (FCU_FLAG w) v u → u.fcu.checked = true →
    ∃ t, exec (.faultAck who w v) s = .next t
      ∧ t = { u with regs := t.regs, alarms := t.alarms }
      ∧ (∀ a, a ≠ FCU_FLAG w → a ≠ FCU_ESCR w → t.word a = u.word a)
      ∧ ∀ b : Fin 32, let i := 32 * w.val + b.val
          let acked : Bool := v.getLsbD b && decide (4 ≤ i)
          let again : Bool := u.fcu.det.contains i && u.srcReact i == 2
          t.flagged i = (u.flagged i && !(acked && !u.fcu.det.contains i))
            ∧ t.bmBit FCU_ESCR i = (if acked then again else u.bmBit FCU_ESCR i)
            ∧ t.armed (.escExpired (Fin.ofNat 192 i)) = (if acked then again else u.armed (.escExpired (Fin.ofNat 192 i))))

/-- The ways into the safe state, from outside it: ENTER_SAFE with cause 254; an escalation that is not acknowledged
(ESC_EXPIRED), whose action falls due in the next MON cycle, and the MON cycle that takes one action ENTER_SAFE, with the
source as cause; SO_FALLBACK of a holder, with the source of its SWITCHOVER. SAFE is set with its cause, every engine is
HALTED, and the end of HOLD is timed. The counting of MON cycles is the model's (log entry 70).
HOLD_END in the safe state stops the transmitters; TX_RESTART after an accepted exit starts them again with every link
unseized.
SAFE_EXIT with the key, in the safe state: refused with the number of the first failing condition, or SAFE clears
and the transmitters restart at the next frame start. See log entry 24. -/
def Obligations.SafeStateEnteredAndLeft : Prop :=
  (
  ∀ (s : State), s.safe = false →
    (∀ (who : Who) (v : Word) (u : State), s.admits who FCU_CTRL (withBit v 5) u → u.fcu.checked = true →
      legalAt FCU_CTRL (withBit v 5) = true → tb v 4 = false →
      ∃ t, exec (.enterSafe who v) s = .next t ∧ t.safe = true ∧ t.get FCU_STAT_SAFE_CAUSE = 254 ∧ t.armed .holdEnd = true
        ∧ (∀ n, n < s.nEngines → t.estate n = esHALTED) ∧ t.ring = s.ring ∧ t.ctx = s.ctx ∧ t.scr = s.scr)
    ∧ (∀ i : Fin 192, s.bmBit FCU_ESCR i = true →
      ∃ t, exec (.escExpired i) s = .next t ∧ t.fcu = { s.fcu with acts := s.fcu.acts ++ [(s.monCycle + 1, i.val)] }
        ∧ t.bmBit FCU_ESCR i = false ∧ t.armed (.escExpired i) = false ∧ t.safe = false ∧ t.engs = s.engs)
    ∧ (∀ i m : Nat, s.fcu.acts = [(m, i)] → m ≤ s.monCycle → i < 192 → s.srcAction i = 2 →
      s.monStep.safe = true ∧ s.monStep.get FCU_STAT_SAFE_CAUSE = i ∧ s.monStep.armed .holdEnd = true ∧ s.monStep.fcu.acts = []
        ∧ ∀ n, n < s.nEngines → s.monStep.estate n = esHALTED)
    ∧ (∀ (c i : Nat) (l : List (Nat × Nat)), s.fcu.soPend = (c, i) :: l → i < 192 → s.holder = true → s.bit FCU_CTRL_SO_FALLBACK = true →
      ∃ t, exec .soFallback s = .next t ∧ t.safe = true ∧ t.get FCU_STAT_SAFE_CAUSE = i ∧ t.fcu.soPend = []
        ∧ t.armed .soFallback = false))
  ∧ (
  (∀ s : State, s.safe = true → s.bit FCU_STAT_TX_OFF = false →
    ∃ u : State, exec .holdEnd s = .next (u.raiseN 0 0x02 (s.get FCU_HOLD_HOLD_MS)) ∧ (s.disarm .holdEnd).onlyRegs u [FCU_STAT]
      ∧ u.bit FCU_STAT_TX_OFF = true ∧ u.bit FCU_STAT_HOLDING = false ∧ u.safe = true)
  ∧ (∀ s : State, s.fcu.txRestart = true →
    ∃ t, exec .txRestart s = .next t ∧ t.bit FCU_STAT_TX_OFF = false ∧ t.fcu.txRestart = false
      ∧ (∀ k, k < s.nLinks → t.seized k = false) ∧ t.ring = s.ring ∧ t.engs = s.engs ∧ t.word LNK_EPOCH = s.word LNK_EPOCH))
  ∧ (
  ∀ (who : Who) (v : Word) (s u : State), s.admits who FCU_SAFE v u → u.fcu.checked = true →
    legalAt FCU_SAFE v = true → bitsOf v 15 0 = 0xA55A → u.safe = true →
    (∀ n, (u.apply FCU_SAFE v).exitRefusal = some n →
      exec (.safeExit who v) s = .next ((u.apply FCU_SAFE v).raiseN 0 0x04 n))
    ∧ ((u.apply FCU_SAFE v).exitRefusal = none →
      ∃ w : State, exec (.safeExit who v) s = .next ((w.raiseN 0 0x03 0).disarm .holdEnd) ∧ w.safe = false
        ∧ w.bit FCU_STAT_HOLDING = false ∧ w.fcu.txRestart = true ∧ w.ring = u.ring ∧ w.links = u.links
        ∧ ∀ a, a ≠ FCU_STAT → a ≠ FCU_SAFE → w.word a = u.word a))

/-- SELF_CHECK ends the reset self-check once: SELF_OK is set where every comparison reported, else source 3 is
collected.
INJECT_ARM with a mask of one to three bits arms checker `c`; FCU_CNT_CLR clears every detection counter; KICK starts
the watchdog's TMO_MS of 40,000 MON cycles again, and SUP_WDOG detects source 17 and starts it again. -/
def Obligations.CollectorServices : Prop :=
  (
  ∀ s : State, s.fcu.checked = false →
    (∃ t, exec (.selfCheck true) s = .next t ∧ t.bit FCU_STAT_SELF_OK = true ∧ t.fcu.checked = true
      ∧ (∀ a, a ≠ FCU_STAT → t.word a = s.word a) ∧ t.ring = s.ring ∧ t.engs = s.engs)
    ∧ (s.bit (FCU_SCFG_EN 3) = true → s.flagged 3 = false →
      ∃ t, exec (.selfCheck false) s = .next t ∧ t.fcu.checked = true ∧ t.flagged 3 = true
        ∧ t.bit FCU_STAT_SELF_OK = s.bit FCU_STAT_SELF_OK))
  ∧ (
  (∀ (who : Who) (c : Fin 78) (v : Word) (s u : State), s.admits who (FCU_INJ c) (withBit v 31) u → u.fcu.checked = true →
    legalAt (FCU_INJ c) (withBit v 31) = true → bitsOf v 16 0 ≠ 0 → weight (bitsOf v 16 0) 17 ≤ 3 → bitsOf v 29 23 = 0 →
    ∃ t, exec (.injectArm who c v) s = .next t ∧ u.onlyRegs t [FCU_INJ c] ∧ t.bit (FCU_INJ_ARM c) = true
      ∧ t.get (FCU_INJ_MASK c) = bitsOf v 16 0)
  ∧ (∀ (who : Who) (v : Word) (s u : State), s.admits who FCU_CTRL (withBit v 4) u → u.fcu.checked = true →
    legalAt FCU_CTRL (withBit v 4) = true → tb v 5 = false →
    ∃ t, exec (.fcuCntClr who v) s = .next t ∧ (∀ i, i < 192 → t.get (FCU_SCNT_COUNT i) = 0)
      ∧ u.onlyRegs t (FCU_CTRL :: (List.range 192).map FCU_SCNT))
  ∧ (∀ (who : Who) (v : Word) (s u : State), s.admits who FCU_WDOG (withBit v 31) u → u.fcu.checked = true →
    legalAt FCU_WDOG (withBit v 31) = true → bitsOf v 15 0 ≠ 0 →
    ∃ t, exec (.kick who v) s = .next t ∧ t = { u with regs := t.regs, alarms := t.alarms }
      ∧ (∀ a, a ≠ FCU_WDOG → t.word a = u.word a)
      ∧ t.alarms.filter (fun e => e.2 = .supWdog) = [(u.clk.now + (monLast (u.monCycle + 40000 * bitsOf v 15 0) - u.clk.now), .supWdog)])
  ∧ (∀ s : State, s.get FCU_WDOG_TMO_MS ≠ 0 → s.srcAbsent 17 = false →
    ∃ t, exec .supWdog s = .next t ∧ t.fcu.detq = s.fcu.detq ++ [17] ∧ t.regs = s.regs ∧ t.ring = s.ring
      ∧ t.alarms.filter (fun e => e.2 = .supWdog) = [(s.clk.now + (monLast (s.monCycle + 40000 * s.get FCU_WDOG_TMO_MS) - s.clk.now), .supWdog)]))

/-! ## Events, the router, rights (02, 14, 15) -/

/-- EVENT_ENTRY of the oldest event on its way, in good time, outside a power failure, with no write and no DROP
waiting and no trigger on events: it joins the held events, and its source becomes pending with the event's cause and value as its
latest; no other source's pending bit and no byte of the ring changes. See log entry 59.
EVENT_RELEASE writes the held event of lowest key into ring slot SEQ mod 32768 with that SEQ, and SEQ counts; every
other byte of the ring keeps its value. In a FAB cycle that has written a record already it does nothing.
EVR_CLAIM: a supervisor read takes the lowest source that was pending before this FAB cycle's events and is enabled:
the answer names it with its latest cause and its count then, EVR_CLAIM_VAL its value, and its pending bit and count
clear, or stay with the event of this cycle where one came (log entry 83); with none it answers 0. A read by the debug
port changes nothing. SOFTWARE_EVENT raises its event. -/
def Obligations.EventsHeldReleasedClaimed : Prop :=
  (
  ∀ (s : State) (e : Ev) (rest : List Ev), s.mrg.inflight = e :: rest → eccJudge e.ecc ≠ .bad → e.late = false →
    e.src < 512 → e.routed = true → s.T.toNat ≤ e.stamp.toNat + holdTicks → s.bit LDG_STAT_PF_ACTIVE = false →
    s.bit LDG_TRIG_EV_EN = false → s.bus.waiting = [] → s.mrg.dropDue = [] →
    ∃ t, exec .eventEntry s = .next t ∧ t.mrg.inflight = rest ∧ t.ring = s.ring
      ∧ t.mrg.held.length = s.mrg.held.length + 1
      ∧ (∃ h ∈ t.mrg.held, h.src = e.src ∧ h.cause = e.cause ∧ h.value = e.value ∧ h.stamp = e.stamp ∧ h.order = e.order)
      ∧ t.bmBit EVR_PEND e.src = true ∧ (t.evr e.src).cause = e.cause ∧ (t.evr e.src).value = e.value
      ∧ (t.evr e.src).count = min 255 ((s.evr e.src).count + 1)
      ∧ (∀ i, i < 512 → i ≠ e.src → t.bmBit EVR_PEND i = s.bmBit EVR_PEND i ∧ t.evr i = s.evr i)
      ∧ ∀ a, a ≠ EVR_PEND (e.src / 32) → t.word a = s.word a)
  ∧ (
  ∀ (s : State) (e : Ev) (rest : List Ev), s.mrg.held = e :: rest →
    (s.mrg.wroteAt = some s.clk.now → exec .eventRelease s = .next s)
    ∧ (s.mrg.wroteAt ≠ some s.clk.now →
    ∃ t, exec .eventRelease s = .next t ∧ t.mrg.wroteAt = some s.clk.now ∧ t.mrg.held = rest ∧ t.seq = (s.seq + 1) % 2 ^ 32
      ∧ readBytes zeroByte t.ring (32 * (s.seq % 32768)) 32 = e.record s.seq
      ∧ (∀ a, a < 32 * (s.seq % 32768) ∨ 32 * (s.seq % 32768) + 32 ≤ a → SMap.get zeroByte t.ring a = SMap.get zeroByte s.ring a)
      ∧ t.mrg.evr = s.mrg.evr ∧ t.links = s.links ∧ t.engs = s.engs ∧ t.wave = s.wave ∧ t.dtcm = s.dtcm ∧ t.mram = s.mram))
  ∧ (
  (∀ (b : Bool) (s : State) (i : Nat), s.admitsRead (.sup b) EVR_CLAIM → s.claimable = some i →
    ∃ t, exec (.evrClaim (.sup b)) s = .next t ∧ (s.evrWas i).wasPend = true ∧ s.bmBit EVR_EN i = true
      ∧ (∀ j, j < i → (s.evrWas j).wasPend = true → s.bmBit EVR_EN j = false)
      ∧ bitsOf t.bus.resp.data 8 0 = i ∧ bitsOf t.bus.resp.data 31 31 = 1
      ∧ bitsOf t.bus.resp.data 22 15 = (s.evrWas i).wasCause % 256 ∧ bitsOf t.bus.resp.data 30 23 = (s.evrWas i).wasCount % 256
      ∧ t.word EVR_CLAIM_VAL = (s.evrWas i).wasValue
      ∧ ((s.evr i).since ≠ some s.clk.now → t.bmBit EVR_PEND i = false ∧ (t.evr i).count = 0
        ∧ (s.evrWas i).wasPend = s.bmBit EVR_PEND i ∧ (s.evrWas i).wasValue = (s.evr i).value)
      ∧ ((s.evr i).since = some s.clk.now → t.bmBit EVR_PEND i = s.bmBit EVR_PEND i ∧ (t.evr i).count = 1 ∧ (t.evr i).value = (s.evr i).value
        ∧ (t.evrWas i).wasPend = false)
      ∧ (∀ j, j < 512 → j ≠ i → t.bmBit EVR_PEND j = s.bmBit EVR_PEND j ∧ t.evr j = s.evr j)
      ∧ t = { s with regs := t.regs, mrg := t.mrg, bus := t.bus })
  ∧ (∀ (b : Bool) (s : State), s.admitsRead (.sup b) EVR_CLAIM → s.claimable = none →
    exec (.evrClaim (.sup b)) s = .next (s.answer (.sup b) 0 false))
  ∧ (∀ s : State, s.admitsRead .dbg EVR_CLAIM → ∃ w : Word, exec (.evrClaim .dbg) s = .next (s.answer .dbg w false)
    ∧ (s.claimable = none → w = 0)
    ∧ (∀ i, s.claimable = some i → bitsOf w 8 0 = i ∧ bitsOf w 31 31 = 1 ∧ bitsOf w 22 15 = (s.evrWas i).wasCause % 256 ∧ bitsOf w 30 23 = (s.evrWas i).wasCount % 256))
  ∧ (∀ (who : Who) (v : Word) (s u : State), s.admits who EVR_SWEV v u → legalAt EVR_SWEV v = true →
    ∃ w : State, exec (.softwareEvent who v) s = .next (w.raise (408 + bitsOf v 6 0) (bitsOf v 15 8) (u.word EVR_SWVAL))
      ∧ u.onlyRegs w [EVR_SWEV]))

/-- Before the seal a boot-issued PERM_WRITE of an entry that names a page sets that entry and no other register; accesses
of its own FAB cycle are still judged by the old word. Any other write is denied with BOOT needed. A boot-issued SEAL with the key, and SEALED, seal the table once, with the
MFN; SEALED, the first fetch outside the boot ROM, takes a halt that was asked for before. The denial of a write that is not boot-issued is the model's reading (log entry 21). -/
def Obligations.PermissionTableSealed : Prop :=
  (∀ (e : Fin 256) (v : Word) (s u : State), s.bit RGT_STAT_SEALED = false → s.admits (.sup true) (RGT_PERM e) v u →
    e.val ≠ 1 → permNamesPage e = true → v &&& ~~~0x77 = 0 → legalAt (RGT_PERM e) v = true →
    ∃ t, exec (.permWrite (.sup true) e v) s = .next t ∧ t.permWord e = v ∧ t.permWas e = u.permWas e
      ∧ t = { u with regs := t.regs, bus := { u.bus with was := t.bus.was } } ∧ ∀ a, a ≠ RGT_PERM e → t.word a = u.word a)
  ∧ (∀ (who : Who) (e : Fin 256) (v : Word) (s : State), s.busQueue who = (s, false) →
    who ≠ .sup true ∨ s.bit RGT_STAT_SEALED = true →
    ∃ t, exec (.permWrite who e v) s = .next t ∧ t = s.deny who (RGT_PERM e) true 4 ∧ t.permWord e = s.permWord e)
  ∧ (∀ (v : Word) (s u : State), s.admits (.sup true) RGT_SEAL v u → u.get RGT_SEAL_KEY = 0 → bitsOf v 15 0 = 0x5EA1 →
    u.bit RGT_STAT_SEALED = false →
    ∃ w : State, exec (.seal (.sup true) v) s = .next (w.raiseN 44 0x02 u.mfn) ∧ w.bit RGT_STAT_SEALED = true
      ∧ u.onlyRegs w [RGT_SEAL, RGT_STAT])
  ∧ (∀ s : State, s.cores.haltReq = false → (s.bit RGT_STAT_SEALED = true → exec .sealed s = .next s)
    ∧ (s.bit RGT_STAT_SEALED = false →
      ∃ w : State, exec .sealed s = .next (w.raiseN 44 0x02 s.mfn) ∧ w.bit RGT_STAT_SEALED = true ∧ s.onlyRegs w [RGT_STAT]))
  ∧ (∀ s : State, s.cores.haltReq = true → ∃ t, exec .sealed s = .next t ∧ t.cores = { s.cores with haltReq := false, halted := true }
    ∧ t.bit RGT_STAT_SEALED = true)

/-- Roles: a boot-issued ROLE_WRITE, a GRANT whose credential passes every check, and a DROP_ROLE to a role at or below
the requester's set the role register; accesses of that FAB cycle are still judged by the old role (log entry 83); GRANT
consumes the challenge. A refused GRANT or DROP_ROLE leaves both role
registers and returns its status; in RECOVERY a credential of another role than MAKER is refused. Cores that do not run
call no service. That the cores' requests cease in a halt, are the model's reading (log
entry 22).
CHALLENGE loads eight words from the entropy source, sets CHAL_VALID and starts its 10 s, to the end of the TBS tick in
which they end; CHALLENGE_EXPIRY ends its validity. -/
def Obligations.RolesAndChallenge : Prop :=
  (
  (∀ (dbg : Bool) (v : Word) (s : State), legalAt (roleReg dbg) v = true → s.busQueue (.sup true) = (s, false) →
    s.auditWaits (.sup true) = false →
    ∃ t, exec (.roleWrite (.sup true) dbg v) s = .next t ∧ t.get ⟨roleReg dbg, 2, 0⟩ = bitsOf v 2 0
      ∧ t.word (roleReg (!dbg)) = s.word (roleReg (!dbg)) ∧ t.rgtWord (roleReg dbg) = s.rgtWord (roleReg dbg))
  ∧ (∀ (a1 : Word) (s : State) (c : List Byte), s.dtcmBytes a1.toNat 204 = some c → credFormat c = true →
    s.bit RGT_STAT_CHAL_VALID = true → s.auditWaits (.sup true) = false → s.issues (.sup true) = true →
    s.dtcmSeen a1.toNat 204 = s → s.bit SYS_STRAP_RECOVERY = false ∨ c.getD 4 0 = 3 →
    ∃ t, exec (.grant a1) s = .next t ∧ t.boot.status = s.credCheck c ∧ t.bit RGT_STAT_CHAL_VALID = false
      ∧ t.get ⟨roleReg (c.getD 5 0 == 1), 2, 0⟩ = (if s.credCheck c = 0 then (c.getD 4 0).toNat else s.get ⟨roleReg (c.getD 5 0 == 1), 2, 0⟩)
      ∧ t.word (roleReg (c.getD 5 0 != 1)) = s.word (roleReg (c.getD 5 0 != 1)))
  ∧ (∀ (a1 : Word) (s : State) (c : List Byte), (s.dtcmBytes a1.toNat 204).getD [] = c →
    (s.credJudge c).2 ≠ 0 → s.issues (.sup true) = true → s.bit SYS_STRAP_RECOVERY = false ∨ c.getD 4 0 = 3 →
    ∃ t, exec (.grant a1) s = .next t ∧ t.boot.status = (s.credJudge c).2
      ∧ t.word RGT_ROLE_SUP = s.word RGT_ROLE_SUP ∧ t.word RGT_ROLE_DBG = s.word RGT_ROLE_DBG
      ∧ (credFormat c = false → t.boot.status = 1)
      ∧ (credFormat c = true → s.bit RGT_STAT_CHAL_VALID = false → t.boot.status = 2))
  ∧ (∀ (role : Word) (dbg : Bool) (s : State), role.toNat ≤ s.get ⟨roleReg dbg, 2, 0⟩ → legalAt (roleReg dbg) role = true →
    s.issues (.sup true) = true → s.auditWaits (.sup true) = false →
    ∃ t, exec (.dropRole role (if dbg then 1 else 0)) s = .next t ∧ t.boot.status = 0
      ∧ t.get ⟨roleReg dbg, 2, 0⟩ = role.toNat ∧ t.word (roleReg (!dbg)) = s.word (roleReg (!dbg)))
  ∧ (∀ (role : Word) (dbg : Bool) (s : State), s.get ⟨roleReg dbg, 2, 0⟩ < role.toNat → s.issues (.sup true) = true →
    ∃ t, exec (.dropRole role (if dbg then 1 else 0)) s = .next t ∧ t.boot.status = 6 ∧ t.regs = s.regs ∧ t.dtcm = s.dtcm)
  ∧ (∀ (a1 : Word) (s : State) (c : List Byte), s.issues (.sup true) = true → s.bit SYS_STRAP_RECOVERY = true →
    (s.dtcmBytes a1.toNat 204).getD [] = c → credFormat c = true → c.getD 4 0 ≠ 3 →
    ∃ t, exec (.grant a1) s = .next t ∧ t.word RGT_ROLE_SUP = s.word RGT_ROLE_SUP ∧ t.word RGT_ROLE_DBG = s.word RGT_ROLE_DBG
      ∧ t.bit RGT_STAT_CHAL_VALID = s.bit RGT_STAT_CHAL_VALID)
  ∧ (∀ (a b : Word) (s : State), s.issues (.sup true) = false → exec (.grant a) s = .next s ∧ exec (.dropRole a b) s = .next s))
  ∧ (
  (∀ (who : Who) (s : State), s.admitsRead who (RGT_CHAL 0) →
    ∃ t, exec (.challenge who) s = .next t ∧ t.bit RGT_STAT_CHAL_VALID = true ∧ t.free = s.free + 8
      ∧ (∀ i, i < 8 → t.word (RGT_CHAL i) = Config.entropy (s.free + i))
      ∧ t.bus.resp = { who := who, data := Config.entropy s.free, err := false }
      ∧ t.alarms.filter (fun e => e.2 = .challengeExpiry) = [(s.clk.now + (if s.clk.cyc % 5 = 0 then 2500000001 else 2500000000), .challengeExpiry)]
      ∧ (∀ a, a ≠ RGT_STAT → (∀ i, i < 8 → a ≠ RGT_CHAL i) → t.word a = s.word a))
  ∧ (∀ s : State, ∃ t, exec .challengeExpiry s = .next t ∧ t.bit RGT_STAT_CHAL_VALID = false
      ∧ t = { s with regs := t.regs, alarms := t.alarms } ∧ ∀ a, a ≠ RGT_STAT → t.word a = s.word a))

/-- VAULT_SCAN outside a hold: SCAN_DONE is set, the lifecycle state and the rollback value are those of the cells, and
every word of a region that passes at normal margin is in use as it reads there. A device in FIELD without RECOVERY
with a region that does not pass is held in reset, and VAULT_HOLD_RESCAN releases it when every region passes, with
VHOLD in SYS_RST_CAUSE. See log entry 49.
Each of the Vault commands PROGRAM, LOCK_W, LOCK_R, ADVANCE_LC, ADVANCE_RB, REPAIR and RESCAN, numbered 1..7 in
VLT_CTRL.CMD, that passes every check sets BUSY, uses up the key of VLT_PKEY, and runs until its timed end; no
fuse changes yet. One that fails a check sets FAIL and VLT_ERR with its code, and does not run. -/
def Obligations.VaultScansAndCommandsStart : Prop :=
  (
  (∀ s : State, s.inReset = false → s.bit VLT_STAT_SCAN_DONE = false → s.vltHolds = false →
    ∃ t, exec .vaultScan s = .next t ∧ t.bit VLT_STAT_SCAN_DONE = true ∧ t.lc = lcState s.vlt.normal
      ∧ t.rollback = rbValue s.vlt.normal
      ∧ (∀ w, w < 512 → s.vlt.integrity (vltRegion w) ≠ some true → vget t.vlt.val w = s.vlt.normal w)
      ∧ (∀ w, w < 512 → s.vlt.integrity (vltRegion w) = some true → vget t.vlt.val w = s.vlt.strict w)
      ∧ t.vlt.aN = s.vlt.aN ∧ t.vlt.bN = s.vlt.bN ∧ t.links = s.links ∧ t.ring = s.ring)
  ∧ (∀ s : State, s.inReset = false → s.bit VLT_STAT_SCAN_DONE = false → s.vltHolds = true →
    ∃ t, exec .vaultScan s = .next t ∧ t.inReset = true ∧ t.vlt.hold.isSome = true ∧ t.armed .vaultHoldRescan = true
      ∧ t.links = [] ∧ t.engs = [] ∧ t.flash = s.flash ∧ t.mram = s.mram)
  ∧ (∀ s : State, s.vlt.hold.isSome = true → s.vltHolds = false → s.boot.porst = false → s.boot.rail = false →
    ∃ t, exec .vaultHoldRescan s = .next t ∧ t.inReset = false ∧ t.bit SYS_RST_CAUSE_VHOLD = true
      ∧ t.armed .vaultScan = true ∧ t.armed .supervisorRelease = true ∧ t.bit SYS_RST_CAUSE_POR = s.bit SYS_RST_CAUSE_POR
      ∧ t.flash = s.flash ∧ t.mram = s.mram))
  ∧ (
  ∀ (who : Who) (v : Word) (s u : State) (n : Nat) (c : Instr),
    (n, c) ∈ [(1, Instr.program who v), (2, .lockW who v), (3, .lockR who v), (4, .advanceLc who v), (5, .advanceRb who v),
      (6, .repair who v), (7, .rescan who v)] →
    s.admits who VLT_CTRL (setBits (withBit v 31) 27 24 n) u → legalAt VLT_CTRL (setBits (withBit v 31) 27 24 n) = true →
    ((u.apply VLT_CTRL (setBits (withBit v 31) 27 24 n)).vltRefusal n = none →
      ∃ t, exec c s = .next t ∧ t.bit VLT_STAT_BUSY = true ∧ t.vlt.pkey = false
        ∧ (∃ k, t.vlt.cmd = some k ∧ k.cmd = n ∧ k.region = bitsOf v 18 16 ∧ k.value = bitsOf v 7 0)
        ∧ t.armed (.vltCmdEnd true) = true ∧ t.vlt.aN = s.vlt.aN ∧ t.vlt.bN = s.vlt.bN ∧ t.vlt.val = s.vlt.val
        ∧ t.ring = s.ring)
    ∧ (∀ code, (u.apply VLT_CTRL (setBits (withBit v 31) 27 24 n)).vltRefusal n = some code →
      ∃ t, exec c s = .next t ∧ t.bit VLT_STAT_FAIL = true ∧ t.bit VLT_ERR_ERRV = true
        ∧ t.get VLT_ERR_CODE = code ∧ t.vlt.pkey = false ∧ t.vlt.cmd = s.vlt.cmd ∧ t.vlt.aN = s.vlt.aN ∧ t.vlt.bN = s.vlt.bN))

/-- VLT_CMD_END of a command whose pulses all took: every cell it pulses reads 1 at both margins, BUSY clears, DONE is
set. Where a pulse did not take, BUSY clears and FAIL is set with VERIFY; without a command in progress nothing happens. The pulse time is the model's (log entry 49).
PKEY with its key arms the next GO; SHADOW_WRITE sets the shadow word that VLT_SHADR names where its region may be
overridden; OVERRIDE_WRITE of such regions selects them; VAULT_READ answers the word in use, or 0 with RLOCKED for a
read-locked region unless boot-issued; in SCRAPPED regions 4, 6 and 7 read 0. -/
def Obligations.VaultCommandsEndAndServices : Prop :=
  (
  (∀ (s : State) (c : VltCmd), s.vlt.cmd = some c →
    ∃ t, exec (.vltCmdEnd true) s = .next t ∧ t.bit VLT_STAT_BUSY = false ∧ t.bit VLT_STAT_DONE = true ∧ t.vlt.cmd = none
      ∧ (∀ e ∈ c.cells, vget t.vlt.aN e.1 &&& e.2.1 = e.2.1 ∧ vget t.vlt.aS e.1 &&& e.2.1 = e.2.1
        ∧ vget t.vlt.bN e.1 &&& e.2.2 = e.2.2 ∧ vget t.vlt.bS e.1 &&& e.2.2 = e.2.2)
      ∧ (∀ w, (∀ e ∈ c.cells, e.1 ≠ w) → vget t.vlt.aN w = vget s.vlt.aN w ∧ vget t.vlt.bN w = vget s.vlt.bN w)
      ∧ (c.cmd = 1 → vget t.vlt.val c.addr = t.vlt.normal c.addr)
      ∧ t.ring = s.ring ∧ t.dtcm = s.dtcm)
  ∧ (∀ (s : State) (c : VltCmd), s.vlt.cmd = some c → c.cells ≠ [] →
    ∃ t, exec (.vltCmdEnd false) s = .next t ∧ t.bit VLT_STAT_BUSY = false ∧ t.bit VLT_STAT_FAIL = true
      ∧ t.get VLT_ERR_CODE = 10 ∧ t.vlt.cmd = none)
  ∧ ∀ (s : State) (good : Bool), s.vlt.cmd = none → exec (.vltCmdEnd good) s = .next s)
  ∧ (
  (∀ (who : Who) (v : Word) (s u : State), s.admits who VLT_PKEY v u → legalAt VLT_PKEY v = true → bitsOf v 15 0 = 0x0B1E →
    ∃ t, exec (.pkey who v) s = .next t ∧ t.vlt = { u.vlt with pkey := true } ∧ t = { u with regs := t.regs, vlt := t.vlt }
      ∧ ∀ a, a ≠ VLT_PKEY → t.word a = u.word a)
  ∧ (∀ (who : Who) (v : Word) (s u : State), s.admits who VLT_SHDAT v u →
    u.mayOverride (vltRegion (u.get VLT_SHADR_ADDR)) = true →
    ∃ t, exec (.shadowWrite who v) s = .next t ∧ vget t.vlt.shadow (u.get VLT_SHADR_ADDR) = v
      ∧ (∀ w, w ≠ u.get VLT_SHADR_ADDR → vget t.vlt.shadow w = vget u.vlt.shadow w)
      ∧ t = { u with vlt := { u.vlt with shadow := t.vlt.shadow } })
  ∧ (∀ (who : Who) (v : Word) (s u : State), s.admits who VLT_OVR v u → legalAt VLT_OVR v = true →
    (∀ r, r < 8 → tb v r = true → u.mayOverride r = true) →
    ∃ t, exec (.overrideWrite who v) s = .next t ∧ t.get VLT_OVR_OVR = bitsOf v 7 0
      ∧ (∀ r, r < 8 → t.bit (VLT_RSTAT_OVR r) = tb v r)
      ∧ u.onlyRegs t (VLT_OVR :: (List.range 8).map VLT_RSTAT))
  ∧ (∀ (who : Who) (w : Fin 512) (s : State), s.admitsRead who (0x400B0800 + 4 * w) →
    (s.lc = lcSCRAPPED → vltRegion w = 4 ∨ vltRegion w = 6 ∨ vltRegion w = 7 → exec (.vaultRead who w) s = .next (s.answer who 0 false))
    ∧ (s.lc ≠ lcSCRAPPED ∨ ¬(vltRegion w = 4 ∨ vltRegion w = 6 ∨ vltRegion w = 7) →
    (s.vlt.rlock (vltRegion w) = false ∨ who = .sup true →
      exec (.vaultRead who w) s = .next (s.answer who (s.vltWord w) false))
    ∧ (s.vlt.rlock (vltRegion w) = true → who ≠ .sup true →
      exec (.vaultRead who w) s = .next ((s.raiseN 35 0x07 w).answer who 0 false)))))

/-! ## Time and clocks (02, 17) -/

/-- MAJOR_FRAME_START out of reset: MFN counts modulo 2^32, FAB cycle 0 begins, the frame starts 1920 ticks of T after the
last, and every bootstrap round that was asked for is started, and in LEADER a pulse goes out on SYNC_OUT, wide where an epoch
begins; the FAB clock and the memories stay.
TIME_LOAD where the load is allowed makes it pending, elsewhere it raises ACCESS; TIME_LOAD_APPLY sets T to the load
value at the frame start, the grid phase to that value modulo 1920, and ends the load. -/
def Obligations.FramesAndTimeLoads : Prop :=
  (
  ∀ s : State, s.inReset = false →
    ∃ t, exec .majorFrameStart s = .next t ∧ t.mfn = (s.mfn + 1) % 2 ^ 32 ∧ t.clk.cyc = 0 ∧ t.T = s.clk.tBase + 1920
      ∧ t.clk.now = s.clk.now ∧ (∀ n : Fin 4, (s.round n).step = .requested → t.armed (.bootRoundStart n) = true)
      ∧ t.ring = s.ring ∧ t.prog = s.prog ∧ t.ctx = s.ctx ∧ t.scr = s.scr ∧ t.ents = s.ents ∧ t.dtcm = s.dtcm
      ∧ t.mint = s.mint ∧ t.vlt = s.vlt ∧ t.wave = s.wave
      ∧ t.clk.syncOut = if s.get TBS_SYNC_CTRL_MODE = 1 then some (t.T, if t.mfn % 2 = 0 then 8 else 4) else s.clk.syncOut)
  ∧ (
  (∀ (who : Who) (v : Word) (s u : State), s.admits who TBS_CTRL (withBit v 0) u →
    (u.loadAllowed = true → ∃ t, exec (.timeLoad who v) s = .next t ∧ t.bit TBS_STATUS_LOAD_PEND = true
      ∧ t = { u with regs := t.regs, clk := t.clk } ∧ t.T = u.T ∧ ∀ a, a ≠ TBS_STATUS → t.word a = u.word a)
    ∧ (u.loadAllowed = false → exec (.timeLoad who v) s = .next (u.access TBS_CTRL)))
  ∧ (∀ s : State, s.bit TBS_STATUS_LOAD_PEND = true →
    ∃ t, exec .timeLoadApply s = .next t ∧ t.bit TBS_STATUS_LOAD_PEND = false
      ∧ t.clk.tBase = (s.word TBS_LOAD_HI ++ s.word TBS_LOAD_LO)
      ∧ t.get TBS_MFOFS_OFS = (s.word TBS_LOAD_HI ++ s.word TBS_LOAD_LO).toNat % 1920
      ∧ t.mfn = (s.clk.loadMfn.map (·.toNat)).getD s.mfn ∧ t.clk.now = s.clk.now ∧ t.clk.cyc = s.clk.cyc
      ∧ t = { s with regs := t.regs, clk := t.clk }
      ∧ ∀ a, a ≠ TBS_STATUS → a ≠ TBS_MFOFS → a ≠ TBS_MFN → t.word a = s.word a)
  ∧ (∀ s : State, s.bit TBS_STATUS_LOAD_PEND = false → exec .timeLoadApply s = .next s))

/-- SYNC_PULSE in ALIGN keeps the measured error and sets LOCKED at the fourth pulse in a row within a tick; in FOLLOWER
the fourth in a row more than two ticks off clears LOCKED, sets SYNC_LOST and raises it; both repeat the pulse on
SYNC_OUT; in the other modes it does nothing. SYNC_MISSING in FOLLOWER sets SYNC_LOST and raises it once. See log
entries 27 and 67.
SYNC_ALIGN in ALIGN with a measured pulse moves the start of the major frame to the pulse, modulo 1920 ticks,
without touching T: MFN moves by at most one, so that its parity says whether the frame in progress is the pulse's
own. The rounding and the parity are the model's reading (log entry 27). -/
def Obligations.SyncPulsesAlignGrid : Prop :=
  (
  (∀ (err : Int) (wide : Bool) (s : State), s.get TBS_SYNC_CTRL_MODE = 3 →
    ∃ t, exec (.syncPulse err wide) s = .next t
      ∧ t.getInt TBS_SYNC_STAT_ERR = fromGrid (err - s.get TBS_SYNC_CTRL_DLY) ∧ t.clk.align.isSome = true
      ∧ t.clk.syncOut = some (s.T, if wide then 8 else 4)
      ∧ ((fromGrid (err - s.get TBS_SYNC_CTRL_DLY)).natAbs ≤ 1 → 3 ≤ s.clk.syncGood → t.bit TBS_SYNC_STAT_LOCKED = true)
      ∧ (1 < (fromGrid (err - s.get TBS_SYNC_CTRL_DLY)).natAbs → t.clk.syncGood = 0)
      ∧ t = { s with regs := t.regs, clk := t.clk } ∧ t.T = s.T ∧ ∀ a, a ≠ TBS_SYNC_STAT → t.word a = s.word a)
  ∧ (∀ (err : Int) (wide : Bool) (s : State), s.get TBS_SYNC_CTRL_MODE = 2 →
    2 < (fromGrid (err - s.get TBS_SYNC_CTRL_DLY)).natAbs → s.clk.syncBad = 3 →
    ∃ u : State, exec (.syncPulse err wide) s = .next (u.raiseN 41 0x01 (ofInt 32 (fromGrid (err - s.get TBS_SYNC_CTRL_DLY))))
      ∧ u.bit TBS_SYNC_STAT_LOCKED = false ∧ u.bit TBS_SYNC_STAT_SYNC_LOST = true ∧ u.T = s.T ∧ u.ring = s.ring
      ∧ u.clk.syncOut = some (s.T, if wide then 8 else 4) ∧ ∀ a, a ≠ TBS_SYNC_STAT → u.word a = s.word a)
  ∧ (∀ (err : Int) (wide : Bool) (s : State), s.get TBS_SYNC_CTRL_MODE < 2 → exec (.syncPulse err wide) s = .next s)
  ∧ (∀ s : State, s.get TBS_SYNC_CTRL_MODE = 2 → s.clk.missing = false →
    ∃ u : State, exec .syncMissing s = .next (u.raiseN 41 0x02 0) ∧ u.bit TBS_SYNC_STAT_SYNC_LOST = true ∧ u.clk.missing = true
      ∧ u.T = s.T ∧ ∀ a, a ≠ TBS_SYNC_STAT → u.word a = s.word a))
  ∧ (
  ∀ (s : State) (tp : Int) (wide : Bool), s.clk.align = some (tp, wide) → s.get TBS_SYNC_CTRL_MODE = 3 →
    ∃ t, exec .syncAlign s = .next t ∧ t.clk.align = none ∧ t.T = s.T ∧ t.clk.cyc < 2400
      ∧ ((s.T.toNat : Int) - tp) % 1920 = ((s.T - t.clk.tBase).toNat : Int)
      ∧ (t.mfn = s.mfn ∨ t.mfn = s.mfn + 1 ∨ t.mfn + 1 = s.mfn)
      ∧ ((t.mfn % 2 = 1) ↔ ((((s.T.toNat : Int) - tp) / 1920 + (if wide then 0 else 1)) % 2 = 1))
      ∧ t = { s with regs := t.regs, clk := t.clk } ∧ ∀ a, a ≠ TBS_MFOFS → a ≠ TBS_MFN → t.word a = s.word a)

/-- CLOCK_CHECK: a clock whose count lies outside 8 % of nominal in this window and the last, and that is not in fault,
enters its fault and is detected; one within tolerance leaves its fault. AON is counted by log entry 69. PLL_UNLOCK and PLL_LOCK of a PLL that was locked, or not: its
status, its event and, for the loss, CLK_FAULT and its detection. See log entry 26.
TCK_WINDOW stores the rate of TCK and its SLOW status and reports a change, and does what the probe did in
it: an instruction selects a register, a capture takes IDCODE, BYPASS's 0 or the balls, and in EXTEST the scan register
drives the balls; the supply commands set their status and
raise their events, PWRGOOD_FALL with its detection. -/
def Obligations.ClockAndSupplyFaults : Prop :=
  (
  (∀ (c : ClkCounts) (s : State), ∃ t, exec (.clockCheck c) s = .next t
      ∧ (∀ m, m ∈ t.clk.clkFault ↔ m ∈ t.clk.badWin ∧ (m ∈ s.clk.clkFault ∨ m ∈ s.clk.badWin))
      ∧ (.ref ∈ t.clk.badWin ↔ 100 * c.ref < 92 * 160 ∨ 108 * 160 < 100 * c.ref)
      ∧ (.fab ∈ t.clk.badWin ↔ 100 * c.fab < 92 * 1600 ∨ 108 * 1600 < 100 * c.fab)
      ∧ (.sup ∈ t.clk.badWin ↔ 100 * c.sup < 92 * 2560 ∨ 108 * 2560 < 100 * c.sup)
      ∧ (.lnk ∈ t.clk.badWin ↔ 100 * c.lnk < 92 * 2560 ∨ 108 * 2560 < 100 * c.lnk)
      ∧ (.tbs ∈ t.clk.badWin ↔ 100 * c.tbs < 92 * 1280 ∨ 108 * 1280 < 100 * c.tbs)
      ∧ (.mon ∈ t.clk.badWin ↔ 100 * c.mon < 92 * 256 ∨ 108 * 256 < 100 * c.mon)
      ∧ (∀ m, m ∈ t.clk.badWin → m ∈ s.clk.badWin → m ∉ s.clk.clkFault → clkSource m ∈ t.fcu.detq)
      ∧ t.T = s.T ∧ t.ring = s.ring ∧ t.links = s.links ∧ t.engs = s.engs)
  ∧ (∀ (p : Pll) (s : State), s.pllLocked p = true →
    ∃ u : State, exec (.pllUnlock p) s = .next (((u.raiseN 32 0x01 (pllNum p)).raiseN 32 0x03 (11 + pllNum p)).detect (11 + pllNum p)) ∧ u.pllLocked p = false
      ∧ s.onlyRegs u [SYS_CLKSTAT, TBS_STATUS])
  ∧ (∀ (p : Pll) (s : State), s.pllLocked p = false →
    ∃ u : State, exec (.pllLock p) s = .next (u.raiseN 32 0x02 (pllNum p)) ∧ u.pllLocked p = true
      ∧ (s.disarm (.pllLock p)).onlyRegs u [SYS_CLKSTAT, TBS_STATUS]))
  ∧ (
  (∀ (cnt : Nat) (ops : List TapOp) (s : State), ops.foldl State.tapOp s = { s with boot := (ops.foldl State.tapOp s).boot, free := (ops.foldl State.tapOp s).free }
    ∧ ∃ u : State, exec (.tckWindow cnt ops) s = .next (if decide (cnt < 26) = s.bit SYS_CLKSTAT_TCK_SLOW then u else u.raiseN 32 (if cnt < 26 then 0x04 else 0x05) (min 65535 (cnt * 625 / 4)))
      ∧ u.get SYS_CLKSTAT_TCK_KHZ = min 65535 (cnt * 625 / 4) ∧ u.bit SYS_CLKSTAT_TCK_SLOW = decide (cnt < 26) ∧ (ops.foldl State.tapOp s).onlyRegs u [SYS_CLKSTAT])
  ∧ (∀ (cnt : Nat) (s : State), (∀ i, ∃ t, exec (.tckWindow cnt [.ir i]) s = .next t ∧ t.boot = { s.boot with tap := i })
    ∧ (∃ t, exec (.tckWindow cnt [.ir .idcode, .capture]) s = .next t ∧ t.boot.captured = (List.range 32).map (fun i => s.idcode.getLsbD i))
    ∧ (∃ t, exec (.tckWindow cnt [.ir .bypass, .capture]) s = .next t ∧ t.boot.captured = [false])
    ∧ (∃ t, exec (.tckWindow cnt [.ir .sample, .capture]) s = .next t ∧ t.boot.captured.length = scanPins.length)
    ∧ (∀ bits : List Bool, bits.length = scanPins.length → ∃ t, exec (.tckWindow cnt [.ir .extest, .update bits]) s = .next t ∧ t.boot.scan = bits
      ∧ ∀ p : Pin, p ∈ scanPins → pinDriven p = true → t.pin p = .level (bits.getD (scanPins.findIdx (fun q => decide (q = p))) false)))
  ∧ (∀ s : State, (∃ u : State, exec .pwrgoodFall s = .next ((u.raiseN 34 0x03 0).detect 15) ∧ u.bit SYS_PWRSTAT_PWRGOOD = false
      ∧ s.onlyRegs u [SYS_PWRSTAT])
    ∧ (∃ u : State, exec .pwrgoodRise s = .next (u.raiseN 34 0x04 0) ∧ u.bit SYS_PWRSTAT_PWRGOOD = true ∧ s.onlyRegs u [SYS_PWRSTAT])
    ∧ (∃ u : State, exec .vppIn s = .next (u.raiseN 34 0x05 0) ∧ u.bit SYS_PWRSTAT_VPP_OK = true ∧ u.bit VLT_STAT_VPP_OK = true
      ∧ s.onlyRegs u [SYS_PWRSTAT, VLT_STAT])
    ∧ (∃ u : State, exec .vppOut s = .next (u.raiseN 34 0x06 0) ∧ u.bit SYS_PWRSTAT_VPP_OK = false ∧ u.bit VLT_STAT_VPP_OK = false
      ∧ s.onlyRegs u [SYS_PWRSTAT, VLT_STAT])))

/-! ## The links (03, 04) -/

/-- TRAIN from OFF or FAILED with EN takes the link to LOCK with TRAIN reading 1, and in SCRAPPED leaves it there. LINK_DISABLE of a link that is not OFF
makes OFF due at its next link frame and leaves its state until then. LNK_CNT_CLR clears the counters. Readings of
the bring-up: log entry 28. -/
def Obligations.LinkControl : Prop :=
  ∀ (who : Who) (k : Link) (v : Word) (s u : State), k.val < s.nLinks →
    (s.admits who (LNK_CTRL k) (withBit v 1) u → legalAt (LNK_CTRL k) (withBit v 1) = true → tb v 0 = true →
      (u.link k).offPend = false → u.lstate k = lsOFF ∨ u.lstate k = lsFAILED →
      (u.scrapped = false → ∃ t, exec (.train who k v) s = .next t ∧ t.lstate k = lsLOCK ∧ t.bit (LNK_CTRL_TRAIN k) = true ∧ t.bit (LNK_CTRL_EN k) = true
        ∧ t.role k = bitsOf v 13 12 ∧ (tb v 15 = false → u.role k = bitsOf v 13 12 → u.onlyLink t k [LNK_CTRL k, LNK_STATUS k]))
      ∧ (u.scrapped = true → ∃ t, exec (.train who k v) s = .next t ∧ t.lstate k = u.lstate k))
    ∧ (s.admits who (LNK_CTRL k) (v &&& ~~~1) u → legalAt (LNK_CTRL k) (v &&& ~~~1) = true → bitsOf v 13 12 = u.role k →
      u.bit (LNK_CTRL_EN k) = true → u.lstate k ≠ lsOFF →
      ∃ t, exec (.linkDisable who k v) s = .next t ∧ t.bit (LNK_CTRL_EN k) = false ∧ (t.link k).offPend = true
        ∧ t.lstate k = u.lstate k ∧ (tb v 15 = false → u.onlyLink t k [LNK_CTRL k]))
    ∧ (s.admits who (LNK_CTRL k) (withBit v 15) u → legalAt (LNK_CTRL k) (withBit v 15) = true → bitsOf v 13 12 = u.role k →
      tb v 0 = u.bit (LNK_CTRL_EN k) → tb v 1 = false →
      ∃ t, exec (.lnkCntClr who k v) s = .next t
        ∧ (∀ f ∈ [LNK_CNT_CRC_COUNT k, LNK_CNT_CODE_COUNT k, LNK_CNT_SEQ_COUNT k, LNK_CNT_TRIPX_COUNT k, LNK_CNT_OVF_COUNT k, LNK_CNT_LATE_COUNT k, LNK_CNT_TRIP_COUNT k, LNK_CNT_ROLEX_COUNT, LNK_CNT_AUTHX_COUNT, LNK_CNT_AUDITX_COUNT, LNK_CNT_AUTON_COUNT], t.get f = 0)
        ∧ t.lstate k = u.lstate k ∧ t = { u with regs := t.regs })

/-- Training goes step by step: LOCK fails after 1024 link frames; MEASURE takes the advance as half the round trip and
goes to ADVANCE, or fails above 400; VERIFY within 2 units is TRAINED with stale count 0 and STALE and NOVALID as they
were, its first miss measures again, its second fails; a re-measurement stores its offset and sends a new advance where
it is off by more than 4, in the safe state none. No step touches another link. See log entry 28. -/
def Obligations.TrainingSteps : Prop :=
  ∀ (k : Link) (s : State),
    (s.lstate k = lsLOCK → 1024 ≤ (s.link k).lockFrames →
      ∃ t, exec (.lockTimeout k) s = .next t ∧ t.lstate k = lsFAILED ∧ t.get (LNK_ERR_CODE k) = 7 ∧ t.bit (LNK_CTRL_TRAIN k) = false
        ∧ ∀ j, j ≠ k.val → t.link j = s.link j)
    ∧ (∀ mean : Nat, s.lstate k = lsMEASURE →
      (mean ≤ 800 → ∃ t, exec (.measureDone k mean) s = .next t ∧ t.lstate k = lsADVANCE ∧ t.get (LNK_TIMING_RTT k) = mean
        ∧ (t.link k).advPend = some ((mean + 1) / 2) ∧ s.onlyLink t k [LNK_STATUS k, LNK_TIMING k])
      ∧ (800 < mean → ∃ t, exec (.measureDone k mean) s = .next t ∧ t.lstate k = lsFAILED ∧ t.get (LNK_ERR_CODE k) = 2
        ∧ t.get (LNK_TIMING_RTT k) = min mean 2047 ∧ ∀ j, j ≠ k.val → t.link j = s.link j))
    ∧ (∀ mean : Int, s.lstate k = lsVERIFY →
      (-2 ≤ mean → mean ≤ 2 → ∃ t, exec (.verifyDone k mean) s = .next t ∧ t.lstate k = lsTRAINED ∧ t.getInt (LNK_TIMING_OFS k) = mean
        ∧ t.get (LNK_STATUS_STALE_CNT k) = 0 ∧ (t.link k).mb = (s.link k).mb ∧ s.onlyLink t k [LNK_STATUS k, LNK_CTRL k, LNK_TIMING k])
      ∧ (2 < mean.natAbs → (s.link k).verified = false → ∃ t, exec (.verifyDone k mean) s = .next t ∧ t.lstate k = lsMEASURE
        ∧ (t.link k).verified = true ∧ s.onlyLink t k [LNK_STATUS k, LNK_TIMING k])
      ∧ (2 < mean.natAbs → (s.link k).verified = true → ∃ t, exec (.verifyDone k mean) s = .next t ∧ t.lstate k = lsFAILED
        ∧ t.get (LNK_ERR_CODE k) = 6 ∧ ∀ j, j ≠ k.val → t.link j = s.link j))
    ∧ (∀ mean : Int, (s.link k).remeasOn = true → (s.link k).remeasOk = true → s.trained k = true → mean.natAbs ≤ 100 →
      ∃ t, exec (.remeasure k mean) s = .next t ∧ t.getInt (LNK_TIMING_OFS k) = mean ∧ t.lstate k = lsTRAINED
        ∧ (mean.natAbs ≤ 4 → (t.link k).advPend = (s.link k).advPend)
        ∧ (4 < mean.natAbs → ∀ d : Nat, d ≤ 400 → (d : Int) = s.get (LNK_TIMING_ADV k) + (mean + 1) / 2 →
          (t.link k).advPend = (if s.safe then (s.link k).advPend else some d)))

/-- A trained link without a comma for four frames is LOST with its event and detection, unseized; one whose stale count
reaches LIMIT sets WDOG, raises WDOG and is detected, and stays trained.
A supervisor write of LNK_ACT where ACT_SRC gives the values to the supervisor sets exactly that register; a command
of the supervisor that times out clears the channel with error 4 and FAIL. -/
def Obligations.LinkLossWatchdogTimeouts : Prop :=
  (
  ∀ (k : Link) (s : State), k.val < s.nLinks → s.trained k = true →
    (4 ≤ (s.link k).missed → ∃ t, exec (.linkLost k) s = .next t ∧ t.lstate k = lsLOST ∧ t.bit (LNK_STATUS_LOST_EV k) = true
      ∧ 96 + k.val ∈ t.fcu.detq ∧ (t.link k).seize = none ∧ t.seized k = false
      ∧ (∀ j, j ≠ k.val → j < 96 → t.link j = s.link j ∧ t.lstate j = s.lstate j) ∧ t.ring = s.ring)
    ∧ (s.get (LNK_WDOG_LIMIT k) ≠ 0 → s.get (LNK_WDOG_LIMIT k) ≤ s.get (LNK_STATUS_STALE_CNT k) → (s.link k).wdogEp = false →
      ∃ t, exec (.linkWdog k) s = .next t ∧ t.bit (LNK_STATUS_WDOG k) = true ∧ 96 + k.val ∈ t.fcu.detq ∧ t.lstate k = lsTRAINED
        ∧ (∀ j, j ≠ k.val → j < 96 → t.link j = s.link j ∧ t.lstate j = s.lstate j) ∧ t.ring = s.ring))
  ∧ (
  (∀ (who : Who) (k : Link) (v : Word) (s u : State), s.admits who (LNK_ACT k) v u → u.bit (LNK_CTRL_ACT_SRC k) = true → u.safe = false →
    ∃ t, exec (.lnkActWrite who k v) s = .next t ∧ u.onlyRegs t [LNK_ACT k] ∧ t.word (LNK_ACT k) = v)
  ∧ (∀ (who : Who) (k : Link) (v : Word) (s u : State), s.admits who (LNK_ACT k) v u →
    u.bit (LNK_CTRL_ACT_SRC k) = false ∨ u.safe = true → exec (.lnkActWrite who k v) s = .next (u.access (LNK_ACT k)))
  ∧ (∀ (k : Link) (s : State) (c : Cmd), (s.link k).cmd = some c → c.acked = false → s.cmdLimit k c ≤ c.frames → (c.owner = .training → s.trained k = false) →
    ∃ t, exec (.cmdTimeout k) s = .next t ∧ (t.link k).cmd = none ∧ t.get (LNK_ERR_CODE k) = 4 ∧ t.get (LNK_ERR_VALUE k) = c.op.toNat
      ∧ (c.owner = .supervisor → t.bit (LNK_CMD_STAT_FAIL k) = true) ∧ (c.owner = .training → t.lstate k = lsFAILED)
      ∧ ∀ j, j ≠ k.val → t.link j = s.link j))

/-- An upstream frame of a trained link: with a code error, a wrong sequence nibble or a wrong CRC, in that order, its
counter counts and nothing is queued, and a tripped one whose CRC fails counts beside;  a good one joins the upstream queue as the last entry with its fields, the
oldest lost from a full queue. A link that is OFF takes none. The link frame of arrival: log entry 11.
MAILBOX_UPDATE. The newest queued frame with the sequence nibble of the link frame's interval becomes current: the mailbox
takes it with its slot word, is not stale, its count is 0, and the older entries are counted LATE. With no such frame the
mailbox turns stale, keeps its data, and its count goes up. Every queue is empty afterwards. Entries or a mailbox
that cannot be read are apart; the extension of the slot word is log entry 30.
The consumers of MAILBOX_UPDATE. A feed's energy takes V × I of a fresh frame, which FSM_MEAS and FSM_PWR show, or the
last product again, counted in SUBST. An enabled purse is debited three times a positive product; after a frame whose CRC
failed the last product, and after a missing one its ceiling; never below the debt limit. The Tally of an enabled string takes
off the current of its link, or its last one. A LINK channel that records a link writes the frame, one whose CRC failed as
decoded with CRCF, or the last with STALE. The debit after a frame whose CRC failed is log entry 42. -/
def Obligations.UpstreamFramesAndMailboxes : Prop :=
  (
  (∀ (k : Link) (f : UpFrame) (s : State), f.wellFormed = true → s.lstate k = lsOFF → exec (.upstreamFrame k f) s = .next s)
  ∧ ∀ (k : Link) (f : UpFrame) (s : State), f.wellFormed = true → k.val < s.nLinks → s.trained k = true →
    ∃ t, exec (.upstreamFrame k f) s = .next t
      ∧ t.get (LNK_CNT_TRIPX_COUNT k) = (if (s.link k).tripped && crcFails f.syms then min (s.get (LNK_CNT_TRIPX_COUNT k) + 1) (LNK_CNT_TRIPX_COUNT k).max else s.get (LNK_CNT_TRIPX_COUNT k))
      ∧ (codeError f.syms = true → t.get (LNK_CNT_CODE_COUNT k) = min (s.get (LNK_CNT_CODE_COUNT k) + 1) (LNK_CNT_CODE_COUNT k).max
        ∧ (t.link k).queue = (s.link k).queue)
      ∧ (codeError f.syms = false → (symAt f.syms 10).toNat / 16 ≠ s.arrival % 16 →
        t.get (LNK_CNT_SEQ_COUNT k) = min (s.get (LNK_CNT_SEQ_COUNT k) + 1) (LNK_CNT_SEQ_COUNT k).max ∧ (t.link k).queue = (s.link k).queue)
      ∧ (codeError f.syms = false → (symAt f.syms 10).toNat / 16 = s.arrival % 16 → crcError f.syms = true →
        t.get (LNK_CNT_CRC_COUNT k) = min (s.get (LNK_CNT_CRC_COUNT k) + 1) (LNK_CNT_CRC_COUNT k).max ∧ (t.link k).queue = (s.link k).queue
        ∧ (t.link k).badFrame = some (upData f.syms (s.link k).tripped))
      ∧ (codeError f.syms = false → (symAt f.syms 10).toNat / 16 = s.arrival % 16 → crcError f.syms = false →
        (t.link k).queue.map (·.val) = (if 4 ≤ (s.link k).queue.length then (s.link k).queue.drop 1 else (s.link k).queue).map (·.val) ++ [upData f.syms (s.link k).tripped])
      ∧ t.ring = s.ring ∧ t.engs = s.engs ∧ ∀ j, j ≠ k.val → t.link j = s.link j)
  ∧ (
  ∀ s : State, s.inReset = false → ∃ t, exec .mailboxUpdate s = .next t ∧ t.clk = s.clk ∧ ∀ k, k < s.nLinks →
    (t.link k).queue = [] ∧ (t.link k).badFrame = none
    ∧ (∀ u : UpData, s.arrives k u → let slot := u.sq.toNat % 16
      (t.link k).mb.data = u ∧ (t.link k).mb.stale = false ∧ (t.link k).mb.strobe.toNat = (s.lf + 30) % 32
      ∧ t.get (LNK_STATUS_STALE_CNT k) = 0 ∧ (t.link k).ack = stAck u.st
      ∧ SMap.get (fun _ => 0) (t.link k).mb.aux slot = (if slotSigned (!stRoleOk u.st) (s.role k) slot then sext16 u.x else zext16 u.x)
      ∧ t.get (LNK_CNT_LATE_COUNT k) = min (s.get (LNK_CNT_LATE_COUNT k) + ((s.link k).queue.length - 1)) (LNK_CNT_LATE_COUNT k).max)
    ∧ (s.missing k →
      (t.link k).mb.stale = true ∧ (t.link k).mb.data = (s.link k).mb.data ∧ (t.link k).mb.crcf = (s.link k).badFrame.isSome
      ∧ t.get (LNK_STATUS_STALE_CNT k) = min (s.get (LNK_STATUS_STALE_CNT k) + 1) (LNK_STATUS_STALE_CNT k).max))
  ∧ (
  ∀ s : State, s.inReset = false → ∃ t, exec .mailboxUpdate s = .next t ∧ ∀ k, k < s.nLinks →
    (s.role k = rlFEED →
      (∀ u : UpData, s.arrives k u → t.getInt (FSM_PWR_P k) = u.v.toInt * u.i.toInt ∧ t.get (FSM_MEAS_V k) = u.v.toNat ∧ t.get (FSM_MEAS_I k) = u.i.toNat
        ∧ t.feedEnergy k = (BitVec.ofInt 76 (s.feedEnergy k + u.v.toInt * u.i.toInt)).toNat ∧ t.get (FSM_MSTAT_SUBST k) = s.get (FSM_MSTAT_SUBST k))
      ∧ (s.missing k → t.word (FSM_PWR k) = s.word (FSM_PWR k) ∧ t.feedEnergy k = (BitVec.ofInt 76 (s.feedEnergy k + s.getInt (FSM_PWR_P k))).toNat
        ∧ t.get (FSM_MSTAT_SUBST k) = min (s.get (FSM_MSTAT_SUBST k) + 1) (FSM_MSTAT_SUBST k).max)
      ∧ (s.mint.run = true → s.safe = false → (s.purse k).on = true → s.eccRead 76 (mintWordOf (MNT_PCFG k)) ≠ .bad → s.bit (FCU_INJ_ARM 76) = false →
        (∀ u : UpData, s.arrives k u → (t.purse k).bal = max ((s.purse k).bal - 3 * (u.v.toInt * u.i.toInt).toNat) (-s.debtMax))
        ∧ (s.missing k → (t.purse k).bal = max ((s.purse k).bal - (if (s.link k).badFrame.isSome then 3 * (s.getInt (FSM_PWR_P k)).toNat else s.mget (MNT_PLIM_CEIL k) * 1562500)) (-s.debtMax))))
    ∧ (∀ st, st < 8 → s.strOn st = true → s.bget (BAT_SCFG_LINK st) = k →
      (∀ u : UpData, s.arrives k u → s.role k = rlBATT → t.tally st = (BitVec.ofInt 64 (s.tally st - u.i.toInt)).toInt)
      ∧ (s.missing k ∨ s.role k ≠ rlBATT → t.tally st = (BitVec.ofInt 64 (s.tally st - (s.bstr st).iLast)).toInt))
    ∧ (∀ c, c < 16 → s.get (LDG_WCH_SRC c) = 1 → s.get (LDG_WCH_LINK c) = k → s.bit (LDG_WST_FROZEN c) = false → (s.wch c).left ≠ some 0 →
      s.eccRead 73 ((c * 0x10000 + 8 * s.get (LDG_WST_WIDX c)) / 16) ≠ .bad →
      let rec8 := fun (u : UpData) (fl : Nat) => bytesLE u.i.toNat 2 ++ bytesLE u.v.toNat 2 ++ bytesLE u.x.toNat 2 ++ [u.st, BitVec.ofNat 8 (u.sq.toNat % 16 + fl + (if u.trip then 0x40 else 0))]
      let at8 := fun (t : State) => readBytes zeroByte t.wave (c * 0x10000 + 8 * s.get (LDG_WST_WIDX c)) 8
      (∀ u : UpData, s.arrives k u → at8 t = rec8 u 0)
      ∧ (s.missing k → at8 t = (match (s.link k).badFrame with | some u => rec8 u 0x10 | none => rec8 (s.link k).mb.data 0x20))
      ∧ t.get (LDG_WST_WIDX c) = (s.get (LDG_WST_WIDX c) + 1) % 8192 ∧ t.get (LDG_WST_FILL c) = min 8192 (s.get (LDG_WST_FILL c) + 1)))

/-- The comparisons of an upstream frame on a trained link. A current outside ±FT fills the rest of the frame being sent with
K23.7 from S6 on, counts a trip and sets the companion's protective action off; one within does nothing to it. A voltage
above OV, or below UV where that comparison is active, does the same from S8 on where its action is TRIP; where it is EVENT
it sets OV_EV or UV_EV and sends no trip, and on a FEED link it raises its event once in an episode, which the first voltage
within ends. A frame with a bad S2 or S3 is not compared. See log entry 31. -/
def Obligations.ComparisonsPreempt : Prop :=
  ∀ (k : Link) (x : BitVec 16) (s : State), s.trained k = true → s.bit FCU_STAT_TX_OFF = false →
    ((s.ftEff k : Int) < x.toInt ∨ x.toInt < -(s.ftEff k : Int) → (s.link k).tripPos = none →
      ∃ t, exec (.protectionCompare k false x false) s = .next t ∧ (t.link k).tripPos = some 6 ∧ (t.link k).tripped = true
        ∧ (t.link k).down = (s.link k).down.take 6 ++ List.replicate ((s.link k).down.length - 6) (.k K23_7)
        ∧ t.get (LNK_CNT_TRIP_COUNT k) = min (s.get (LNK_CNT_TRIP_COUNT k) + 1) (LNK_CNT_TRIP_COUNT k).max
        ∧ t.armed (.protectiveAction k .own) = true ∧ ∀ j, j ≠ k.val → (t.link j).tripPos = (s.link j).tripPos)
    ∧ (-(s.ftEff k : Int) ≤ x.toInt → x.toInt ≤ (s.ftEff k : Int) →
      exec (.protectionCompare k false x false) s = .next (s.modLink k (fun l => { l with tripped := false, noCmp := false })))
    ∧ exec (.protectionCompare k false x true) s = .next (s.modLink k (fun l => { l with tripped := false, noCmp := true }))
    ∧ (∀ bad : Bool, bad = true ∨ (s.link k).noCmp = true → exec (.protectionCompare k true x bad) s = .next s)
    ∧ ((s.link k).noCmp = false →
      (((s.ovEff k : Int) < x.toInt ∧ s.bit (LNK_PROT_CTRL_OV_ACT k) = true)
          ∨ (x.toInt < (s.uvEff k : Int) ∧ s.uvActive k = true ∧ s.bit (LNK_PROT_CTRL_UV_ACT k) = true) → (s.link k).tripPos = none →
        ∃ t, exec (.protectionCompare k true x false) s = .next t ∧ (t.link k).tripPos = some 8 ∧ (t.link k).tripped = true
          ∧ (t.link k).down = (s.link k).down.take 8 ++ List.replicate ((s.link k).down.length - 8) (.k K23_7)
          ∧ t.get (LNK_CNT_TRIP_COUNT k) = min (s.get (LNK_CNT_TRIP_COUNT k) + 1) (LNK_CNT_TRIP_COUNT k).max
          ∧ t.armed (.protectiveAction k .own) = true ∧ ∀ j, j ≠ k.val → t.link j = s.link j)
      ∧ ((s.ovEff k : Int) < x.toInt → s.bit (LNK_PROT_CTRL_OV_ACT k) = false → x.toInt < (s.uvEff k : Int) ∧ s.uvActive k = true → s.bit (LNK_PROT_CTRL_UV_ACT k) = false →
        ∃ t, exec (.protectionCompare k true x false) s = .next t ∧ t.bit (LNK_PROT_CTRL_OV_EV k) = true ∧ t.bit (LNK_PROT_CTRL_UV_EV k) = true
          ∧ (t.link k).tripPos = (s.link k).tripPos ∧ (t.link k).down = (s.link k).down)
      ∧ ((s.ovEff k : Int) < x.toInt → s.bit (LNK_PROT_CTRL_OV_ACT k) = false → ¬ (x.toInt < (s.uvEff k : Int) ∧ s.uvActive k = true) →
        ∃ u : State, exec (.protectionCompare k true x false) s
            = .next ((if s.role k = rlFEED ∧ (s.link k).ovRaised = false then u.raiseN (160 + k) 0x03 x.toNat else u).modLink k
                (fun l => { l with ovRaised := (s.link k).ovRaised || s.role k == rlFEED, uvEp := false, uvRaised := false }))
          ∧ u.bit (LNK_PROT_CTRL_OV_EV k) = true ∧ u.bit (LNK_PROT_CTRL_UV_EV k) = s.bit (LNK_PROT_CTRL_UV_EV k) ∧ u.link k = { s.link k with ovEp := true, ovRaised := (u.link k).ovRaised, uvEp := (u.link k).uvEp, uvRaised := (u.link k).uvRaised }
          ∧ (s.role k = rlRECT → (s.link k).ovEp = false → s.otherRect k (fun l => l.ovEp) = false → s.srcAbsent 74 = false → 74 ∈ u.fcu.detq))
      ∧ (¬ (s.ovEff k : Int) < x.toInt → x.toInt < (s.uvEff k : Int) → s.uvActive k = true → s.bit (LNK_PROT_CTRL_UV_ACT k) = false →
        ∃ u : State, exec (.protectionCompare k true x false) s
            = .next ((if s.role k = rlFEED ∧ (s.link k).uvRaised = false then u.raiseN (160 + k) 0x04 x.toNat else u).modLink k
                (fun l => { l with uvRaised := (s.link k).uvRaised || s.role k == rlFEED }))
          ∧ u.bit (LNK_PROT_CTRL_UV_EV k) = true ∧ u.bit (LNK_PROT_CTRL_OV_EV k) = s.bit (LNK_PROT_CTRL_OV_EV k) ∧ u.link k = { s.link k with ovEp := false, ovRaised := false, uvEp := true, uvRaised := (u.link k).uvRaised }
          ∧ (s.role k = rlRECT → (s.link k).uvEp = false → s.otherRect k (fun l => l.uvEp) = false → s.srcAbsent 73 = false → 73 ∈ u.fcu.detq))
      ∧ (¬ (s.ovEff k : Int) < x.toInt → ¬ (x.toInt < (s.uvEff k : Int) ∧ s.uvActive k = true) →
        exec (.protectionCompare k true x false) s = .next ((s.modLink k (fun l => { l with ovEp := false, ovRaised := false })).modLink k
          (fun l => { l with uvEp := false, uvRaised := false }))))

/-- DOWNSTREAM_FRAME: every link that transmits sends 12 symbols that begin with K28.5; a frame that no trip pre-empted
ends with the CRC-8 of its ten symbols between; a requested trip sends K23.7 in all of them.
ACTUATION_COPY, on every link: LNK_ACT's ACTB; the ACTA that the feed's state forces, or LNK_ACT's; the BGT of its purse, in the
safe state the last one sent; the thresholds that TRIP wrote are latched; never more than two copies wait. A feed that adopts
forces nothing. -/
def Obligations.DownstreamFramesAndCopies : Prop :=
  (
  ∀ (rx : List CompRx) (s : State), s.inReset = false → ∃ t, exec (.downstreamFrame rx) s = .next t
    ∧ t.clk = { s.clk with sentAt := some s.clk.now } ∧ t.engs = s.engs ∧ t.dtcm = s.dtcm
    ∧ ∀ k, k < s.nLinks → t.sending k = true → (t.link k).down.length = 12 ∧ (t.link k).down.head? = some (.k K28_5)
      ∧ ((t.link k).tripPos = none →
        crc8 ((((t.link k).down.drop 1).take 10).map LSym.val) = (symAt (t.link k).down 11).toNat)
      ∧ ((t.link k).tripPos ≠ none → (t.link k).down.drop 1 = List.replicate 11 (.k K23_7)))
  ∧ (
  ∀ s : State, s.inReset = false → ∃ t, exec .actuationCopy s = .next t ∧ t.clk = s.clk ∧ t.engs = s.engs ∧ t.dtcm = s.dtcm ∧ ∀ k, k < s.nLinks →
    let a : ActCopy := (((t.link k).copies.getLast?).map (·.val)).getD {}
    let b := (s.purse k).bal
    ((s.link k).copies.length ≤ 2 → (t.link k).copies.length ≤ 2) ∧ (t.link k).copies ≠ []
    ∧ a.actb = BitVec.ofNat 16 (s.get (LNK_ACT_ACTB k))
    ∧ (s.feedOn k = true → (s.feed k).adopt = none →
      ([fsOFF, fsPRECHECK, fsTRIPPED, fsRETRY, fsLOCKOUT, fsFETFAULT].contains (s.fstate k) = true → a.acta = 0)
      ∧ (s.fstate k = fsTRANSFER → s.bit (FSM_STATUS_PHASE k) = false → a.acta = 0xFFFF))
    ∧ (s.feedOn k = false ∨ (s.feed k).adopt.isSome = true ∨ [fsRAMP, fsON, fsLIMIT].contains (s.fstate k) = true ∨ (s.fstate k = fsTRANSFER ∧ s.bit (FSM_STATUS_PHASE k) = true) →
      a.acta = BitVec.ofNat 16 (s.get (LNK_ACT_ACTA k)))
    ∧ (s.safe = true → a.bgt = (s.link k).last.bgt)
    ∧ (s.safe = false →
      (s.mint.run = false ∨ (s.purse k).on = false ∨ s.role k ≠ rlFEED → a.bgt = 255)
      ∧ (s.mint.run = true → (s.purse k).on = true → s.role k = rlFEED →
        a.bgt.toNat = if s.purseShed k then 0
          else if s.mbit (MNT_PCFG_RAMP_BRK k) ∧ s.bit (FSM_CTRL_EN k) ∧ s.fstate k ≠ fsON ∧ s.fstate k ≠ fsLIMIT then 0
          else if 0 ≤ b then 255
          else if s.debtMax ≤ -b then (if s.mbit MNT_DEBT_BRAKE_EN then 0 else 1)
          else 254 - (254 * (-b) / s.debtMax).toNat))
    ∧ (∀ v, (s.link k).tripFt = some v → t.get (LNK_PROT_IEFF_TRIP_FT k) = v.toNat)
    ∧ ((s.link k).tripFt = none → t.get (LNK_PROT_IEFF_TRIP_FT k) = s.get (LNK_PROT_IEFF_TRIP_FT k))
    ∧ (t.link k).latOv = (s.link k).tripOv.getD (s.link k).latOv ∧ (t.link k).latUv = (s.link k).tripUv.getD (s.link k).latUv
    ∧ (t.link k).tripFt = none ∧ (t.link k).tripOv = none ∧ (t.link k).tripUv = none)

/-- BOOT_GO sets GO of the rounds written 1; the round starts with every enabled trained candidate whose RAM holds the
image, its BOOT code 2, or 4 for a round without an image; a member whose outcome does not come fails with error 5.
See log entry 29. -/
def Obligations.BootstrapRounds : Prop :=
  (∀ (who : Who) (v : Word) (s u : State), s.admits who LNK_BGO v u → ∃ t, exec (.bootGo who v) s = .next t ∧ t.links = u.links
    ∧ ∀ n : Fin 4, (tb v n = true → t.bit ⟨LNK_BGO, n, n⟩ = true ∧ (u.bit ⟨LNK_BGO, n, n⟩ = false → (t.round n).step = .requested))
      ∧ (tb v n = false → t.bit ⟨LNK_BGO, n, n⟩ = u.bit ⟨LNK_BGO, n, n⟩ ∧ t.round n = u.round n))
  ∧ (∀ (n : Fin 4) (s : State) (k : Nat), (s.round n).step = .requested → s.safe = false → k ∈ s.candidates n →
    (s.link k).ramKib = none → (s.get ⟨LNK_BIMG_LEN n, 15, 0⟩ = 0 ∨
      imageInside (s.get ⟨LNK_BIMG_ADDR n, 31, 3⟩ * 8) (8 * s.get ⟨LNK_BIMG_LEN n, 15, 0⟩) = true) →
    ∃ t, exec (.bootRoundStart n) s = .next t ∧ (t.link k).boot = some { round := n.val } ∧ (t.round n).len = s.get ⟨LNK_BIMG_LEN n, 15, 0⟩
      ∧ t.get (LNK_STATUS_BOOT k) = (if s.get ⟨LNK_BIMG_LEN n, 15, 0⟩ = 0 then 4 else 2)
      ∧ ∀ j, j ∉ s.candidates n → t.link j = s.link j)
  ∧ (∀ (k : Link) (s : State) (m : BootMember), (s.link k).boot = some m → m.done = true → 16 ≤ m.outcome →
    ∃ t, exec (.bootOutcome k) s = .next t ∧ (t.link k).boot = none ∧ t.get (LNK_STATUS_BOOT k) = 7 ∧ t.get (LNK_ERR_CODE k) = 5
      ∧ ∀ j, j ≠ k.val → t.link j = s.link j)

/-- RESEIZE makes a seize of two frames pending on every trained link written 1, for the holder; SEIZE_FAIL after four
frames ends it with its event and detection; AUDIT_CYCLE sets AUDITOK of a standby's trained link by what its frames
said. See log entry 32. -/
def Obligations.SeizesAndAudits : Prop :=
  (∀ (who : Who) (w : Fin 3) (v : Word) (s u : State), s.admits who (LNK_RESEIZE w) v u → u.holder = true → u.safe = false →
    ∃ t, exec (.reseize who w v) s = .next t ∧ ∀ b : Fin 32, 32 * w.val + b.val < u.nLinks →
      (tb v b = true → u.trained (32 * w + b) = true → (u.link (32 * w + b)).seize = none →
        (t.link (32 * w + b)).seize = some { need := 2, sent := 0 } ∧ t.bmBit LNK_RESEIZE (32 * w + b) = true)
      ∧ (tb v b = false → t.link (32 * w + b) = u.link (32 * w + b)))
  ∧ (∀ (k : Link) (s : State) (z : Seize), (s.link k).seize = some z → 4 ≤ z.sent →
    ∃ u : State, exec (.seizeFail k) s = .next ((u.raiseN (64 + k) 0x0A s.epoch).detect (96 + k)) ∧ (u.link k).seize = none
      ∧ u.bmBit LNK_RESEIZE k = false ∧ (s.disarm (.seizeFail k)).onlyLink u k [LNK_RESEIZE (k / 32)])
  ∧ (∀ s : State, s.holder = false → ∃ t, exec .auditCycle s = .next t ∧ t.ring = s.ring ∧ ∀ k, k < s.nLinks →
    (t.link k).auditValid = 0 ∧ (t.link k).auditOk = false
    ∧ (s.trained k = true → (s.link k).auditValid ≠ 0 → (s.link k).auditBad = false → t.bmBit LNK_AUDITOK k = (s.link k).auditOk)
    ∧ ((s.trained k = false ∨ (s.link k).auditValid = 0) → t.bmBit LNK_AUDITOK k = s.bmBit LNK_AUDITOK k))

/-! ## The companions (03, 04, 09) -/

/-- The authority a companion obeys: an accepted seize sets E_p and ends autonomy; a port that is not live any more is
chosen again; eight missing frames bring hold, whose end brings autonomy, in which a FEED keeps its values and a SENS
applies none; a seize that is not accepted moves no authority; K23.7 or the hard limit latch LOCAL_TRIP
and put a FEED companion's ACTA at 0, and do nothing to another's. Each touches its own companion alone. See log
entries 12, 32 and 33.
The commands of the channel at a companion: each accepted one takes its effect and toggles CMD_ACK of the port it came
on, and no other command does; a command without its condition changes nothing; BOOT_DONE leaves LOCAL_TRIP latched. Whether an image supports the role of
BOOT_DONE is open: it ends in the role, or in the loader with error 5 (log entry 2). -/
def Obligations.CompanionObeys : Prop :=
  (
  ∀ (k : Link) (p : Port) (s : State),
    (∀ e : BitVec 16, (s.comp k).accepts p e = true →
      ∃ t, exec (.seizeAccept k p e) s = .next t ∧ ((t.comp k).port p).ep = some e ∧ ((t.comp k).port p).age = 0
        ∧ (t.comp k).autonomous = false ∧ t = { s with comps := t.comps, alarms := t.alarms, free := t.free } ∧ ∀ j, j ≠ k.val → t.comp j = s.comp j)
    ∧ (∀ e : BitVec 16, (s.comp k).accepts p e = false → ∃ t, exec (.seizeAccept k p e) s = .next t ∧ (s.disarm (.seizeAccept k p e)).onlyComp t k
      ∧ (∀ q, ((t.comp k).port q).ep = ((s.comp k).port q).ep ∧ ((t.comp k).port q).age = ((s.comp k).port q).age)
      ∧ (t.comp k).obeyed = (s.comp k).obeyed ∧ (t.comp k).hold = (s.comp k).hold ∧ (t.comp k).autonomous = (s.comp k).autonomous
      ∧ (t.comp k).acta = (s.comp k).acta ∧ (t.comp k).actb = (s.comp k).actb)
    ∧ (∃ t, exec (.portLiveLoss k p) s = .next t ∧ ((t.comp k).port p).live = false ∧ (t.comp k).obeyed ≠ some p
      ∧ (t.comp k).obeyed = (t.comp k).choose ∧ (s.disarm (.portLiveLoss k p)).onlyComp t k)
    ∧ ((s.comp k).role.isSome = true → (s.comp k).hold = false → (s.comp k).autonomous = false →
      ∃ t, exec (.companionHold k) s = .next t ∧ (t.comp k).hold = true ∧ (t.comp k).tHoldNow = (s.comp k).tHold
        ∧ t.alarms.filter (fun e => e.2 = .companionAutonomy k) = [(s.clk.now + ms (s.comp k).tHold, .companionAutonomy k)]
        ∧ t = { s with comps := t.comps, alarms := t.alarms })
    ∧ ((s.comp k).hold = true → ∃ t, exec (.companionAutonomy k) s = .next t ∧ (t.comp k).hold = false ∧ (t.comp k).autonomous = true
      ∧ ((s.comp k).role = some .feed → (t.comp k).acta = (s.comp k).acta ∧ (t.comp k).actb = (s.comp k).actb)
      ∧ ((s.comp k).role = some .sens → (t.comp k).acta = 0 ∧ (t.comp k).actb = 0)
      ∧ t = { s.disarm (.companionAutonomy k) with comps := t.comps, free := t.free } ∧ ∀ j, j ≠ k.val → t.comp j = s.comp j)
    ∧ (∃ t, exec (.protectiveAction k p) s = .next t ∧ (s.disarm (.protectiveAction k p)).onlyComp t k
      ∧ ((s.comp k).role = some .feed → (t.comp k).localTrip = true ∧ (t.comp k).acta = 0)
      ∧ ((s.comp k).role ≠ some .feed → t.comp k = s.comp k))
    ∧ (∃ t, exec (.hardLimit k) s = .next t ∧ s.onlyComp t k
      ∧ ((s.comp k).role = some .feed → (t.comp k).localTrip = true ∧ (t.comp k).acta = 0)
      ∧ ((s.comp k).role ≠ some .feed → t.comp k = s.comp k)))
  ∧ (
  ∀ (k : Link) (p : Port) (arg : BitVec 16) (s : State),
    exec (.nop k p) s = .next s
    ∧ (∀ c ∈ [Instr.hello k p arg, .setAdvance k p arg, .bootStart k p arg, .setHold k p arg, .bootDone k p arg, .reset k p arg, .feedSide k p arg, .feedClear k p arg, .feedHardlim k p arg],
      ∃ t, exec c s = .next t ∧ t = { s with comps := t.comps, alarms := t.alarms, free := t.free } ∧ (∀ j, j ≠ k.val → t.comp j = s.comp j)
        ∧ (t.comp k = s.comp k ∨ ((t.comp k).port p).ack = !((s.comp k).port p).ack)
        ∧ ∀ q, q ≠ p → ((t.comp k).port q).ack = ((s.comp k).port q).ack)
    ∧ (arg = 0 → ∃ t, exec (.hello k p arg) s = .next t ∧ ((t.comp k).port p).ack = !((s.comp k).port p).ack)
    ∧ (arg.toNat ≤ 400 → ∃ t, exec (.setAdvance k p arg) s = .next t ∧ ((t.comp k).port p).advNext = some arg.toNat
      ∧ ((t.comp k).port p).adv = ((s.comp k).port p).adv)
    ∧ ((s.comp k).hears p = true → ∃ t, exec (.bootStart k p arg) s = .next t ∧ (t.comp k).bootPort = some p
      ∧ (t.comp k).bootLen = arg.toNat ∧ (t.comp k).bootGot = 0 ∧ (t.comp k).ram = (s.comp k).ram)
    ∧ ((s.comp k).hears p = true → 1 ≤ arg.toNat → arg.toNat ≤ 10000 → ∃ t, exec (.setHold k p arg) s = .next t ∧ (t.comp k).tHold = arg.toNat)
    ∧ ((s.comp k).hears p = true → arg.toNat < 4 → (s.comp k).bootCheck ≠ 0 →
      ∃ t, exec (.bootDone k p arg) s = .next t ∧ (t.comp k).role = none ∧ (t.comp k).health = 3 ∧ (t.comp k).loaderErr = (s.comp k).bootCheck)
    ∧ ((s.comp k).hears p = true → arg.toNat < 4 → (s.comp k).bootCheck = 0 →
      ∃ t, exec (.bootDone k p arg) s = .next t ∧ (t.comp k).imageValid = true
        ∧ (((t.comp k).role = some (roleOfTag arg.toNat) ∧ (t.comp k).loaderErr = 0 ∧ (t.comp k).localTrip = (s.comp k).localTrip)
          ∨ ((t.comp k).role = none ∧ (t.comp k).loaderErr = 5)))
    ∧ (arg = 0x5A5A → (s.comp k).role = none ∨ (s.comp k).underAuthority p = true →
      ∃ t, exec (.reset k p arg) s = .next t ∧ (t.comp k).role = none ∧ (t.comp k).hold = false ∧ (t.comp k).autonomous = false
        ∧ (t.comp k).tHold = 100 ∧ (t.comp k).acta = 0 ∧ (t.comp k).own.ep = none ∧ (t.comp k).twin.ep = none)
    ∧ ((s.comp k).feedCmd p = true → (s.comp k).acta.toInt ≤ 0 →
      (arg.toNat < 2 → ∃ t, exec (.feedSide k p arg) s = .next t ∧ (t.comp k).side = decide (arg = 1))
      ∧ (arg = 0 → ∃ t, exec (.feedClear k p arg) s = .next t ∧ (t.comp k).localTrip = false))
    ∧ ((s.comp k).feedCmd p = true → 1000 ≤ arg.toNat → ∃ t, exec (.feedHardlim k p arg) s = .next t ∧ (t.comp k).hardLim = arg))

/-! ## The feed state machines (09) -/

/-- One evaluation of a feed, and one that a timer's end brings about, leaves its state or takes it to one that the table of
R269 gives from it. A timer's end touches no other feed's state; of one that is not enabled
FSM_EVALUATE changes at most the side that slot 10 shows, and its count. -/
def Obligations.FeedTransitions : Prop :=
  (∀ s : State, ∃ t, exec .fsmEvaluate s = .next t ∧ t.ring = s.ring ∧ t.clk = s.clk ∧ ∀ k, k < s.nLinks →
    (s.feedOn k = true → s.fstate k ≤ 9 → t.fstate k = s.fstate k ∨ t.fstate k ∈ feedNext (s.fstate k))
    ∧ (s.feedOn k = false → t.fstate k = s.fstate k ∧ t.feed k = { s.feed k with sideCnt := (t.feed k).sideCnt }))
  ∧ (∀ (s : State) (k : Link) (c : Instr), s.fstate k ≤ 9 →
    c ∈ [Instr.preMsExpiry k, .fsmCmdLimit k, .rampTmo k, .shortRamp k, .limitTmo k, .retryTimer k, .deadTime k, .fetshort k, .presenceDebounce k, .episodeEnd k, .sideLoss k, .returnToPref k] →
    ∃ t, exec c s = .next t ∧ (t.fstate k = s.fstate k ∨ t.fstate k ∈ feedNext (s.fstate k)) ∧ t.ring = s.ring ∧ t.clk = s.clk
      ∧ ∀ j, j ≠ k.val → j < 96 → t.fstate j = s.fstate j ∧ t.feed j = s.feed j)

/-- What each timer's end does on a feed that is not frozen, from a mailbox that is stale unless the timer counts fresh
intervals, with nothing else due: the state of R269 with its cause, N and the side. That a row of a timer's end is the evaluation in which it
ends is the model's choice (log entry 9). -/
def Obligations.FeedTimerEnds : Prop :=
  ∀ (k : Link) (s : State), s.feedOn k = true → (s.feed k).adopt = none → s.bit (FSM_STATUS_FROZEN k) = false →
    (s.feed k).dbT = none →
    ((s.feedMb k).stale = true →
      (s.fstate k = fsPRECHECK → (s.feed k).clrLim = none → (s.feed k).sideLim = none →
        ∃ t, exec (.preMsExpiry k) s = .next t ∧ t.fstate k = fsOFF ∧ t.get (FSM_STATUS_CAUSE k) = 11)
      ∧ (s.fstate k = fsPRECHECK → (s.feed k).clrLim.isSome = true → stTrip (s.feedSt k) = true →
        ∃ t, exec (.fsmCmdLimit k) s = .next t ∧ t.fstate k = fsTRIPPED ∧ t.get (FSM_STATUS_CAUSE k) = 9)
      ∧ (s.fstate k = fsRAMP → (s.feed k).shortT = none → s.feedVin k (s.feedSideSeen k) - 40 * (s.get (FSM_RAMPCK_DONE_DV k) : Int) > s.feedV k →
        ∃ t, exec (.rampTmo k) s = .next t ∧ t.fstate k = fsTRIPPED ∧ (t.get (FSM_STATUS_CAUSE k) = 6 ∨ t.get (FSM_STATUS_CAUSE k) = 7)
          ∧ (s.diverged = false → (t.link k).tripReq = true))
      ∧ (s.fstate k = fsLIMIT → (s.feed k).limExit < 4 →
        ∃ t, exec (.limitTmo k) s = .next t ∧ t.fstate k = fsTRIPPED ∧ t.get (FSM_STATUS_CAUSE k) = 8)
      ∧ (s.fstate k = fsRETRY → (s.feed k).reqs = [] → (s.feed k).fsCnt < evals (1000000 * s.get (FSM_FSHORT_FS_T k)) →
        ∃ t, exec (.retryTimer k) s = .next t
          ∧ (s.bit (FSM_STATUS_PRES k) = true → s.safe = false → t.fstate k = fsPRECHECK)
          ∧ (s.bit (FSM_STATUS_PRES k) = false → t.fstate k = fsRETRY ∧ t.bit (FSM_STATUS_EXPIRED k) = true))
      ∧ (s.fstate k = fsTRANSFER → s.bit (FSM_STATUS_PHASE k) = false → (s.feed k).reqs = [] → (s.feed k).sideReq = some (s.feedSideSeen k) →
        ∃ t, exec (.deadTime k) s = .next t ∧ t.fstate k = fsTRANSFER ∧ t.bit (FSM_STATUS_PHASE k) = true)
      ∧ (s.fstate k = fsON → ∃ t, exec (.episodeEnd k) s = .next t ∧ t.feedN k = 0 ∧ (t.feed k).episode = false)
      ∧ (s.fstate k = fsON → s.bit FSM_GSTAT_ACTIVE = false → s.vinOk k (!s.feedSideSeen k) = true → s.bit (FSM_STATUS_SIDE k) = s.feedSideSeen k →
        ∃ t, exec (.sideLoss k) s = .next t ∧ t.fstate k = fsTRANSFER ∧ t.bit (FSM_STATUS_PHASE k) = false ∧ (t.feed k).sideReq = some (!s.feedSideSeen k))
      ∧ (s.fstate k = fsON → s.bit FSM_GSTAT_ACTIVE = false → s.bit (FSM_CFG_RET_EN k) = true → s.feedSideSeen k ≠ s.bit (FSM_CFG_PREF k) →
        ∃ t, exec (.returnToPref k) s = .next t ∧ t.fstate k = fsTRANSFER ∧ t.bit (FSM_STATUS_PHASE k) = false))
    ∧ ((s.feedMb k).stale = false → stTrip (s.feedSt k) = false →
      (s.fstate k = fsRAMP → s.feedShort k = true →
        ∃ t, exec (.shortRamp k) s = .next t ∧ t.fstate k = fsTRIPPED ∧ t.get (FSM_STATUS_CAUSE k) = 5)
      ∧ (s.fstate k = fsOFF → s.feedLive k = true →
        ∃ t, exec (.fetshort k) s = .next t ∧ t.fstate k = fsFETFAULT ∧ t.get (FSM_STATUS_CAUSE k) = 13)
      ∧ (s.fstate k = fsON → s.bit (FSM_STATUS_PRES k) = true → stPresent (s.feedSt k) = false →
        ∃ t, exec (.presenceDebounce k) s = .next t ∧ t.fstate k = fsOFF ∧ t.get (FSM_STATUS_CAUSE k) = 12 ∧ t.bit (FSM_STATUS_PRES k) = false))

/-- ADOPT_COMPLETE takes the companion's state: TRIPPED with cause 10 under LOCAL_TRIP, OFF without actuation, RAMP with
a ramping one, which the safe state holds back. The bits of FSM_CTRL: EN stands, a request waits, ADOPT begins one rotation unless the feed is frozen, CNT_CLR clears; EN = 0
puts the machine in OFF. BLANK opens a window, BLANK_CLOSE ends it. The order of requests is the model's (log entry
10). -/
def Obligations.FeedControl : Prop :=
  (∀ (k : Link) (s : State), s.feedOn k = true → (s.feed k).adopt.isSome = true →
    (s.adoptWaits k = true → s.safe = true
      ∧ exec (.adoptComplete k) s = .next ((s.disarm (.adoptComplete k)).modFeed k (fun f => { f with adopt := some 1 })))
    ∧ (s.adoptWaits k = false → ∃ t, exec (.adoptComplete k) s = .next t ∧ t.bit (FSM_CTRL_ADOPT k) = false ∧ (t.feed k).adopt = none
      ∧ (stTrip (s.feedSt k) = true → t.fstate k = fsTRIPPED ∧ t.get (FSM_STATUS_CAUSE k) = 10)
      ∧ (stTrip (s.feedSt k) = false → ((s.feedMb k).auxOf 4).toInt ≤ 0 → t.fstate k = fsOFF)
      ∧ (stTrip (s.feedSt k) = false → 0 < ((s.feedMb k).auxOf 4).toInt → ((s.feedMb k).auxOf 4).toInt ≠ 32767 → t.fstate k = fsRAMP)
      ∧ ∀ j, j ≠ k.val → j < 96 → t.feed j = s.feed j ∧ t.fstate j = s.fstate j))
  ∧ (∀ (who : Who) (k : Link) (v w : Word) (s u : State) (b : Nat) (c : Instr), k.val < s.nLinks →
    (b, c) ∈ [(0, Instr.fsmEn who k v), (1, .fsmAdopt who k v), (2, .fsmOn who k v), (3, .fsmOff who k v), (4, .fsmClear who k v), (5, .fsmCntClr who k v)] →
    w = withBit v b → s.admits who (FSM_CTRL k) w u → legalAt (FSM_CTRL k) w = true → (tb w 2 && tb w 3) = false →
    (tb w 0 = true → u.role k = rlFEED → ∃ t, exec c s = .next t ∧ t.bit (FSM_CTRL_EN k) = true ∧ t.fstate k = u.fstate k
      ∧ (tb w 2 = true → FeedReq.on ∈ (t.feed k).reqs) ∧ (tb w 3 = true → FeedReq.off ∈ (t.feed k).reqs)
      ∧ (tb w 4 = true → FeedReq.clear ∈ (t.feed k).reqs)
      ∧ (tb w 1 = true → u.bit (FSM_STATUS_FROZEN k) = false → (t.feed k).adopt = some 16 ∧ t.bit (FSM_STATUS_FROZEN k) = false)
      ∧ (u.bit (FSM_STATUS_FROZEN k) = true → (t.feed k).adopt = (u.feed k).adopt ∧ t.bit (FSM_STATUS_FROZEN k) = true)
      ∧ (tb w 5 = true → t.get (FSM_MSTAT_SUBST k) = 0 ∧ t.get (FSM_CNT_TRIP_COUNT k) = 0 ∧ t.get (FSM_CNT_FAIL_COUNT k) = 0)
      ∧ ∀ j, j ≠ k.val → t.feed j = u.feed j)
    ∧ (tb w 0 = false → u.bit (FSM_CTRL_EN k) = true → ∃ t, exec c s = .next t ∧ t.bit (FSM_CTRL_EN k) = false ∧ t.fstate k = fsOFF
      ∧ (t.feed k).reqs = [] ∧ ∀ j, j ≠ k.val → t.feed j = u.feed j))
  ∧ (∀ (who : Who) (v : Word) (s u : State), s.admits who FSM_GCTRL (withBit v 8) u → legalAt FSM_GCTRL (withBit v 8) = true →
    (u.apply FSM_GCTRL (withBit v 8)).get FSM_GCTRL_BLANK_T ≠ 0 →
    ∃ t, exec (.blank who v) s = .next t ∧ t.bit FSM_GSTAT_ACTIVE = true ∧ t.armed .blankClose = true ∧ t.feeds = u.feeds)
  ∧ (∀ s : State, ∃ t, exec .blankClose s = .next t ∧ t.bit FSM_GSTAT_ACTIVE = false ∧ t.feeds = s.feeds ∧ t.ring = s.ring
    ∧ ∀ k, k < 96 → t.fstate k = s.fstate k)

/-- The operations that write a data register with latency 1, and DIV and INJ, set out with one result for the register:
its value, whether a saturation made it, and the cycle in which it lands. Nothing else of the engine, and no register,
changes now. -/
def Obligations.DataResultsSetOut : Prop :=
  ∀ (n : Engine) (q : Guard) (dd da db : Reg) (aa : Acc4) (pm : Pred) (b : OpB) (imm : BitVec 16) (sh : BitVec 6) (rnd m1 : Bool) (s : State) (t : Task),
    s.issuing n = some t → s.guard n q = true →
    let x := s.dint n da
    let y := (s.opb n b).toInt
    let z := s.dint n db
    (∀ cv ∈ [(Instr.add n q dd da b, s.dreg n da + s.opb n b), (.sub n q dd da b, s.dreg n da - s.opb n b), (.and n q dd da b, s.dreg n da &&& s.opb n b), (.or n q dd da b, s.dreg n da ||| s.opb n b), (.xor n q dd da b, s.dreg n da ^^^ s.opb n b), (.shl n q dd da b, s.dreg n da <<< (s.opb n b).toNat), (.shr n q dd da b, s.dreg n da >>> (s.opb n b).toNat), (.asr n q dd da b, (s.dreg n da).sshiftRight (s.opb n b).toNat), (.min n q dd da b, if x ≤ y then s.dreg n da else s.opb n b), (.max n q dd da b, if x ≤ y then s.opb n b else s.dreg n da), (.sel n q dd pm da db, if s.pred n pm then s.dreg n da else s.dreg n db), (.ldi n q dd imm false, imm.signExtend 32), (.ldi n q dd imm true, imm ++ (s.dreg n dd).extractLsb' 0 16), (.rds n q dd .cp, BitVec.ofNat 32 (16 * n + t.slot)), (.rds n q dd .ft, BitVec.ofNat 32 s.clk.cyc)],
      ∃ u : State, ∃ r : Result, exec cv.1 s = .next u ∧ s.onlyEng u n ∧ (u.eng n).results = (s.eng n).results ++ [r] ∧ u.eng n = { s.eng n with results := (u.eng n).results }
        ∧ r.dest = .reg dd ∧ r.due = s.clk.now ∧ r.val = cv.2 ∧ r.sat = false)
    ∧ (∀ cv ∈ [(Instr.adds n q dd da b, x + y), (.subs n q dd da b, x - y), (.abs n q dd da, if x < 0 then -x else x), (.neg n q dd da, -x), (.rda n q m1 dd aa sh rnd, if rnd = true ∧ sh ≠ 0 then (s.acc n aa + 2 ^ (sh.toNat - 1)) / 2 ^ sh.toNat else s.acc n aa / 2 ^ sh.toNat)],
      ∃ u : State, ∃ r : Result, exec cv.1 s = .next u ∧ s.onlyEng u n ∧ (u.eng n).results = (s.eng n).results ++ [r]
        ∧ r.dest = .reg dd ∧ r.due = s.clk.now ∧ r.val.toInt = max (-2147483648) (min 2147483647 cv.2)
        ∧ r.sat = (decide (cv.2 < -2147483648) || decide (2147483647 < cv.2)))
    ∧ (t.drops (s.clk.now + 17) = false → ∀ mode : DivMode, ∃ u : State, ∃ r : Result, exec (.div n q dd da db mode) s = .next u ∧ s.onlyEng u n
      ∧ (u.eng n).results = (s.eng n).results ++ [r] ∧ r.dest = .reg dd ∧ r.due = s.clk.now + 17
      ∧ (z ≠ 0 → r.val.toInt = max (-2147483648) (min 2147483647 ((x * divScale mode).tdiv z)))
      ∧ (z = 0 → r.sat = true ∧ r.val.toInt = if 0 < x then 2147483647 else if x < 0 then -2147483648 else 0))
    ∧ (t.drops (s.clk.now + 1) = false → ∃ u : State, ∃ r : Result, exec (.inj n q dd) s = .next u ∧ s.onlyEng u n
      ∧ (u.eng n).results = (s.eng n).results ++ [r] ∧ r.dest = .reg dd ∧ r.due = s.clk.now + 1
      ∧ r.val = if (s.bit FRA_STAT_RUN || s.fra.tail) && s.fraTarget n t.slot then s.word FRA_SAMPLE else 0)

/-- CLAMP writes min(max(x, a), b) to Dd and Pr = 1 where that is not x; RAMP writes x, g, x + d or x − d by its rule and Pr = 1 where that is
g; P0 as Pr writes none. CMP writes the condition its field names, PLOG its operation. None sets SAT. -/
def Obligations.PredicateResults : Prop :=
  ∀ (n : Engine) (q : Guard) (dd da db : Reg) (pd pa pb : Pred) (b : OpB) (s : State) (t : Task),
    s.issuing n = some t → s.guard n q = true →
    let x := s.dint n dd
    let y := s.dint n da
    let z := s.dint n db
    (∀ cv ∈ [(Instr.clamp n q dd da db pd, min (max x y) z, decide (min (max x y) z ≠ x)), (.ramp n q dd da db pd, (if z ≤ 0 then x else max (x - z) (min (x + z) y)), decide ((if z ≤ 0 then x else max (x - z) (min (x + z) y)) = y))],
      ∃ u : State, ∃ r : Result, exec cv.1 s = .next u ∧ s.onlyEng u n ∧ r.dest = .reg dd ∧ r.val.toInt = cv.2.1 ∧ r.due = s.clk.now ∧ r.sat = false
        ∧ (pd = 0 → (u.eng n).results = (s.eng n).results ++ [r])
        ∧ (pd ≠ 0 → ∃ r' : Result, (u.eng n).results = (s.eng n).results ++ [r, r'] ∧ r'.dest = .pred pd ∧ r'.due = s.clk.now ∧ r'.sat = false ∧ (r'.val ≠ 0 ↔ cv.2.2 = true)))
    ∧ (∀ cv ∈ [(Instr.cmp n q pd da b .eq, decide (y = (s.opb n b).toInt)), (.cmp n q pd da b .ne, decide (y ≠ (s.opb n b).toInt)), (.cmp n q pd da b .lt, decide (y < (s.opb n b).toInt)), (.cmp n q pd da b .ge, decide ((s.opb n b).toInt ≤ y)), (.cmp n q pd da b .le, decide (y ≤ (s.opb n b).toInt)), (.cmp n q pd da b .gt, decide ((s.opb n b).toInt < y)), (.cmp n q pd da b .ltu, decide ((s.dreg n da).toNat < (s.opb n b).toNat)), (.cmp n q pd da b .geu, decide ((s.opb n b).toNat ≤ (s.dreg n da).toNat)), (.plog n q pd pa pb .and, s.pred n pa && s.pred n pb), (.plog n q pd pa pb .or, s.pred n pa || s.pred n pb), (.plog n q pd pa pb .xor, s.pred n pa ^^ s.pred n pb), (.plog n q pd pa pb .andn, s.pred n pa && !s.pred n pb)],
      (pd = 0 → exec cv.1 s = .next s)
      ∧ (pd ≠ 0 → ∃ u : State, ∃ r : Result, exec cv.1 s = .next u ∧ s.onlyEng u n ∧ (u.eng n).results = (s.eng n).results ++ [r]
        ∧ r.dest = .pred pd ∧ r.due = s.clk.now ∧ r.sat = false ∧ (r.val ≠ 0 ↔ cv.2 = true)))

/-! ## The Tellers (05, 06, 07) -/

/-- An operation of a bundle that does not issue, or whose guard reads 0, does nothing.
A multiply-accumulate sets out for its stage two cycles on with its exact product. SEGH is a NOP; EVT raises its event. -/
def Obligations.GuardsAndProducts : Prop :=
  (
  ∀ (n : Engine) (q : Guard) (dd da db : Reg) (ad : Acc4) (pd pa pb : Pred) (b : OpB) (i : BitVec 7) (bd : Binding) (m1 : Bool) (s : State),
    s.issuing n = none ∨ s.guard n q = false → ∀ c ∈ [Instr.mulQ31 n q m1 ad da db, .macQ31 n q m1 ad da db, .msuQ31 n q m1 ad da db, .mulQ16 n q m1 ad da db, .macQ16 n q m1 ad da db, .msuQ16 n q m1 ad da db, .clra n q m1 ad, .add n q dd da b, .sub n q dd da b, .adds n q dd da b, .subs n q dd da b, .and n q dd da b, .or n q dd da b, .xor n q dd da b, .shl n q dd da b, .shr n q dd da b, .asr n q dd da b, .min n q dd da b, .max n q dd da b, .abs n q dd da, .neg n q dd da, .clamp n q dd da db pd, .ramp n q dd da db pd, .sel n q dd pd da db, .cmp n q pd da b .lt, .plog n q pd pa pb .and, .div n q dd da db .int32, .ldc n q dd i, .ldcx n q dd da i, .stc n q i db, .stcx n q da i db, .lds n q dd i, .ldsx n q dd da i, .sts n q i db, .stsx n q da i db, .ldm n q dd bd 0, .sta n q bd false db, .ldi n q dd 0 false, .rds n q dd .cp, .evt n q i db, .trip n q bd .fastTrip db, .inj n q dd],
      exec c s = .next s)
  ∧ (
  ∀ (n : Engine) (q : Guard) (da db : Reg) (ad : Acc4) (imm : BitVec 12) (code : BitVec 7) (m1 : Bool) (s : State) (t : Task),
    s.issuing n = some t → s.guard n q = true →
    let y := s.dint n da
    let z := s.dint n db
    exec (.segh n imm) s = .next s
    ∧ (t.drops (s.clk.now + 2) = false → ∀ cv ∈ [(Instr.mulQ31 n q m1 ad da db, true, 2 * (y * z)), (.macQ31 n q m1 ad da db, false, 2 * (y * z)), (.msuQ31 n q m1 ad da db, false, -(2 * (y * z))), (.mulQ16 n q m1 ad da db, true, y * z), (.macQ16 n q m1 ad da db, false, y * z), (.msuQ16 n q m1 ad da db, false, -(y * z)), (.muli n q m1 ad da imm, true, y * imm.toInt), (.clra n q m1 ad, true, 0)],
      ∃ u : State, exec cv.1 s = .next u ∧ s.onlyEng u n
        ∧ (u.eng n).accs = (s.eng n).accs ++ [{ due := s.clk.now + 2, slot := if m1 then .m1 else .m0, acc := ad, clear := cv.2.1, add := cv.2.2, addr := s.bundleAt t }]
        ∧ u.eng n = { s.eng n with accs := (u.eng n).accs })
    ∧ (∃ u : State, ∃ e : Ev, exec (.evt n q code db) s = .next (u.raiseEv e) ∧ u = s ∧ e.src = 392 + n.val ∧ e.cause = code.toNat ∧ e.value = s.dreg n db))

/-- Loads and stores of a slot without code error: a load sets out with the word of its own context slot or of scratch, a
store puts it there and into no other word; an index out of range changes no memory, sets RANGE and quashes the task,
and a load of that kind still sets out with 0. -/
def Obligations.TellerLoadsAndStores : Prop :=
  ∀ (n : Engine) (q : Guard) (dd da db : Reg) (i : BitVec 7) (s : State) (t : Task), s.issuing n = some t → s.guard n q = true →
    (∀ m w, s.eccRead (EMem.checker m n) w = .clean) → t.slot < 16 →
    let j := s.dint n da + (i.toNat : Int)
    (t.drops (s.clk.now + 1) = false →
      (∀ cv ∈ [(Instr.ldc n q dd i, s.ctxWord n (128 * t.slot + i.toNat)), (.lds n q dd i, s.scrWord n i.toNat)] ++ (if 0 ≤ j ∧ j < 128 then [(Instr.ldcx n q dd da i, s.ctxWord n (128 * t.slot + j.toNat))] else []) ++ (if 0 ≤ j ∧ j < 2048 then [(Instr.ldsx n q dd da i, s.scrWord n j.toNat)] else []),
        ∃ u : State, ∃ r : Result, exec cv.1 s = .next u ∧ s.onlyEng u n ∧ (u.eng n).results = (s.eng n).results ++ [r] ∧ r.dest = .reg dd ∧ r.due = s.clk.now + 1 ∧ r.val = cv.2))
    ∧ (∀ cv ∈ [(Instr.stc n q i db, 128 * t.slot + i.toNat)] ++ (if 0 ≤ j ∧ j < 128 then [(Instr.stcx n q da i db, 128 * t.slot + j.toNat)] else []),
      ∃ u : State, exec cv.1 s = .next u ∧ u.ctxWord n cv.2 = s.dreg n db ∧ u.scr = s.scr ∧ u.prog = s.prog ∧ u.ents = s.ents ∧ u.links = s.links
        ∧ ∀ (m a : Nat), m ≠ n.val ∨ a ≠ cv.2 → a < 2048 → u.ctxWord m a = s.ctxWord m a)
    ∧ (∀ cv ∈ [(Instr.sts n q i db, i.toNat)] ++ (if 0 ≤ j ∧ j < 2048 then [(Instr.stsx n q da i db, j.toNat)] else []),
      ∃ u : State, exec cv.1 s = .next u ∧ u.scrWord n cv.2 = s.dreg n db ∧ u.ctx = s.ctx ∧ u.prog = s.prog ∧ u.ents = s.ents ∧ u.links = s.links
        ∧ ∀ (m a : Nat), m ≠ n.val ∨ a ≠ cv.2 → a < 2048 → u.scrWord m a = s.scrWord m a)
    ∧ (j < 0 ∨ 2048 ≤ j → ∀ c ∈ [Instr.ldcx n q dd da i, .ldsx n q dd da i, .stcx n q da i db, .stsx n q da i db],
      ∃ u : State, exec c s = .next u ∧ u.ctx = s.ctx ∧ u.scr = s.scr ∧ u.bit (TEL_FAULT_RANGE n) = true
        ∧ (∃ t', (u.eng n).task = some t' ∧ t'.quash = some (s.clk.now + 1))
        ∧ (t.drops (s.clk.now + 1) = false → c = .ldcx n q dd da i ∨ c = .ldsx n q dd da i →
          ∃ r ∈ (u.eng n).results, r.dest = .reg dd ∧ r.due = s.clk.now + 1 ∧ r.val = 0))

/-- An access through a binding that its descriptor, its instants and the link's ACT_SRC permit: LDM sets out with the mailbox
field, STA puts the saturated value into the link's actuation register, TRIP keeps the saturated threshold for the next
copy. One that fails a check is suppressed: CONTRACT is set with the check's cause and the task is quashed; an LDM of that
kind sets out with 0. -/
def Obligations.BoundAccesses : Prop :=
  ∀ (n : Engine) (q : Guard) (dd db : Reg) (b : Binding) (f : BitVec 5) (s : State) (t : Task), s.issuing n = some t → s.guard n q = true →
    (∀ k, s.bindCheck t b .ldm = .inr k → t.drops (s.clk.now + 1) = false → ∃ u : State, ∃ r : Result, exec (.ldm n q dd b f) s = .next u
      ∧ s.onlyEng u n ∧ (u.eng n).results = (s.eng n).results ++ [r] ∧ r.dest = .reg dd ∧ r.due = s.clk.now + 1 ∧ r.val = s.mbField k f.toNat)
    ∧ (∀ k sel, s.bindCheck t b (.sta sel) = .inr k → ∃ u : State, exec (.sta n q b sel db) s = .next u
      ∧ u.getInt (if sel then LNK_ACT_ACTB k else LNK_ACT_ACTA k) = max (-32768) (min 32767 (s.dint n db)) ∧ s.onlyRegs u [LNK_ACT k, TEL_STATUS n]
      ∧ u.get (if sel then LNK_ACT_ACTA k else LNK_ACT_ACTB k) = s.get (if sel then LNK_ACT_ACTA k else LNK_ACT_ACTB k)
      ∧ u.bit (TEL_STATUS_SAT n) = (s.bit (TEL_STATUS_SAT n) || decide (s.dint n db < -32768) || decide (32767 < s.dint n db)))
    ∧ (∀ k, s.bindCheck t b (.trip .fastTrip) = .inr k → ∃ u : State, exec (.trip n q b .fastTrip db) s = .next u
      ∧ (u.link k).tripFt = some (BitVec.ofInt 15 (max 0 (min 32767 (s.dint n db)))) ∧ s.onlyLink u k [TEL_STATUS n])
    ∧ (∀ cause, s.bindCheck t b (.sta false) = .inl cause → s.bit (TEL_CV_INFO_VALID n) = false → cause < 5 →
      ∃ u : State, exec (.sta n q b false db) s = .next u ∧ u.bit (TEL_FAULT_CONTRACT n) = true ∧ u.get (TEL_CV_INFO_CAUSE n) = cause
        ∧ u.bit (TEL_CV_INFO_VALID n) = true ∧ (∃ t', (u.eng n).task = some t' ∧ t'.quash = some (s.clk.now + 1))
        ∧ ∀ k, k < 96 → u.word (LNK_ACT k) = s.word (LNK_ACT k))
    ∧ (∀ cause, s.bindCheck t b .ldm = .inl cause → t.drops (s.clk.now + 1) = false → ∃ u : State, exec (.ldm n q dd b f) s = .next u
      ∧ u.bit (TEL_FAULT_CONTRACT n) = true ∧ ∃ r ∈ (u.eng n).results, r.dest = .reg dd ∧ r.due = s.clk.now + 1 ∧ r.val = 0)

/-- RESULT_WRITE lands the results of the earliest cycle that has come: a lone one is written, and sets SAT where a
saturation made it; of two for one register the slot of higher priority wins and the other is counted with WCONF.
ACCUMULATE adds the exact products of one stage with one saturation. Which result WCONF names: log entry 37. -/
def Obligations.ResultsLand : Prop :=
  ∀ (n : Engine) (s : State),
    (∀ (r : Result) (d : Reg), (s.eng n).results = [r] → r.due ≤ s.clk.now → r.dest = .reg d →
      ∃ t, exec (.resultWrite n) s = .next t ∧ t.dreg n d = r.val ∧ (t.eng n).results = [] ∧ (∀ d', d' ≠ d → t.dreg n d' = s.dreg n d')
        ∧ t.bit (TEL_STATUS_SAT n) = (s.bit (TEL_STATUS_SAT n) || r.sat) ∧ (∀ m, m ≠ n.val → t.eng m = s.eng m)
        ∧ t = { s with regs := t.regs, engs := t.engs, hw := t.hw } ∧ ∀ a, a ≠ TEL_STATUS n → t.word a = s.word a)
    ∧ (∀ (r r' : Result) (d : Reg), (s.eng n).results = [r, r'] → r.due = r'.due → r.due ≤ s.clk.now → r.dest = .reg d → r'.dest = .reg d →
      r.slot = .l → r'.slot = .x → ∃ t, exec (.resultWrite n) s = .next t ∧ t.dreg n d = r.val ∧ t.bit (TEL_FAULT_WCONF n) = true
        ∧ t.get (TEL_CNT_WCONF_COUNT n) = min (s.get (TEL_CNT_WCONF_COUNT n) + 1) (TEL_CNT_WCONF_COUNT n).max)
    ∧ (∀ o p : AccOp, (s.eng n).accs = [o, p] → o.due = p.due → o.due ≤ s.clk.now → o.acc = p.acc →
      ∃ t, exec (.accumulate n) s = .next t ∧ (t.eng n).accs = []
        ∧ t.acc n o.acc = max (-9223372036854775808) (min 9223372036854775807 ((if o.clear || p.clear then 0 else s.acc n o.acc) + o.add + p.add))
        ∧ (∀ a, a ≠ o.acc → t.acc n a = s.acc n a) ∧ (t.eng n).d = (s.eng n).d)
    ∧ ((s.eng n).results = [] → exec (.resultWrite n) s = .next s) ∧ ((s.eng n).accs = [] → exec (.accumulate n) s = .next s)

/-- The task of an entry that starts now begins with cleared registers, its code address, length, slot and bindings; the end
of a task discards what is in flight; the states of an engine follow RUN, STOP and the frame, and RUN is refused in the
safe state and starts nothing in SCRAPPED. -/
def Obligations.TasksAndEngineStates : Prop :=
  ∀ (n : Engine) (s : State),
    (∀ (e : Fin 512) (x : Nat), s.active n = some x → s.startsNow n e = true → (∀ m w, s.eccRead (EMem.checker m n) w = .clean) →
      segLen (s.bundle n (enCODE (s.entry n x e))) = some (enLEN (s.entry n x e)) →
      ∃ t, exec (.taskStart n e) s = .next t ∧ s.onlyRegs { t with engs := s.engs } [TEL_STATUS n] ∧ (∀ m, m ≠ n.val → t.eng m = s.eng m)
        ∧ (∀ r, t.dreg n r = 0) ∧ (∀ a, t.acc n a = 0) ∧ (t.eng n).p = 0
        ∧ ∃ k, (t.eng n).task = some k ∧ k.entry = e.val ∧ k.base = enCODE (s.entry n x e) ∧ k.len = enLEN (s.entry n x e)
          ∧ k.slot = enSLOT (s.entry n x e) ∧ k.c0 = s.clk.now ∧ k.quash = none)
    ∧ (∀ (e : Fin 512), s.startsNow n e = false → exec (.taskStart n e) s = .next s)
    ∧ (∀ k : Task, (s.eng n).task = some k → k.c0 + k.len ≤ s.clk.now + 1 → ∃ t, exec (.taskEnd n) s = .next t ∧ (t.eng n).task = none
      ∧ (t.eng n).results = [] ∧ (t.eng n).accs = [] ∧ t.ctx = s.ctx ∧ t.scr = s.scr
      ∧ ((s.eng n).results = [] → (s.eng n).accs = [] → t.get (TEL_CNT_DRAIN_COUNT n) = s.get (TEL_CNT_DRAIN_COUNT n)))
    ∧ (∀ (who : Who) (v : Word) (u : State), s.admits who (TEL_CTRL n) (withBit v 0) u → tb v 1 = false → legalAt (TEL_CTRL n) (withBit v 0) = true →
      u.estate n = esSTOPPED →
      (u.safe = true → exec (.run who n v) s = .next (u.access (TEL_CTRL n)))
      ∧ (u.safe = false → u.scrapped = true → ∃ t, exec (.run who n v) s = .next t ∧ t.estate n = esSTOPPED ∧ t.engs = u.engs)
      ∧ (u.safe = false → u.scrapped = false → u.committed n = true → ∃ t, exec (.run who n v) s = .next t ∧ t.estate n = esARMED ∧ t.bit (TEL_CTRL_RUN n) = true ∧ t.engs = u.engs)
      ∧ (u.safe = false → u.scrapped = false → u.committed n = false → ∃ t, exec (.run who n v) s = .next t ∧ t.estate n = esSTOPPED ∧ t.bit (TEL_STATUS_NOBANK n) = true))
    ∧ (∀ (who : Who) (v : Word) (u : State), s.admits who (TEL_CTRL n) (withBit v 1) u → tb v 0 = false → legalAt (TEL_CTRL n) (withBit v 1) = true →
      ∃ t, exec (.stop who n v) s = .next t ∧ t.engs = u.engs
        ∧ t.estate n = (if u.estate n = esRUNNING ∨ u.estate n = esSTOPPING then esSTOPPING else esSTOPPED))
    ∧ (∀ (who : Who) (v : Word) (u : State), s.admits who (TEL_CTRL n) (withBit v 5) u → tb v 0 = false → tb v 1 = false →
      legalAt (TEL_CTRL n) (withBit v 5) = true → ∃ t, exec (.telCntClr who n v) s = .next t ∧ t.estate n = u.estate n ∧ t.engs = u.engs
        ∧ ∀ f ∈ [TEL_CNT_CE_COUNT n, TEL_CNT_QUASH_COUNT n, TEL_CNT_WCONF_COUNT n, TEL_CNT_DRAIN_COUNT n, TEL_CNT_COLLIDE_COUNT n, TEL_CNT_CV_COUNT n], t.get f = 0)
    ∧ (s.estate n = esARMED → ∃ t, exec (.engineStart n) s = .next t ∧ t.estate n = esRUNNING ∧ t.engs = s.engs)
    ∧ (s.estate n = esSTOPPING → ∃ t, exec (.engineStopped n) s = .next t ∧ t.estate n = esSTOPPED ∧ t.engs = s.engs)

/-- The windows of an engine: a read answers the word, or what a task store of the cycle replaced; three staging writes and a commit put a legal bundle in place
that no enabled entry uses; a word of context or scratch that no protected range covers takes the write; an idle
bank takes its half word, a locked one does not. Scrub and write-back change no data. Causes and offsets the spec
leaves open: log entries 13 and 14; the scrub: log entry 38. -/
def Obligations.EngineMemories : Prop :=
  ∀ (who : Who) (n : Engine) (v : Word) (s u : State), (∀ m w, s.eccRead (EMem.checker m n) w = .clean) → u.ecc = s.ecc →
    (∀ o, o < 0x17000 → o % 4 = 0 → s.admitsRead who (engBase n + o) →
      exec (.engineMemRead who (engBase n + o)) s = .next ((s.use n (s.winWord n o).1).answer who ((s.beforeStore n o).getD (s.winWord n o).2.2) false))
    ∧ (∀ (a : BitVec 12) (w : Fin 3), s.admits who (engBase n + 16 * a.toNat + 4 * w) v u →
      ∃ t, exec (.programStage who n a w v) s = .next t ∧ u.onlyEng t n ∧ SMap.get (fun _ => 0) (t.eng n).stage w = v)
    ∧ (∀ (a : BitVec 12) (w0 w1 w2 : Word), s.admits who (engBase n + 16 * a.toNat + 12) v u → SMap.get (fun _ => 0) (u.eng n).stage 0 = w0 → SMap.get (fun _ => 0) (u.eng n).stage 1 = w1 → SMap.get (fun _ => 0) (u.eng n).stage 2 = w2 →
      bundleLegal (v ++ w2 ++ w1 ++ w0) = true → u.codeUsed n a.toNat = false →
      ∃ t, exec (.programCommit who n a v) s = .next t ∧ t.bundle n a.toNat = v ++ w2 ++ w1 ++ w0 ∧ t.ctx = u.ctx ∧ t.scr = u.scr ∧ t.ents = u.ents
        ∧ ∀ (m b : Nat), m ≠ n.val ∨ b ≠ a.toNat → b < 4096 → t.bundle m b = u.bundle m b)
    ∧ (∀ i : BitVec 11, s.admits who (engBase n + 0x12000 + 4 * i.toNat) v u → (u.eng n).lastStore = none →
      ∃ t, exec (.contextWrite who n true i v) s = .next t ∧ t.scrWord n i.toNat = v ∧ t.ctx = u.ctx ∧ t.prog = u.prog
        ∧ ∀ (m a : Nat), m ≠ n.val ∨ a ≠ i.toNat → a < 2048 → t.scrWord m a = u.scrWord m a)
    ∧ (∀ i : BitVec 11, s.admits who (engBase n + 0x10000 + 4 * i.toNat) v u → (u.eng n).lastStore = none →
      ∃ t, exec (.contextWrite who n false i v) s = .next t ∧ t.scr = u.scr
        ∧ (u.protectedWord n i.toNat = false → t.ctxWord n i.toNat = v) ∧ (u.protectedWord n i.toNat = true → t.ctx = u.ctx))
    ∧ (∀ e : Fin 512, s.admits who (engBase n + 0x14000 + 8 * e) v u →
      (u.bankState n 0 = 0 → ∃ t, exec (.bankWrite who n (BitVec.ofNat 14 (8 * e)) v) s = .next t ∧ t.entry n 0 e = (u.entry n 0 e).extractLsb' 32 32 ++ v
        ∧ t.binds = u.binds ∧ t.prog = u.prog)
      ∧ (u.bankState n 0 ≠ 0 → ∃ t, exec (.bankWrite who n (BitVec.ofNat 14 (8 * e)) v) s = .next t ∧ t.ents = u.ents ∧ t.binds = u.binds))
    ∧ (∀ c ∈ [Instr.scrubRead n, .eccWriteback n], ∃ t, exec c s = .next t ∧ t.prog = s.prog ∧ t.ctx = s.ctx ∧ t.scr = s.scr ∧ t.ents = s.ents ∧ t.binds = s.binds
      ∧ (t.eng n).d = (s.eng n).d ∧ (t.eng n).task = (s.eng n).task)
    ∧ (s.bit (TEL_CTRL_SCRUB_EN n) = true → s.inUse n .prog = false → ∃ t, exec (.scrubRead n) s = .next t ∧ (t.eng n).scrubProg = ((s.eng n).scrubProg + 1) % 4096)

/-! ## Schedules, timed updates, the analyser (07, 08) -/

/-- A commit of the banks that NEXT names makes them ADMITTING; admission ends with them WAITING, or idle with FAIL and
the first error; the decision before the frame start and the swap in it make them active. ABORT before the decision
makes them idle. The order of the checks is the model's reading (log entry 39).
ENSET and ENCLR queue a request of their entry; ENABLE_APPLY sets or clears EN of an admitted entry of the active bank and
no other entry of its engine. -/
def Obligations.SchedulesCommitAndEnable : Prop :=
  (
  (∀ (who : Who) (v w : Word) (s u : State), w = withBit v 16 → s.admits who SCH_CTRL w u → legalAt SCH_CTRL w = true → tb v 17 = false →
    u.get SCH_STAT_STATE = 0 → w.extractLsb' 0 16 ≠ 0 → (tb v 18 = false ∨ u.decisionPassed (u.get SCH_SWAP_MFN_MFN) = false) →
    ∃ t, exec (.schCommit who v) s = .next t ∧ t.get SCH_STAT_STATE = 1 ∧ t.bit SCH_CTRL_COMMIT = true ∧ t.armed .admissionDone = true
      ∧ t.sch.mask = w.extractLsb' 0 16 ∧ t.ents = u.ents ∧ t.binds = u.binds ∧ t.engs = u.engs
      ∧ ∀ n : Fin 16, n.val < u.nEngines → (w.extractLsb' 0 16).getLsbD n = true → t.bankState n (u.nextBank n) = 1)
  ∧ (∀ s : State, s.get SCH_STAT_STATE = 1 → (∀ c i, s.eccRead c i = .clean) →
    (s.admission s.sch.mask = none → ∃ t, exec .admissionDone s = .next t ∧ t.get SCH_STAT_STATE = 2
      ∧ ∀ n : Fin 16, n.val < s.nEngines → s.sch.mask.getLsbD n = true → t.bankState n (s.nextBank n) = 2)
    ∧ (∀ code eng entry value, s.admission s.sch.mask = some (code, eng, entry, value) → ∃ t, exec .admissionDone s = .next t
      ∧ t.get SCH_STAT_STATE = 0 ∧ t.bit SCH_STAT_FAIL = true ∧ t.bit SCH_ERR_ERRV = true ∧ t.get SCH_ERR_CODE = code % 16
      ∧ (∀ n : Fin 16, n.val < s.nEngines → s.sch.mask.getLsbD n = true → t.bankState n (s.nextBank n) = 0) ∧ ∀ n, t.eng n = { s.eng n with used := (t.eng n).used }))
  ∧ (∀ s : State, s.swapDue = true → ∃ t, exec .swapDecision s = .next t ∧ t.sch.decided = true ∧ t.regs = s.regs ∧ t.engs = s.engs)
  ∧ (∀ s : State, s.sch.decided = true → s.get SCH_STAT_STATE = 2 → ∃ t, exec .swap s = .next t ∧ t.get SCH_STAT_STATE = 0 ∧ t.bit SCH_STAT_DONE = true
    ∧ t.get SCH_SWAP_LAST_MFN = s.mfn ∧ t.prog = s.prog ∧ t.binds = s.binds ∧ ∀ n : Fin 16, n.val < s.nEngines →
      (s.sch.mask.getLsbD n = true → t.active n = some (s.nextBank n)) ∧ (s.sch.mask.getLsbD n = false → t.active n = s.active n ∧ t.eng n = s.eng n))
  ∧ (∀ (who : Who) (v : Word) (s u : State), s.admits who SCH_CTRL (withBit v 17) u → legalAt SCH_CTRL (withBit v 17) = true → tb v 16 = false →
    u.get SCH_STAT_STATE ≠ 0 → u.sch.decided = false → u.clk.cyc ≠ 2399 → ∃ t, exec (.schAbort who v) s = .next t ∧ t.get SCH_STAT_STATE = 0
      ∧ t.engs = u.engs ∧ t.ents = u.ents ∧ ∀ n : Fin 16, n.val < u.nEngines → u.sch.mask.getLsbD n = true → t.bankState n (u.nextBank n) = 0))
  ∧ (
  (∀ (who : Who) (n : Engine) (v : Word) (s u : State),
    (s.admits who (TEL_SCH_ENSET n) v u → ∃ t, exec (.enset who n v) s = .next t ∧ t = { u with sch := t.sch } ∧ t.sch = { u.sch with enReqs := u.sch.enReqs ++ [(n.val, true, bitsOf v 8 0)] })
    ∧ (s.admits who (TEL_SCH_ENCLR n) v u → ∃ t, exec (.enclr who n v) s = .next t ∧ t = { u with sch := t.sch } ∧ t.sch = { u.sch with enReqs := u.sch.enReqs ++ [(n.val, false, bitsOf v 8 0)] }))
  ∧ (∀ (n : Engine) (s : State) (x : Nat) (b : Bool) (e : Fin 512), n.val < s.nEngines → s.active n = some x → s.sch.enReqs = [(n.val, b, e.val)] → s.sch.huReqs = [] → (∀ c w, s.eccRead c w = .clean) →
    SMap.get (fun _ => false) (s.eng n).admitted (512 * x + e) = true →
    ∃ t, exec .enableApply s = .next t ∧ t.sch.enReqs = [] ∧ enEN (t.entry n x e) = b ∧ (t.entry n x e).extractLsb' 0 63 = (s.entry n x e).extractLsb' 0 63
      ∧ t.prog = s.prog ∧ t.binds = s.binds ∧ ∀ e' : Fin 512, e' ≠ e → t.entry n x e' = s.entry n x e'))

/-- TEL_CPROT takes a range until it is locked. A timed update is pending from GO to its frame; ABORT ends it with FAIL;
its apply puts every word of the buffer into the slot's words and nothing else into the context. A relayed word
reaches every other engine's scratch. See log entry 40. -/
def Obligations.CoefficientsUpdatesRelay : Prop :=
  (∀ (who : Who) (n : Engine) (sl : Fin 16) (v : Word) (s u : State), s.admits who (TEL_CPROT n sl) v u → bitsOf v 6 0 + bitsOf v 15 8 ≤ 128 →
    (u.bit (TEL_CPROT_LOCK n sl) = false → ∃ t, exec (.cprotWrite who n sl v) s = .next t ∧ t.get (TEL_CPROT_BASE n sl) = bitsOf v 6 0
      ∧ t.get (TEL_CPROT_COUNT n sl) = bitsOf v 15 8 ∧ t.bit (TEL_CPROT_LOCK n sl) = tb v 31 ∧ u.onlyRegs t [TEL_CPROT n sl])
    ∧ (u.bit (TEL_CPROT_LOCK n sl) = true → exec (.cprotWrite who n sl v) s = .next (u.access (TEL_CPROT n sl))))
  ∧ (∀ (who : Who) (n : Engine) (v : Word) (s u : State), bitsOf v 6 0 + bitsOf v 11 8 ≤ 127 →
    (s.admits who (TEL_CUPD_CTRL n) (withBit v 31) u → u.bit (TEL_CUPD_STAT_PEND n) = false → tb v 30 = false → tb v 29 = false →
      ∃ t, exec (.cupdGo who n v) s = .next t ∧ t.bit (TEL_CUPD_STAT_PEND n) = true ∧ t.bit (TEL_CUPD_CTRL_GO n) = true
        ∧ (t.eng n).cupdAt = some (BitVec.ofNat 32 (u.mfn + 1)) ∧ t.get (TEL_CUPD_CTRL_SLOT n) = bitsOf v 19 16 ∧ t.ctx = u.ctx)
    ∧ (s.admits who (TEL_CUPD_CTRL n) (withBit v 30) u → u.bit (TEL_CUPD_STAT_PEND n) = true → tb v 31 = false → (u.eng n).cupdAt.isSome = true → u.clk.cyc ≠ 2399 →
      ∃ t, exec (.cupdAbort who n v) s = .next t ∧ t.bit (TEL_CUPD_STAT_PEND n) = false ∧ t.bit (TEL_CUPD_STAT_FAIL n) = true ∧ t.get (TEL_CUPD_STAT_ERR n) = 3
        ∧ (t.eng n).cupdAt = none ∧ t.ctx = u.ctx))
  ∧ (∀ (n : Engine) (s : State) (f : BitVec 32), (s.eng n).cupdAt = some f → (s.mfn + 1) % 2 ^ 32 = f.toNat → (s.eng n).lastStore = none →
    (∀ w, s.eccRead (16 + n) w = .clean) → s.bit (FCU_INJ_ARM (16 + n)) = false →
    s.get (TEL_CUPD_CTRL_BASE n) + s.get (TEL_CUPD_CTRL_LAST n) ≤ 127 →
    ∃ t, exec (.cupdApply n) s = .next t ∧ t.bit (TEL_CUPD_STAT_PEND n) = false ∧ t.bit (TEL_CUPD_STAT_DONE n) = true ∧ t.get (TEL_CUPD_LAST_MFN n) = f.toNat
      ∧ (∀ i, i ≤ s.get (TEL_CUPD_CTRL_LAST n) →
        t.ctxWord n (128 * s.get (TEL_CUPD_CTRL_SLOT n) + s.get (TEL_CUPD_CTRL_BASE n) + i) = s.word (TEL_CUPD_BUF n i))
      ∧ (∀ a, a < 2048 → (∀ i, i ≤ s.get (TEL_CUPD_CTRL_LAST n) → a ≠ 128 * s.get (TEL_CUPD_CTRL_SLOT n) + s.get (TEL_CUPD_CTRL_BASE n) + i) → t.ctxWord n a = s.ctxWord n a)
      ∧ t.scr = s.scr ∧ t.prog = s.prog)
  ∧ (∀ (n : Engine) (s : State) (due i : Nat) (v : Word), (s.eng n).relay = [(due, i, v)] → due ≤ s.clk.now → i < 2048 → (∀ m, (s.eng m).lastStore = none) →
    (∀ c w, s.eccRead c w = .clean) → ∃ t, exec (.relayWrite n) s = .next t ∧ (t.eng n).relay = [] ∧ t.ctx = s.ctx ∧ t.prog = s.prog
      ∧ ∀ m, m < s.nEngines → (m ≠ n.val → t.scrWord m i = v) ∧ (∀ a, a < 2048 → m = n.val ∨ a ≠ i → t.scrWord m a = s.scrWord m a))

/-- A run of the analyser: GO arms it, its start frame begins it, each boundary presents a sample (of a PRBS, plus or
minus the amplitude) and times the next, the end of a step gives its result, the end of the run clears RUN. STOP of
an armed run fails it at once, of a running one at its next boundary. Rounding is the model's reading (log entry
41). -/
def Obligations.AnalyserRuns : Prop :=
  (∀ (who : Who) (v w : Word) (s u : State), w = withBit v 31 → s.admits who FRA_CTRL w u → legalAt FRA_CTRL w = true → tb v 30 = false → tb v 29 = false →
    bitsOf v 15 12 < u.nEngines → u.bit FRA_STAT_RUN = false → u.bit FRA_STAT_ARMED = false → u.get FRA_AMP_AMP ≤ u.get FRA_AMP_LIM_LIM → u.bit FRA_WORDS_CAP_EN = false →
    ∃ t, exec (.fraGo who v) s = .next t ∧ t.bit FRA_STAT_ARMED = true ∧ t.bit FRA_CTRL_GO = true ∧ t.get FRA_STAT_ERR = 0 ∧ t.get FRA_STAT_STEP = 0
      ∧ (∀ i, i < 32 → t.word (FRA_RES_N i) = 0) ∧ t = { u with regs := t.regs, fra := { tail := u.fra.tail, goMfn := BitVec.ofNat 32 u.mfn } })
  ∧ (∀ (who : Who) (v : Word) (s u : State), s.admits who FRA_CTRL (withBit v 30) u → legalAt FRA_CTRL (withBit v 30) = true → tb v 31 = false → bitsOf v 15 12 < u.nEngines →
    (u.bit FRA_STAT_RUN = true → u.fra.stop = none → ∃ t, exec (.fraStop who v) s = .next t ∧ t.fra.stop = some 5 ∧ t = { u with fra := t.fra })
    ∧ (u.bit FRA_STAT_RUN = false → u.bit FRA_STAT_ARMED = true → ∃ t, exec (.fraStop who v) s = .next t ∧ t.bit FRA_STAT_ARMED = false
      ∧ t.bit FRA_STAT_FAIL = true ∧ t.get FRA_STAT_ERR = 5))
  ∧ (∀ s : State, s.fraDue = true → ∃ t, exec .fraStart s = .next t ∧ t.bit FRA_STAT_RUN = true ∧ t.bit FRA_STAT_ARMED = false ∧ t.armed .fraBoundary = true ∧ t.fra = s.fra)
  ∧ (∀ s : State, s.bit FRA_STAT_RUN = true → s.bit FRA_WORDS_CAP_EN = false →
    (s.fra.k = 0 → s.fra.n = 0 → s.fra.stop = none → s.fraMode = 2 → s.get FRA_TIMING_SETTLE + s.get FRA_TIMING_INTEG ≠ 0 →
      ∃ t, exec .fraBoundary s = .next t ∧ t.fra.k = 1 ∧ ((t.word FRA_SAMPLE).toInt = s.get FRA_AMP_AMP ∨ (t.word FRA_SAMPLE).toInt = -(s.get FRA_AMP_AMP : Int))
        ∧ t.alarms.filter (fun e => e.2 = .fraBoundary) = [(s.clk.now + 75 * s.get FRA_TIMING_PERIOD, .fraBoundary)] ∧ t.ctx = s.ctx)
    ∧ (∀ code, s.fra.stop = some code → code < 16 → ∃ t, exec .fraBoundary s = .next t ∧ t.bit FRA_STAT_RUN = false ∧ t.bit FRA_STAT_FAIL = true
      ∧ t.get FRA_STAT_ERR = code ∧ t.word FRA_SAMPLE = 0 ∧ t.armed .fraBoundary = false))
  ∧ (∀ (s : State) (i : Nat), s.bit FRA_STAT_RUN = true → s.fraMode ≠ 2 → s.fraInteg = some i → s.fra.n = s.fraSettle + i →
    ∃ t, exec .fraStepEnd s = .next t ∧ t.bit (FRA_RES_N_VALID (s.get FRA_STAT_STEP)) = true ∧ t.fra.n = 0
      ∧ (s.fraMode = 1 → s.get FRA_STAT_STEP < s.get FRA_CTRL_LAST → t.get FRA_STAT_STEP = s.get FRA_STAT_STEP + 1)
      ∧ (s.fraMode = 0 → t.fra.ended = true ∧ t.armed .fraRunEnd = true))
  ∧ (∀ s : State, s.bit FRA_STAT_RUN = true → s.fra.ended = true → ∃ t, exec .fraRunEnd s = .next t ∧ t.bit FRA_STAT_RUN = false ∧ t.bit FRA_STAT_DONE = true
    ∧ t.word FRA_SAMPLE = 0 ∧ t.fra = {})

/-! ## The Mint and the battery (10, 11) -/

/-- MINT_LATCH with the Mint enabled: what it grants and what stays over are together exactly the coins of the epoch; no link
but one with a purse takes a grant. -/
def Obligations.MintGrantsWhatItHas : Prop :=
  ∀ s : State, s.mintDue = false → s.mbit MNT_CTRL_EN = true → s.safe = false →
    ∃ t al, exec .mintLatch s = .next t ∧ t.mint.alloc = some al ∧ al.coins = t.get MNT_COINS_COINS
      ∧ (al.grants.map (·.2)).sum + al.rem = al.coins ∧ (∀ g ∈ al.grants, g.1 < s.nLinks ∧ (t.purse g.1).on = true) ∧ t.mint.run = true ∧ t.links = s.links

/-- MINT_CREDIT adds the grant to the balance, up to CARRY_MAX, and shows grant and rest; a configuration becomes active
whole at its apply; the hold-up commands set and clear what R302..R306 give. See log entry 42. -/
def Obligations.MintCreditsAndHoldup : Prop :=
  (∀ (s : State) (al : Alloc) (k : Link) (g : Nat), s.mint.alloc = some al → s.safe = false → al.grants = [(k.val, g)] → (s.purse k).on = true → g < 65536 → al.rem < 2 ^ 32 →
    ∃ t, exec .mintCredit s = .next t ∧ t.mint.alloc = none ∧ (t.purse k).bal = min ((s.purse k).bal + (g : Int) * 100000000) (s.mget MNT_DEBT_CARRY_MAX * 100000000)
      ∧ t.get (MNT_PGRANT_GRANT k) = g ∧ t.get MNT_UNALLOC_COINS = al.rem ∧ (∀ j, j ≠ k.val → t.purse j = s.purse j) ∧ t.links = s.links)
  ∧ (∀ (who : Who) (v : Word) (s u : State), s.admits who MNT_APPLY (withBit v 31) u → u.mint.go = none → tb v 30 = false →
    ∃ t, exec (.mntApply who v) s = .next t ∧ t.mint = { u.mint with go := some none } ∧ t.bit MNT_APPLY_GO = true ∧ t.get MNT_APPLY_ERR = 0)
  ∧ (∀ s : State, s.mintDue = true → (∀ w, s.eccRead 76 w = .clean) → ∃ t, exec .mntApplied s = .next t ∧ t.mint.go = none ∧ t.bit MNT_APPLY_DONE = true
    ∧ t.bit MNT_APPLY_GO = false ∧ t.mint.act = s.regs.filter (fun e => mintCfg e.1) ∧ t.mint.purses = s.mint.purses)
  ∧ (∀ s : State, s.bit MNT_STAT_HOLDUP = true → (s.mget MNT_AC_AC_N = 0 ∨ s.acCount < s.mget MNT_AC_AC_N) →
    ∃ t, exec .holdupOff s = .next t ∧ t.bit MNT_STAT_HOLDUP = false ∧ t.get MNT_STAT_SHED = 0 ∧ t.mint.huSw = some false ∧ t.mint.purses = s.mint.purses)
  ∧ (∀ (s : State) (on : Bool), s.mint.huSw = some on → ∃ t, exec .holdupSwitch s = .next t ∧ t.mint.huSw = none ∧ t.regs = s.regs
    ∧ ∀ i, i < 8 → s.mbit (MNT_HUSW_EN i) = true → s.mget (MNT_HUSW_ENGINE i) < s.nEngines →
      (s.mget (MNT_HUSW_ENGINE i), s.mbit (MNT_HUSW_SET i) == on, s.mget (MNT_HUSW_ENTRY i)) ∈ t.sch.huReqs)
  ∧ (∀ (c : Fin 4) (s : State), s.bit MNT_STAT_HOLDUP = true → (s.mget MNT_SHED_SHED_EN).testBit c = true → (s.get MNT_STAT_SHED).testBit c = false →
    ∃ t, exec (.shed c) s = .next t ∧ (t.get MNT_STAT_SHED).testBit c = true ∧ t.bit MNT_STAT_EMERG = true
      ∧ (∀ d : Fin 4, d ≠ c → (t.get MNT_STAT_SHED).testBit d = (s.get MNT_STAT_SHED).testBit d) ∧ t.mint.purses = s.mint.purses)

/-- The battery: an update starts the next epoch of every enabled string with its charges between 0 and 1000 per mille;
a cell window, a link failure, a reading and the rest windows do what their rules say; the configuration becomes
active whole or not at all. Rounding is the model's reading (log entry 43). -/
def Obligations.BatteryCommands : Prop :=
  (∀ s : State, ∃ t, exec .batUpdate s = .next t ∧ t.bat.digMfn = s.mfn ∧ t.links = s.links ∧ t.ring = s.ring ∧ ∀ st : Fin 8, s.strOn st = true →
    t.get (BAT_SOC_SOC st) ≤ 1000 ∧ t.get (BAT_SOC_CNT st) ≤ 1000 ∧ t.get (BAT_SOC_UNC st) ≤ 1000 ∧ (t.bstr st).n = 0 ∧ (t.bstr st).prev = s.tally st ∧ t.tally st = s.tally st)
  ∧ (∀ (st : Str) (s : State), s.strOn st = true →
    ((s.bstr st).slot = 15 → ∃ t, exec (.cellWindow st) s = .next t ∧ (t.bstr st).seen = 0
      ∧ ((s.bstr st).seen.getLsbD 7 = true → t.get (BAT_CELLMM_MAX st) = s.strAux st 7) ∧ ((s.bstr st).seen.getLsbD 6 = true → t.get (BAT_CELLMM_MIN st) = s.strAux st 6)
      ∧ t.tally st = s.tally st)
    ∧ (s.bget BAT_SUB_SUB_LIM ≤ s.get (BAT_SUBST_CONSEC st) → s.bit (BAT_SFLAG_LINK st) = false → ∃ t, exec (.batLink st) s = .next t ∧ t.bit (BAT_SFLAG_LINK st) = true
      ∧ (t.bstr st).linkSeen = true ∧ (st.val < s.nStrings → 62 + st.val ∈ t.fcu.detq) ∧ t.tally st = s.tally st)
    ∧ (∀ v sumT : Int, (s.bstr st).rest = restIntervals (s.bget BAT_REST_DIR_S) → restSums (s.bstr st).hist = some (v, sumT) →
      ∃ t, exec (.directReading st) s = .next t ∧ (t.bstr st).dir = some (v * 25 / (14 * 65536), sumT) ∧ t.regs = s.regs)
    ∧ (∀ v sumT : Int, (s.bstr st).rest = restIntervals (s.bget BAT_REST_EXT_S) → (s.bstr st).s1 = some (restIntervals (s.bget BAT_REST_EXT_S) / 2, v) →
      restSums (s.bstr st).hist = some (v, sumT) → ∃ t, exec (.extrapolatedReading st) s = .next t
        ∧ (t.bstr st).ext = some (v * 25 / (14 * 65536), sumT) ∧ t.regs = s.regs))
  ∧ (∀ (s : State) (w : RestWin) (later : List RestWin), s.bat.ann = w :: later → w.ms = s.mfn → s.bit MNT_STAT_HOLDUP = false → s.bit (BAT_SFLAG_CUTOFF w.str) = false →
    s.bit (BAT_SFLAG_LINK w.str) = false → ∃ t, exec .rotWindowStart s = .next t ∧ t.bat.run = some w ∧ t.bat.ann = later ∧ t.bit BAT_STAT_RESTING = true ∧ t.bat.strs = s.bat.strs)
  ∧ (∀ s : State, s.rotOver = true → ∃ t, exec .rotWindowEnd s = .next t ∧ t.bat.run = none ∧ t.bit BAT_STAT_RESTING = false ∧ t.bat.strs = s.bat.strs)
  ∧ (∀ (s : State) (ms : Nat), s.rotDue = some ms →
    ((∃ st, st < 8 ∧ s.eligible st = true) → ∃ t w, exec .rotDecision s = .next t ∧ t.bat.ann = s.bat.ann ++ [w] ∧ s.eligible w.str = true ∧ w.ms = ms)
    ∧ ((∀ st, st < 8 → s.eligible st = false) → ∃ t, exec .rotDecision s = .next t ∧ t.bat.ann = s.bat.ann ∧ t.bit BAT_STAT_ROT_BLOCKED = true))
  ∧ (∀ (who : Who) (v : Word) (s u : State), s.admits who BAT_APPLY (withBit v 31) u → u.bat.go = none → tb v 30 = false →
    ∃ t, exec (.batApply who v) s = .next t ∧ t.bat = { u.bat with go := some none } ∧ t.bit BAT_APPLY_GO = true ∧ t.get BAT_APPLY_ERR = 0)
  ∧ (∀ s : State, s.batDue = true → ∃ t, exec .batApplied s = .next t ∧ t.bat.go = none ∧ t.bit BAT_APPLY_GO = false
    ∧ (s.batConfigBad = true → t.bat.act = s.bat.act ∧ t.bit BAT_APPLY_FAIL = true ∧ t.get BAT_APPLY_ERR = 3)
    ∧ (s.batConfigBad = false → t.bit BAT_APPLY_DONE = true ∧ ∀ a, batCfg a = true → SMap.get resetWord t.bat.act a = s.word a))

/-! ## The twin link (12) -/

/-- Cells that come whole on a lane that is UP: a TIME cell says whether the MFNs agree and, in a pending alignment,
gives the next load; a HEALTH cell and a DIGEST cell are kept; an IDLE cell changes nothing else; an AUTH cell of
the own unit is a clash, one of the peer gives its state, and a standby takes the epoch of a holder, a holder yields
to a higher one. A lane that goes down takes LINK_UP with it where it was the last. A lane sends its due AUTH cell
first. See log entry 44. -/
def Obligations.TwinCells : Prop :=
  ∀ (lane : Fin 2) (c : Cell) (w : BitVec 128) (s : State),
    let pay := slice w.toNat 111 0
    (s.bit TWN_CTRL_LANE_EN = false → (∀ i ∈ [Instr.authCell lane c, .timeCell lane c, .healthCell lane c, .digestCell lane c, .idleCell lane c, .ledgerCell lane c, .fwdHdr lane c, .fwdData lane c, .fwdRsp lane c, .xreq lane c, .xrsp lane c, .xsnap lane c, .xjrnl lane c, .cellTransmit lane],
      exec i s = .next s))
    ∧ (s.takesCell lane c w 0x02 → ∃ t, exec (.timeCell lane c) s = .next t ∧ t.bit TWN_STAT_MFN_OK = decide (slice pay 47 16 = s.mfn) ∧ t.T = s.T
      ∧ (s.bit TWN_CTRL_TALIGN = true → t.bit TBS_STATUS_LOAD_PEND = true ∧ t.bit TWN_CTRL_TALIGN = false
        ∧ (t.word TBS_LOAD_HI ++ t.word TBS_LOAD_LO).toNat = (slice pay 111 48 + 1920) % 2 ^ 64
        ∧ t.clk.loadMfn = some (BitVec.ofNat 32 (slice pay 47 16 + 1)))
      ∧ (s.bit TWN_CTRL_TALIGN = false → t.clk = s.clk ∧ t.word TBS_STATUS = s.word TBS_STATUS))
    ∧ (s.takesCell lane c w 0x03 → ∃ t, exec (.healthCell lane c) s = .next t ∧ t.twn.peerHealth = some (BitVec.ofNat 112 pay, s.clk.now)
      ∧ t.bit TWN_STAT_PEER_READY = decide (slice pay 22 22 = 1) ∧ s.onlyParts t (fun t s => { s with twn := t.twn, ecc := t.ecc, alarms := t.alarms }) [TWN_STAT, SYS_CLKSTAT])
    ∧ (s.takesCell lane c w 0x04 → ∃ t, exec (.digestCell lane c) s = .next t
      ∧ SMap.get (fun _ => 0) t.twn.dig (slice w.toNat 119 112) = BitVec.ofNat 112 pay
      ∧ s.onlyParts t (fun t s => { s with twn := t.twn, ecc := t.ecc, alarms := t.alarms }) [SYS_CLKSTAT])
    ∧ (s.takesCell lane c w (idleType w) → ∃ t, exec (.idleCell lane c) s = .next t
      ∧ t.twn = { s.twn with lanes := t.twn.lanes, lastCell := some s.clk.now }
      ∧ s.onlyParts t (fun t s => { s with twn := t.twn, ecc := t.ecc, alarms := t.alarms }) [SYS_CLKSTAT])
    ∧ (s.takesCell lane c w 0x01 → slice pay 2 2 = s.unitBit → ∃ t, exec (.authCell lane c) s = .next t ∧ t.bit TWN_STAT_CLASH = true
      ∧ t.twn.clashed = true ∧ t.get TWN_PEER_UNIT = s.unitBit ∧ t.holder = s.holder ∧ (s.holder = true → t.epoch = s.epoch))
    ∧ (s.takesCell lane c w 0x01 → slice pay 2 2 ≠ s.unitBit → ∃ t, exec (.authCell lane c) s = .next t
      ∧ t.bit TWN_STAT_PEER_HOLDER = decide (slice pay 64 64 = 1) ∧ t.bit TWN_PEER_READY = decide (slice pay 63 63 = 1)
      ∧ t.get TWN_PEER_COUNTER = slice pay 79 65 ∧ t.twn.cPeer = max s.twn.cPeer (max (slice pay 79 65) (slice pay 95 80 / 2))
      ∧ (s.holder = false → slice pay 64 64 = 1 → t.holder = false ∧ t.epoch = slice pay 95 80)
      ∧ (s.holder = false → slice pay 64 64 = 0 → t.holder = false ∧ t.epoch = s.epoch)
      ∧ (s.holder = true → slice pay 64 64 = 1 → s.epoch < slice pay 95 80 → s.bit TWN_CTRL_EN = true → t.holder = false ∧ t.epoch = slice pay 95 80)
      ∧ (s.holder = true → slice pay 64 64 = 0 ∨ slice pay 95 80 ≤ s.epoch → t.holder = true ∧ t.epoch = s.epoch))
    ∧ (s.laneUp lane = true → ∃ t, exec (.laneDown lane) s = .next t ∧ t.laneUp lane = false ∧ t.laneUp (1 - lane.val) = s.laneUp (1 - lane.val)
      ∧ t.linkUp = s.laneUp (1 - lane.val) ∧ t.holder = s.holder ∧ t.epoch = s.epoch)
    ∧ (∃ u : State, exec .twnRxLockLoss s = .next ((u.raiseN 32 0x03 10).detect 10) ∧ u.bit SYS_CLKSTAT_TWN_LOCK = false ∧ s.onlyRegs u [SYS_CLKSTAT])
    ∧ (s.bit TWN_CTRL_LANE_EN = true → s.twn.authDue = true → s.bit (FCU_INJ_ARM 68) = false → ∃ t, exec (.cellTransmit lane) s = .next t
      ∧ (t.lane lane).out = cellSyms (cellWord 0x01 0 s.authPay) (s.lane lane).seq 0 ∧ (t.lane lane).seq = ((s.lane lane).seq + 1) % 128 ∧ t.twn.authDue = false ∧ t.regs = s.regs)

/-- Authority: an evaluation counts a missed heartbeat, or ends the count at a heartbeat; a standby whose conditions
hold takes over, and a claim with no bar is granted, with the epoch above every counter known and of the own unit's
parity; a handover moves authority with the epoch of the standby's answer, and without an answer it stays. CLAIM,
HANDOVER, TALIGN and CNT_CLR do what their bits say. See log entry 45. -/
def Obligations.AuthorityMoves : Prop :=
  (∀ (hbi authIn : Bool) (s : State), ∃ t, exec (.heartbeat hbi authIn) s = .next t ∧ t.twn.hbi = hbi ∧ t.twn.hbSeen = (s.twn.hbSeen || hbi != s.twn.hbi)
    ∧ t.bit TWN_STAT_AUTH_IN = authIn ∧ s.onlyParts t (fun t s => { s with twn := t.twn }) [TWN_STAT])
  ∧ (∀ s : State, s.bit TWN_CTRL_HB_EN = true → ∃ t, exec .heartbeatEvaluate s = .next t ∧ t.twn.hbSeen = false ∧ t.ring = s.ring
    ∧ (s.twn.hbSeen = true → t.get TWN_STAT_MISS = 0 ∧ t.bit TWN_STAT_HB_OK = decide (0 < s.get TWN_CFG_MISS_N) ∧ t.get TWN_CNT_HBMISS_COUNT = s.get TWN_CNT_HBMISS_COUNT)
    ∧ (s.twn.hbSeen = false → t.get TWN_STAT_MISS = min (s.get TWN_STAT_MISS + 1) 15 ∧ t.get TWN_CNT_HBMISS_COUNT = min (s.get TWN_CNT_HBMISS_COUNT + 1) (2 ^ 32 - 1)
      ∧ t.bit TWN_STAT_HB_OK = decide (t.get TWN_STAT_MISS < s.get TWN_CFG_MISS_N)
      ∧ (s.get TWN_CFG_MISS_N ≤ t.get TWN_STAT_MISS → s.twn.lost = false → 76 ∈ t.fcu.detq ∧ t.twn.lost = true)))
  ∧ (∀ s : State, s.bit TWN_CTRL_HB_EN = false → s.holder = false → s.bit TWN_CTRL_EN = true → s.takeoverBlock = 0 →
    s.twn.peerReleased = true ∨ s.get TWN_CFG_MISS_N ≤ s.get TWN_STAT_MISS →
    ∃ t, exec .heartbeatEvaluate s = .next t ∧ t.holder = true ∧ t.epoch = 2 * (s.cKnown + 1) + s.unitBit ∧ t.bit TWN_STAT_HOLDER = true)
  ∧ (∀ s : State, s.bit TWN_CTRL_CLAIM = true → s.bit TWN_CTRL_EN = true →
    (s.holder = true → ∃ u : State, exec .claimDecide s = .next (u.raiseTwin 0x03 1) ∧ u.bit TWN_CTRL_CLAIM = false ∧ s.onlyRegs u [TWN_CTRL])
    ∧ (s.holder = false → s.bit TWN_STAT_NO_CLAIM = false → s.twn.clashed = false → s.bit TWN_STAT_AUTH_IN = false → s.twn.peerHeld = none →
      s.twn.peerClaim = none → s.cKnown < 32767 →
      ∃ t, exec .claimDecide s = .next t ∧ t.holder = true ∧ t.epoch = 2 * (s.cKnown + 1) + s.unitBit ∧ t.bit TWN_CTRL_CLAIM = false))
  ∧ (∀ (s : State) (h : HoReq), s.twn.ho = some h → s.holder = true →
    (∀ e, h.ack = some e → e < 65536 → ∃ t, exec .handoverDecision s = .next t ∧ t.holder = false ∧ t.epoch = e ∧ t.twn.ho = none
      ∧ t.bit TWN_CTRL_HANDOVER = false ∧ ∀ k, k < s.nLinks → t.seized k = false)
    ∧ (h.ack = none → ∃ t, exec .handoverDecision s = .next t ∧ t.holder = true ∧ t.epoch = s.epoch ∧ t.twn.ho = none ∧ t.bit TWN_CTRL_HANDOVER = false))
  ∧ (∀ (s : State) (m j e : Nat), s.twn.ho = none → s.twn.hoAck = some (m, j, e) → s.holder = false → e < 65536 →
    ∃ t, exec .handoverDecision s = .next t ∧ t.twn.hoAck = none ∧ (s.twn.hoSent = true → t.holder = true ∧ t.epoch = e) ∧ (s.twn.hoSent = false → t.holder = false ∧ t.epoch = s.epoch))
  ∧ (∀ (who : Who) (v w : Word) (s u : State), s.admits who TWN_CTRL w u → legalAt TWN_CTRL w = true → tb w 1 = true → tb w 2 = true →
    (w = withBit v 31 → tb w 30 = false → tb w 29 = false → tb w 4 = false →
      ∃ t, exec (.claim who v) s = .next t ∧ t.bit TWN_CTRL_CLAIM = true ∧ u.onlyRegs t [TWN_CTRL, TWN_STAT])
    ∧ (w = withBit v 30 → tb w 31 = false → tb w 29 = false → tb w 4 = false → u.twn.ho = none →
      (u.holder = true → ∃ t, exec (.handover who v) s = .next t ∧ t.bit TWN_CTRL_HANDOVER = true
        ∧ t.twn = { u.twn with ho := some { mfn := u.get TWN_HO_MFN_MFN, frame := u.get TWN_HO_FRAME } } ∧ t = { u with regs := t.regs, twn := t.twn })
      ∧ (u.holder = false → ∃ x : State, exec (.handover who v) s = .next (x.raiseTwin 0x05 5) ∧ u.onlyRegs x [TWN_CTRL, TWN_STAT]))
    ∧ (w = withBit v 29 → tb w 31 = false → tb w 30 = false → tb w 4 = false →
      (u.loadAllowed = true → ∃ t, exec (.talign who v) s = .next t ∧ t.bit TWN_CTRL_TALIGN = true ∧ u.onlyRegs t [TWN_CTRL, TWN_STAT])
      ∧ (u.loadAllowed = false → exec (.talign who v) s = .next ((u.apply TWN_CTRL w).hbOk.access TWN_CTRL)))
    ∧ (w = withBit v 4 → tb w 31 = false → tb w 30 = false → tb w 29 = false → ∃ t, exec (.twnCntClr who v) s = .next t
      ∧ (∀ f ∈ [TWN_CNT_UE_COUNT, TWN_CNT_HBMISS_COUNT, TWN_CNT_DIGX_COUNT, TWN_CNT_ECHOX_COUNT, TWN_CNT_NACK_COUNT], t.get f = 0)
      ∧ u.onlyRegs t [TWN_CTRL, TWN_STAT, TWN_CNT_UE, TWN_CNT_HBMISS, TWN_CNT_DIGX, TWN_CNT_ECHOX, TWN_CNT_NACK]))

/-- The comparison of a frame: complete sets that agree count as one more equal frame; incomplete ones end the run.
Forwarding: SEND makes the command's cells wait and times its answer; the answer, or the time's end, ends it with
its status; a command whose last data cell comes, for this holder's epoch, fills an empty receive buffer. See log
entries 44 and 46. -/
def Obligations.ComparisonAndForwarding : Prop :=
  (∀ s : State, s.bit TWN_CTRL_CMP_EN = true → s.twn.compared ≠ some s.mfn →
    (s.digComplete = true → (∀ n, n < s.nEngines → s.engDiff n = none) → slice (s.peerDig 89) 95 64 = slice (s.digestPay 89).toNat 95 64 →
      slice (s.peerDig 89) 47 16 = slice (s.digestPay 89).toNat 47 16 →
      ∃ t, exec .digestCompare s = .next t ∧ t.twn.digRun = s.twn.digRun + 1 ∧ t.twn.compared = some s.mfn ∧ t.word TWN_DIVG = s.word TWN_DIVG
        ∧ t.bit TWN_STAT_SHADOW_OK = (s.word TWN_DIVG == 0 && decide (s.get TWN_CFG_DIG_OK_N ≤ s.twn.digRun + 1)))
    ∧ (s.digComplete = false → ∃ t, exec .digestCompare s = .next t ∧ t.twn.digRun = 0 ∧ t.twn.dig = [] ∧ (s.disarm .digestCompare).onlyParts t (fun t s => { s with twn := t.twn }) [TWN_STAT]))
  ∧ (∀ s : State, s.bit TWN_CTRL_CMP_EN = false ∨ s.twn.compared = some s.mfn → exec .digestCompare s = .next (s.disarm .digestCompare))
  ∧ (∀ (who : Who) (v : Word) (s u : State), s.admits who TWN_FWD_TX (withBit v 31) u → legalAt TWN_FWD_TX (withBit v 31) = true → u.bit TWN_FWD_TXS_BUSY = false →
    (bitsOf v 21 16 ≤ 32 → ∃ t, exec (.fwdSend who v) s = .next t ∧ t.bit TWN_FWD_TXS_BUSY = true ∧ t.bit TWN_FWD_TX_SEND = true ∧ t.get TWN_FWD_TXS_RSP = 0
      ∧ t.twn.fwd.length = 1 + (bitsOf v 21 16 + 2) / 3 ∧ t.alarms.filter (fun e => e.2 = .fwdTimeout) = [(u.clk.now + (4874 - u.clk.cyc % 75), .fwdTimeout)] ∧ t.ring = u.ring)
    ∧ (32 < bitsOf v 21 16 → ∃ x : State, exec (.fwdSend who v) s = .next (x.raiseN 358 0x02 (0x50000 + bitsOf v 15 0)) ∧ x.get TWN_FWD_TXS_RSP = 5
      ∧ x.bit TWN_FWD_TXS_FAIL = true ∧ x.bit TWN_FWD_TXS_DONE = true ∧ u.onlyRegs x [TWN_FWD_TX, TWN_FWD_TXS]))
  ∧ (∀ s : State, s.bit TWN_FWD_TXS_BUSY = true → ∃ t, exec .fwdTimeout s = .next t ∧ t.bit TWN_FWD_TXS_BUSY = false ∧ t.bit TWN_FWD_TXS_DONE = true
    ∧ t.bit TWN_FWD_TXS_FAIL = true ∧ t.get TWN_FWD_TXS_RSP = 6 ∧ t.bit TWN_FWD_TX_SEND = false ∧ t.twn.fwd = [] ∧ t.ring = s.ring)
  ∧ (∀ (lane : Fin 2) (c : Cell) (w : BitVec 128) (s : State),
    let pay := slice w.toNat 111 0
    (s.takesCell lane c w 0x07 → s.bit TWN_FWD_TXS_BUSY = true → slice pay 111 96 = s.get TWN_FWD_TX_TAG → ∃ t, exec (.fwdRsp lane c) s = .next t
      ∧ t.bit TWN_FWD_TXS_BUSY = false ∧ t.bit TWN_FWD_TXS_DONE = true ∧ t.get TWN_FWD_TXS_RSP = slice pay 95 92
      ∧ t.bit TWN_FWD_TXS_FAIL = decide (slice pay 95 92 ≠ 1) ∧ t.twn.fwd = [])
    ∧ (s.takesCell lane c w 0x05 → slice pay 109 104 ≠ 0 → ∃ t, exec (.fwdHdr lane c) s = .next t
      ∧ t.twn.fwdRx = some { target := slice pay 111 110, len := slice pay 109 104, tag := slice pay 103 88, epoch := slice pay 87 72 }
      ∧ s.onlyParts t (fun t s => { s with twn := t.twn, ecc := t.ecc, alarms := t.alarms }) [SYS_CLKSTAT])
    ∧ (∀ r : FwdRx, s.takesCell lane c w 0x06 → s.twn.fwdRx = some r → r.cells = [] → 1 ≤ r.len → r.len ≤ 3 → slice w.toNat 119 112 = 0 → slice pay 111 96 = r.tag →
      r.target = 2 → r.epoch = s.epoch → s.holder = true → s.bit TWN_FWD_RXS_FULL = false →
      ∃ t, exec (.fwdData lane c) s = .next t ∧ t.bit TWN_FWD_RXS_FULL = true ∧ t.get TWN_FWD_RXS_LEN = r.len ∧ t.get TWN_FWD_RXS_TAG = r.tag ∧ t.twn.fwdRx = none
        ∧ t.twn.rsp.length = s.twn.rsp.length + 1 ∧ ∀ i, i < r.len → t.word (TWN_FWD_RXBUF i) = BitVec.ofNat 32 (slice pay (32 * i + 31) (32 * i))))

/-- A transfer: GO of a standby asks for four frames on, of a holder it is refused with error 3; the holder that serves
answers 0 and takes it on, else it answers 1; the standby keeps the answer, the snapshot words and the later writes;
at the first quiet frame to apply in it loads them whole and is done, or fails and leaves the engine's memories; with no
quiet frame it fails with error 4. The contents of the cells are free values; see log entries 2, 15 and 47. -/
def Obligations.TransfersApplyWhole : Prop :=
  (∀ (who : Who) (v w : Word) (s u : State), w = withBit v 31 → s.admits who TWN_XFER_CTRL w u → legalAt TWN_XFER_CTRL w = true → u.twn.xfer = none →
    (u.holder = false → bitsOf w 4 0 < u.nEngines ∨ 16 ≤ bitsOf w 4 0 → ∃ t, exec (.xferGo who v) s = .next t ∧ t.bit TWN_XFER_STAT_BUSY = true ∧ t.bit TWN_XFER_CTRL_GO = true
      ∧ t.twn.xfer = some { sel := bitsOf w 4 0, xw := bitsOf w 23 16, m := (u.mfn + 4) % 2 ^ 32 } ∧ t = { u with regs := t.regs, twn := t.twn })
    ∧ (u.holder = true → ∃ x : State, exec (.xferGo who v) s = .next (x.raiseN 359 0x02 (bitsOf w 4 0 * 256 + 3)) ∧ x.bit TWN_XFER_STAT_FAIL = true
      ∧ x.get TWN_XFER_STAT_ERR = 3 ∧ u.onlyRegs x [TWN_XFER_CTRL, TWN_XFER_STAT]))
  ∧ (∀ (lane : Fin 2) (c : Cell) (w : BitVec 128) (s : State),
    let pay := slice w.toNat 111 0
    let sel := slice w.toNat 119 112
    (s.takesCell lane c w 0x08 → ∃ t, exec (.xreq lane c) s = .next t ∧ s.onlyParts t (fun t s => { s with twn := t.twn, ecc := t.ecc, alarms := t.alarms }) [SYS_CLKSTAT]
      ∧ (s.holder = true → s.bit TWN_CFG_XFER_SERVE = true → s.twn.serve = none → s.framesSince (slice pay 103 72) < 0 → sel ≤ 18 →
        t.twn.serve = some { sel := sel, xw := slice pay 111 104, m := slice pay 103 72 } ∧ t.twn.xcells = s.twn.xcells ++ [xrspCell sel 0 (slice pay 103 72)])
      ∧ (s.holder = false ∨ s.bit TWN_CFG_XFER_SERVE = false → t.twn.serve = s.twn.serve ∧ t.twn.xcells = s.twn.xcells ++ [xrspCell sel 1 (slice pay 103 72)]))
    ∧ (∀ x : Xfer, s.twn.xfer = some x → x.sel = sel →
      (s.takesCell lane c w 0x09 → slice pay 111 108 = 0 → ∃ t, exec (.xrsp lane c) s = .next t ∧ t.twn.xfer = some { x with accepted := true }
        ∧ s.onlyParts t (fun t s => { s with twn := t.twn, ecc := t.ecc, alarms := t.alarms }) [SYS_CLKSTAT])
      ∧ (s.takesCell lane c w 0x09 → slice pay 111 108 = 1 → ∃ t, exec (.xrsp lane c) s = .next t ∧ t.twn.xfer = none ∧ t.bit TWN_XFER_STAT_FAIL = true
        ∧ t.bit TWN_XFER_STAT_BUSY = false ∧ t.get TWN_XFER_STAT_ERR = 3 ∧ t.ctx = s.ctx ∧ t.scr = s.scr)
      ∧ (s.takesCell lane c w 0x0A → x.sel ≤ 15 → slice pay 111 100 + 2 < 4096 → ∃ t x', exec (.xsnap lane c) s = .next t ∧ t.twn.xfer = some x' ∧ x'.m = x.m
        ∧ x'.lastAt = s.clk.now ∧ (∀ j, j < 3 → SMap.get (fun _ => 0) x'.snap (slice pay 111 100 + j) = BitVec.ofNat 32 (slice pay (32 * j + 31) (32 * j))) ∧ t.ctx = s.ctx ∧ t.scr = s.scr)
      ∧ (s.takesCell lane c w 0x0B → ∃ t x', exec (.xjrnl lane c) s = .next t ∧ t.twn.xfer = some x' ∧ x'.snap = x.snap
        ∧ (x'.jr = x.jr ++ [(slice pay 95 84, BitVec.ofNat 32 (slice pay 83 52))]
          ∨ x'.jr = x.jr ++ [(slice pay 95 84, BitVec.ofNat 32 (slice pay 83 52)), (slice pay 51 40, BitVec.ofNat 32 (slice pay 39 8))]) ∧ t.ctx = s.ctx ∧ t.scr = s.scr)))
  ∧ (∀ (s : State) (x : Xfer), s.twn.serve = none → s.twn.xfer = some x → x.sel ≤ 15 → s.xferFrame x.m x.xw true = true →
    (x.accepted = true → x.snap.length = 4096 → x.lastAt + 8 ≤ s.clk.now → (x.snap.map (·.1)).Nodup → (∀ e ∈ x.snap, e.1 < 4096) → x.jr = [] →
      ∃ t, exec .xferApply s = .next t ∧ (∀ (n a : Nat), n ≠ x.sel → a < 4096 → t.xferWord n a = s.xferWord n a)
        ∧ (Config.holderQuiet x.sel s.mfn = true → (∀ e ∈ x.snap, t.xferWord x.sel e.1 = e.2) ∧ t.bit TWN_XFER_STAT_DONE = true ∧ t.bit TWN_XFER_STAT_BUSY = false
          ∧ t.get TWN_XFER_STAT_ERR = 0 ∧ t.twn.xfer = none)
        ∧ (Config.holderQuiet x.sel s.mfn = false → t = { s with alarms := t.alarms }))
    ∧ (x.accepted = false → ∃ t, exec .xferApply s = .next t ∧ t.ctx = s.ctx ∧ t.scr = s.scr
      ∧ (Config.holderQuiet x.sel s.mfn = true → t.bit TWN_XFER_STAT_FAIL = true ∧ t.get TWN_XFER_STAT_ERR = 1 ∧ t.twn.xfer = none)
      ∧ (Config.holderQuiet x.sel s.mfn = false → t = { s with alarms := t.alarms })))
  ∧ (∀ (s : State) (x : Xfer), s.twn.xfer = some x → x.sel ≤ 15 → s.xferStuck x.m x.xw = true →
    ∃ t, exec .xferQuiet s = .next t ∧ t.bit TWN_XFER_STAT_FAIL = true ∧ t.get TWN_XFER_STAT_ERR = 4 ∧ t.twn.xfer = none ∧ t.ctx = s.ctx ∧ t.scr = s.scr)

/-! ## The Ledger (14) -/

/-- A burst that the MRAM took (with a write command, R521) writes the record of FSEQ to its slot of the OWN region and moves
FSEQ on; the second failure in a row blocks the flush, is detected and times a retry each millisecond, whose success
unblocks it, and which waits for an indirect command. A burst in progress writes the mirrored record that it began with to
its slot of PEER, and its end clears LDG_BUSY. Nothing is written without FLUSH_EN or a power-fail flush, while blocked, or
after that flush; once its PF_END is raised, that record alone. Blank MRAM bytes are the model's choice (log entry 3); see
log entry 48.
PFAIL_N falls out of reset: the supply status and its detection, every held record marked PF, to leave at
once, every LINK channel frozen, the budget timed, the xSPI bus taken; it rises: status and event. PF_END raises the last record; after
PF_DONE no burst writes. See log entries 48 and 59.
FLUSH_EN is refused with RANGE where a region lies outside 256 MiB or on a region of lower number, and set where none does; CNT_CLR
clears the four counters. -/
def Obligations.FlushAndPowerFail : Prop :=
  (
  (∀ s : State, s.mayFlush = true → s.bit LDG_STAT_BLOCKED = false → s.ldg.burst = none → s.ldg.peerq = [] → s.word (XSP_CMDS 1) >>> 16 ≠ 0 →
    (s.ldg.pfCut = false → s.backlog = 1 → s.mrLen 0 ≠ 0 → s.mrBad 0 = false → s.bit (FCU_INJ_ARM 70) = false → ∃ t, exec (.flushBurst true) s = .next t ∧ t.get LDG_FSEQ_SEQ = (s.get LDG_FSEQ_SEQ + 1) % 2 ^ 32 ∧ t.ldg.fails = 0
      ∧ readBytes erasedByte t.mram (s.mrBase 0 + 32 * (s.seqPrime (s.get LDG_FSEQ_SEQ) % s.mrSlots 0)) 32 = s.copyOf (s.get LDG_FSEQ_SEQ) s.ldg.ownGap
      ∧ (∀ a, a < s.mrBase 0 + 32 * (s.seqPrime (s.get LDG_FSEQ_SEQ) % s.mrSlots 0) ∨ s.mrBase 0 + 32 * (s.seqPrime (s.get LDG_FSEQ_SEQ) % s.mrSlots 0) + 32 ≤ a →
        SMap.get erasedByte t.mram a = SMap.get erasedByte s.mram a)
      ∧ s.onlyParts t (fun t s => { s with ldg := t.ldg, mram := t.mram, ecc := t.ecc, fcu := t.fcu }) [LDG_FSEQ])
    ∧ (s.ldg.pfCut = false → s.backlog = 0 → s.ldg.authq = [] → s.ldg.waveq = [] → exec (.flushBurst true) s = .next { s with ldg := { s.ldg with fails := 0 } })
    ∧ (s.ldg.pfCut = true → s.ldg.pfEnd = none → exec (.flushBurst true) s = .next { s with ldg := { s.ldg with fails := 0 } })
    ∧ (s.ldg.fails = 1 → ∃ t, exec (.flushBurst false) s = .next t ∧ t.bit LDG_STAT_BLOCKED = true ∧ 57 ∈ t.fcu.detq ∧ t.mram = s.mram
      ∧ t.get LDG_FSEQ_SEQ = s.get LDG_FSEQ_SEQ ∧ t.alarms.filter (fun e => e.2 = .flushRetry true) = [(s.clk.now + 250000, .flushRetry true)]))
  ∧ (∀ s : State, s.mayFlush = true → s.bit LDG_STAT_BLOCKED = true →
    (s.xsp.icmd = none → s.word (XSP_CMDS 1) >>> 16 ≠ 0 → ∃ t, exec (.flushRetry true) s = .next t ∧ t.bit LDG_STAT_BLOCKED = false ∧ t.ldg.fails = 0
      ∧ t.armed (.flushRetry true) = false)
    ∧ (s.xsp.icmd.isSome = true → ∀ good, ∃ t, exec (.flushRetry good) s = .next t ∧ t = { s with alarms := t.alarms } ∧ t.armed (.flushRetry true) = true)
    ∧ (s.xsp.icmd = none → ∃ t, exec (.flushRetry false) s = .next t ∧ t = { s with alarms := t.alarms } ∧ t.alarms.filter (fun e => e.2 = .flushRetry true) = [(s.clk.now + 250000, .flushRetry true)]))
  ∧ (∀ (s : State) (good : Bool), s.ldg.burst = none → s.mayFlush = false ∨ s.bit LDG_STAT_BLOCKED = true → exec (.flushBurst good) s = .next s)
  ∧ (∀ (s : State) (bs : List Byte) (later : List (List Byte)), s.ldg.burst = some (.peer 1) → s.ldg.peerq = bs :: later → bs.length = 32 → s.mrLen 1 ≠ 0 →
    s.bit LDG_STAT_BLOCKED = false → s.ldg.pfStop = false → s.word (XSP_CMDS 1) >>> 16 ≠ 0 → s.bit (FCU_INJ_ARM 70) = false →
    let a := s.mrBase 1 + 32 * (natLE ((bs.drop 8).take 4) % s.mrSlots 1)
    ∃ t, exec (.flushBurst true) s = .next t ∧ t.ldg = { s.ldg with burst := none, peerq := later, fails := 0 } ∧ t.bit XSP_STAT_LDG_BUSY = false
      ∧ readBytes erasedByte t.mram a 32 = bs ∧ (∀ b, b < a ∨ a + 32 ≤ b → SMap.get erasedByte t.mram b = SMap.get erasedByte s.mram b) ∧ t.flash = s.flash))
  ∧ (
  (∀ s : State, s.bit SYS_PWRSTAT_PFAIL = false → s.inReset = false → s.ldg.pfRun = false →
    ∃ t, exec .pfailFall s = .next t ∧ t.bit SYS_PWRSTAT_PFAIL = true ∧ 14 ∈ t.fcu.detq ∧ t.bit LDG_STAT_PF_ACTIVE = true ∧ t.mrg.held = s.mrg.held.map (fun e => { e with pf := true })
      ∧ t.bit XSP_STAT_PF_OWN = true ∧ t.armed .pfEnd = true ∧ t.vlt.cmd = none ∧ t.mram = s.mram ∧ t.flash = s.flash
      ∧ ∀ c, c < 16 → s.get (LDG_WCH_SRC c) = 1 → t.bit (LDG_WST_FROZEN c) = true)
  ∧ (∀ s : State, s.bit SYS_PWRSTAT_PFAIL = true → exec .pfailFall s = .next s
    ∧ (s.inReset = false → ∃ u : State, exec .pfailRise s = .next (u.raiseN 34 0x02 0) ∧ u.bit SYS_PWRSTAT_PFAIL = false ∧ s.onlyRegs u [SYS_PWRSTAT]))
  ∧ (∀ s : State, s.bit SYS_PWRSTAT_PFAIL = false → exec .pfailRise s = .next s)
  ∧ (∀ s : State, s.bit LDG_STAT_PF_ACTIVE = true → s.ldg.pfStop = false → s.ldg.burst = none →
    (s.ldg.pfCut = false → ∃ u : State, exec .pfEnd s = .next (u.arm 375 .pfDone)
      ∧ u = ({ s with ldg := { s.ldg with pfCut := true } }.disarm .pfEnd).raiseN 366 0x05 s.ldg.pfCount)
    ∧ (∃ t, exec .pfDone s = .next t ∧ t.bit LDG_STAT_PF_DONE = true ∧ t.ldg.pfStop = true ∧ t.mram = s.mram ∧ ∀ good, exec (.flushBurst good) t = .next t)))
  ∧ (
  ∀ (who : Who) (v w : Word) (s u : State), s.admits who LDG_CTRL w u → legalAt LDG_CTRL w = true →
    (w = withBit v 0 → tb w 3 = false → tb w 4 = false →
      ((∀ r, r < 4 → u.mrBad r = false) → ∃ t, exec (.flushEn who v) s = .next t ∧ t.bit LDG_CTRL_FLUSH_EN = true ∧ u.onlyRegs t [LDG_CTRL])
      ∧ (∀ r, r < 4 → u.mrBad r = true → (∀ q, q < r → u.mrBad q = false) → ∃ x : State, exec (.flushEn who v) s = .next (x.raiseN 366 0x06 (2 + r * 0x10000))
        ∧ x.bit LDG_ERR_ERRV = true ∧ x.get LDG_ERR_CODE = 2 ∧ x.get LDG_ERR_VALUE = r ∧ u.onlyRegs x [LDG_ERR]))
    ∧ (w = withBit v 3 → tb w 0 = false → tb w 4 = false → ∃ t, exec (.ldgCntClr who v) s = .next t
      ∧ (∀ f ∈ [LDG_CNT_LOSTF_COUNT, LDG_CNT_LOSTM_COUNT, LDG_CNT_DROP_COUNT, LDG_CNT_MIRX_COUNT], t.get f = 0)
      ∧ u.onlyRegs t [LDG_CTRL, LDG_CNT_LOSTF, LDG_CNT_LOSTM, LDG_CNT_DROP, LDG_CNT_MIRX]))

/-- The waveform channels: an arming starts a channel anew, a trigger gives every armed LINK channel 8192 less PRE
records more and keeps the place of the lowest, or counts MISSED, a freeze stops it. A readout copies its records to
the DTCM in order and nothing else; the window answers the stored word. A mirrored record whose CRC holds waits for its
burst to PEER. The channel that TRIG_POS names and the instant of the copy are the model's choice (log entries 7
and 8). -/
def Obligations.ChannelsReadoutMirror : Prop :=
  (∀ (who : Who) (c : Fin 16) (v w : Word) (s u : State), w = withBit v 31 → s.admits who (LDG_WCH c) w u → legalAt (LDG_WCH c) w = true → bitsOf w 9 8 ≠ 0 →
    u.get (LDG_WCH_SRC c) = 0 ∨ u.get (LDG_WCH_SRC c) = bitsOf w 9 8 → ∃ t, exec (.waveArm who c v) s = .next t ∧ t.bit (LDG_WCH_ARM c) = true
      ∧ (t.wch c) = { left := none, armedAt := if u.bit (LDG_WCH_ARM c) then (u.wch c).armedAt else some u.clk.now } ∧ t.bit (LDG_WST_FROZEN c) = false ∧ (u.bit (LDG_WST_FROZEN c) = true → t.get (LDG_WST_FILL c) = 0)
      ∧ t.wave = u.wave ∧ u.onlyParts t (fun t s => { s with ldg := t.ldg }) [LDG_WCH c, LDG_WST c])
  ∧ (∀ (who : Who) (v w : Word) (s u : State), w = withBit v 4 → s.admits who LDG_CTRL w u → legalAt LDG_CTRL w = true → (tb w 0 = true → ∀ r, r < 4 → u.mrBad r = false) →
    (u.ldg.trigAt = some u.clk.now → ∃ t, exec (.trigNow who v) s = .next t ∧ t.word LDG_TRIG_STAT = u.word LDG_TRIG_STAT ∧ t.ldg = u.ldg ∧ t.wave = u.wave)
    ∧ (u.ldg.trigAt ≠ some u.clk.now → (∀ c, c < 16 → u.waveReady c = false) → ∃ t, exec (.trigNow who v) s = .next t
      ∧ t.get LDG_TRIG_STAT_MISSED = min (u.get LDG_TRIG_STAT_MISSED + 1) 255 ∧ t.ldg = { u.ldg with trigAt := some u.clk.now } ∧ t.wave = u.wave)
    ∧ (∀ c0, u.ldg.trigAt ≠ some u.clk.now → c0 < 16 → u.waveReady c0 = true → (∀ c, c < c0 → u.waveReady c = false) → ∃ t, exec (.trigNow who v) s = .next t ∧ t.bit LDG_TRIG_STAT_VALID = true
      ∧ t.get LDG_TRIG_STAT_TRIG_POS = (u.get (LDG_WST_WIDX c0) + if u.sampleAhead then 1 else 0) % 8192 ∧ t.wave = u.wave ∧ ∀ c, c < 16 →
        (u.waveReady c = true → t.bit (LDG_WCH_ARM c) = false ∧ (t.wch c) = { left := some (8192 - u.get LDG_PRE_PRE), trigAt := some u.clk.now }) ∧ (u.waveReady c = false → t.wch c = u.wch c)))
  ∧ (∀ (c : Fin 16) (s : State), ((s.wch c).left.isSome = true → ∃ t, exec (.waveFreeze c) s = .next t ∧ t.bit (LDG_WST_FROZEN c) = true ∧ t.wch c = {} ∧ t.wave = s.wave
      ∧ (s.disarm (.waveFreeze c)).onlyParts t (fun t s => { s with ldg := t.ldg }) [LDG_WST c])
    ∧ ((s.wch c).left = none → exec (.waveFreeze c) s = .next (s.disarm (.waveFreeze c))))
  ∧ (∀ (who : Who) (v w : Word) (s u : State), w = withBit v 31 → s.admits who LDG_RD_CTRL w u → legalAt LDG_RD_CTRL w = true →
    let r := (u.apply LDG_RD_CTRL w).readout
    (u.bit LDG_STAT_RD_BUSY = true → ∃ y : State, exec (.readoutGo who v) s = .next (y.raiseN 366 0x06 (3 + y.get LDG_ERR_VALUE * 65536)) ∧ y.get LDG_ERR_CODE = 3
      ∧ y.bit LDG_ERR_ERRV = true ∧ u.onlyParts y (fun t s => { s with free := t.free }) [LDG_ERR])
    ∧ (u.bit LDG_STAT_RD_BUSY = false → r.count = 0 → ∃ t, exec (.readoutGo who v) s = .next t ∧ t.bit LDG_STAT_RD_BUSY = false ∧ u.onlyRegs t [LDG_RD_CTRL])
    ∧ (u.bit LDG_STAT_RD_BUSY = false → r.count ≠ 0 → r.count ≤ r.size → r.start < r.size → 0x18000000 ≤ r.dst → r.dst + r.count * r.width ≤ 0x18040000 →
      ∃ t, exec (.readoutGo who v) s = .next t ∧ t.bit LDG_STAT_RD_BUSY = true ∧ t.bit LDG_RD_CTRL_GO = true ∧ t.ldg = { u.ldg with rd := some r } ∧ t.armed .rdDone = true
      ∧ u.onlyParts t (fun t s => { s with ldg := t.ldg, alarms := t.alarms }) [LDG_RD_CTRL, LDG_STAT]))
  ∧ (∀ (s : State) (r : Readout), s.ldg.rd = some r → r.ring = true → 0x18000000 ≤ r.dst → r.dst + r.count * 32 ≤ 0x18040000 → (∀ w, s.eccRead 72 w ≠ .bad) →
    (∀ w, s.eccRead 75 w ≠ .bad) → s.bit (FCU_INJ_ARM 75) = false →
    let n := r.count
    let d := r.dst - 0x18000000
    ∃ t, exec .rdDone s = .next t ∧ t.bit LDG_STAT_RD_BUSY = false ∧ t.bit LDG_STAT_RD_DONE = true ∧ t.bit LDG_RD_CTRL_GO = false ∧ t.ring = s.ring ∧ t.wave = s.wave
      ∧ (∀ i, i < n → readBytes zeroByte t.dtcm (d + i * 32) 32 = readBytes zeroByte s.ring (32 * ((r.start + i) % 32768)) 32)
      ∧ ∀ a, a < d ∨ d + n * 32 ≤ a → SMap.get zeroByte t.dtcm a = SMap.get zeroByte s.dtcm a)
  ∧ (∀ (who : Who) (o : Nat) (s : State), o < 0x100000 → o % 4 = 0 → s.admitsRead who (0x48000000 + o) →
    (s.eccRead 72 (o / 16) ≠ .bad → ∃ t, exec (.ledgerWindowRead who (0x48000000 + o)) s = .next t
      ∧ t.bus.resp = { who := who, data := BitVec.ofNat 32 (natLE (readBytes zeroByte s.ring o 4)), err := false } ∧ t = { s with bus := t.bus, ecc := t.ecc })
    ∧ (s.eccRead 72 (o / 16) = .bad → ∃ t, exec (.ledgerWindowRead who (0x48000000 + o)) s = .next t
      ∧ t.bus.resp = { who := who, data := 0, err := false } ∧ 56 ∈ t.fcu.detq ∧ t.get LDG_ERR_CODE = 4 ∧ t.ring = s.ring))
  ∧ (∀ (lane : Fin 2) (c : Cell) (w : BitVec 128) (s : State) (q : Nat) (bs : List Byte), s.takesCell lane c w 0x0C → slice w.toNat 119 112 = 4 * q + 2 →
    s.mirAsm lane = some (.taking q 2 bs) → bs.length = 28 → s.mrLen 1 ≠ 0 → s.mrBad 1 = false → s.ldg.pfStop = false → s.bit (FCU_INJ_ARM 70) = false →
    let r := bs ++ bytesLE (slice w.toNat 111 0) 4
    (natLE (r.drop 30) = crc16 (r.take 30) → ∃ t, exec (.ledgerCell lane c) s = .next t
      ∧ t.ldg.peerq = s.ldg.peerq ++ [r] ∧ (isAuthRecord r = true → s.mrLen 3 ≠ 0 → t.ldg.authq = s.ldg.authq ++ [r]) ∧ t.mram = s.mram ∧ t.ring = s.ring ∧ t.get LDG_CNT_MIRX_COUNT = s.get LDG_CNT_MIRX_COUNT)
    ∧ (natLE (r.drop 30) ≠ crc16 (r.take 30) → ∃ t, exec (.ledgerCell lane c) s = .next t ∧ t.mram = s.mram ∧ t.ring = s.ring
      ∧ t.get LDG_CNT_MIRX_COUNT = min (s.get LDG_CNT_MIRX_COUNT + 1) (2 ^ 32 - 1)))

/-! ## Resets, start-up, update and recovery (17, 20) -/

/-- PORST_N low and a rail below its minimum clear every domain and hold the device, in which the cores and the debug port
issue nothing; PORST_N rising with the rails good starts it with the straps sampled and SYS_RST_CAUSE.POR alone, the rails'
return with the straps sampled last; a system reset by request does the same from the AON registers as they are, with SYSREQ. Each start times the Vault's scan and the
release of the supervisor. See log entry 51.
The release of the supervisor, once the scan is complete: with no trial an image is started, with the rights table
sealed, exactly where a confirmed slot passes the check, else there is no image; BOOT_SEL 0b11 and BLANK wait for
debug; RECOVERY opens Ethernet. It waits for the scan and the end of the reset. The release after a warm restart lets the
cores run; a sound record and ITCM stay as they are; else the slot starts again where it passes, and a system reset
follows where it does not, or where no slot may start (log entry 51). That the ROM's work is one step is the model's
choice (log entry 50). -/
def Obligations.ResetsAndSupervisorStart : Prop :=
  (
  (∀ s : State, ∃ t, exec .porstNLow s = .next t ∧ s.clearedTo t ∧ t.inReset = true ∧ t.pins = (false, false, false)
    ∧ ∀ a, a ≠ SYS_PWRSTAT → a ≠ VLT_STAT → t.word a = resetWord a)
  ∧ (∀ s : State, ∃ t, exec .railLow s = .next t ∧ s.clearedTo t ∧ t.inReset = true ∧ t.pins = (false, false, false)
    ∧ (∀ who, t.issues who = false) ∧ ∀ a, a ≠ SYS_PWRSTAT → a ≠ VLT_STAT → t.word a = resetWord a)
  ∧ (∀ (strap : BitVec 5) (s : State), s.boot.rail = false → ∃ t, exec (.powerOnReset strap) s = .next t ∧ s.clearedTo t ∧ t.inReset = false
    ∧ t.word SYS_RST_CAUSE = 1 ∧ t.word SYS_STRAP = BitVec.ofNat 32 (strap &&& 0x1D).toNat
    ∧ t.alarms.filter (fun e => e.2 = .vaultScan) = [(50000, .vaultScan)] ∧ t.alarms.filter (fun e => e.2 = .supervisorRelease) = [(80000, .supervisorRelease)]
    ∧ ∀ a, a ∉ [SYS_PWRSTAT, VLT_STAT, SYS_RST_CAUSE, SYS_STRAP, LNK_EPOCH] → t.word a = resetWord a)
  ∧ (∀ s : State, s.boot.rail = true → s.boot.porst = false → ∃ t, exec .railReturn s = .next t ∧ s.clearedTo t ∧ t.inReset = false ∧ t.word SYS_RST_CAUSE = 1
    ∧ t.word SYS_STRAP = BitVec.ofNat 32 s.boot.straps.toNat ∧ t.armed .vaultScan = true ∧ t.armed .supervisorRelease = true)
  ∧ (∀ s : State, s.boot.rail = false → exec .railReturn s = .next s)
  ∧ (∀ (who : Who) (v : Word) (s u : State),
    (s.admits who SYS_RST_CTRL (withBit v 1) u → bitsOf v 31 16 = 0x5AFE → tb v 0 = false → ∃ t, exec (.systemReset who v) s = .next t ∧ u.clearedTo t
      ∧ t.bit SYS_RST_CAUSE_SYSREQ = true ∧ t.bit SYS_RST_CAUSE_POR = s.bit SYS_RST_CAUSE_POR ∧ t.word SYS_STRAP = s.word SYS_STRAP
      ∧ t.armed .vaultScan = true ∧ t.armed .supervisorRelease = true)
    ∧ (s.admits who SYS_RST_CTRL (withBit v 0) u → bitsOf v 31 16 = 0x5AFE → tb v 1 = false → ∃ t, exec (.warmRequest who v) s = .next t
      ∧ t.bus.coresHeld = true ∧ t.bit SYS_RST_CAUSE_WARM_REQ = true ∧ t.get RGT_ROLE_SUP_ROLE = 0
      ∧ t.alarms.filter (fun e => e.2 = .warmRelease) = [(u.clk.now + 400, .warmRelease)]
      ∧ t.cores = {} ∧ t.held who .csrTime = none ∧ (∀ b, t.boot.rom ≠ .reset → t.issues (.sup b) = false)
      ∧ u.onlyParts t (fun t s => { s with bus := t.bus, boot := t.boot, cores := t.cores, alarms := t.alarms }) [SYS_RST_CAUSE, RGT_ROLE_SUP])
    ∧ (s.admits who SYS_RST_CTRL (withBit v 0) u → bitsOf v 31 16 ≠ 0x5AFE → exec (.warmRequest who v) s = .next (u.access SYS_RST_CTRL)))
  ∧ (∀ s : State, exec .testReset s = .next { s with boot := { s.boot with tap := .idcode, captured := [], scan := [] } }))
  ∧ (
  (∀ s : State, s.inReset = false → s.bit VLT_STAT_SCAN_DONE = true → s.boot.rom = .reset →
    (s.bit SYS_STRAP_RECOVERY = false → s.lc ≠ lcBLANK → s.lc ≠ lcSCRAPPED → s.get SYS_STRAP_BOOT_SEL < 2 → s.isTrial 0 = false → s.isTrial 1 = false → s.get RGT_SEAL_KEY = 0 →
      ∃ t, exec .supervisorRelease s = .next t ∧ t.bus.coresHeld = false ∧ t.flash = s.flash ∧ (t.boot.rom = .image ↔ ∃ n ∈ s.confirmedSlots, s.slotCode n = 0)
        ∧ (t.boot.rom = .image → t.bit RGT_STAT_SEALED = true ∧ t.boot.noImage = s.boot.noImage) ∧ (t.boot.rom ≠ .image → t.boot.noImage = true))
    ∧ (s.get SYS_STRAP_BOOT_SEL = 3 ∨ s.lc = lcBLANK → ∃ t, exec .supervisorRelease s = .next t ∧ t.boot.rom = .debug ∧ t.bus.coresHeld = false ∧ t.flash = s.flash ∧ t.dtcm = s.dtcm)
    ∧ (s.bit SYS_STRAP_RECOVERY = true → s.get SYS_STRAP_BOOT_SEL ≠ 3 → s.lc ≠ lcBLANK → ∃ t, exec .supervisorRelease s = .next t ∧ t.boot.rom = .eth ∧ t.bus.coresHeld = false
      ∧ t.armed .ethHello = true ∧ t.flash = s.flash ∧ t.dtcm = s.dtcm))
  ∧ (∀ s : State, s.inReset = true ∨ s.bit VLT_STAT_SCAN_DONE = false → exec .supervisorRelease s = .next (s.disarm .supervisorRelease))
  ∧ (∀ s : State, s.bus.coresHeld = true → s.boot.rom ≠ .reset →
    (s.recordGood = true → s.itcmGood = true → (∀ w, s.eccRead 74 w = .clean) → (∀ w, s.eccRead 75 w = .clean) →
      ∃ t, exec .warmRelease s = .next t ∧ t.bus.coresHeld = false ∧ t.itcm = s.itcm ∧ t.dtcm = s.dtcm ∧ t.flash = s.flash ∧ t.boot.rom = .image)
    ∧ (s.recordGood = false ∨ s.itcmGood = false → ∃ t, exec .warmRelease s = .next t
      ∧ (s.noSlot = true ∨ s.slotCode s.runSlot ≠ 0 → s.clearedTo t ∧ t.bit SYS_RST_CAUSE_SYSREQ = true ∧ t.boot.rom = .reset)
      ∧ (s.noSlot = false → s.slotCode s.runSlot = 0 → t.bus.coresHeld = false ∧ t.boot.rom = .image ∧ t.flash = s.flash)))
  ∧ (∀ s : State, s.bus.coresHeld = false → exec .warmRelease s = .next (s.disarm .warmRelease)))

/-- The update service: a refused call returns its status and leaves the flash. BEGIN erases the escrow slot's blocks, and
a length of 0 has no effect; WRITE clears bits of the escrow slot and no other's; VERIFY returns the slot's code; ACTIVATE, COMMIT and ABORT set
their marker; ADVANCE needs a confirmed running image; a reserved a0 returns FUNCTION. Cores that do not run call
nothing. Blank flash bytes, and that a WRITE of 0 bytes is never refused,
are the model's choice (log entries 3 and 72); see log entry 52.
Recovery over Ethernet, or in RECOVERY over the debug port: the ROM repeats HELLO each second until a request comes, and
answers only while it serves; a request with the TAG of the last one has no effect but that the response goes out again;
in RECOVERY every request but CHAL and GRANT answers 16 until MAKER was granted; BEGIN erases the target slot whole,
WRITE clears bits inside the length given, FINISH answers the slot's code and, where it is 0, sets FAILED on the
other slot; RESET is a system reset. See log entries 3 and 52. -/
def Obligations.UpdateAndRecovery : Prop :=
  (
  (∀ (len : Word) (s : State), s.issues (.sup true) = true → (∀ w, s.eccRead 75 w = .clean) →
    (∀ n, s.updCondition true = some n → ∃ t, exec (.begin len) s = .next t ∧ t.boot.status = n ∧ t.flash = s.flash)
    ∧ (s.updCondition true = none → 0x03FFF000 < len.toNat → ∃ t, exec (.begin len) s = .next t ∧ t.boot.status = 6 ∧ t.flash = s.flash)
    ∧ (s.updCondition true = none → len = 0 → ∃ t, exec (.begin len) s = .next t ∧ t.boot.status = 0 ∧ t.boot.staged = s.boot.staged ∧ t.flash = s.flash)
    ∧ (s.updCondition true = none → len ≠ 0 → len.toNat ≤ 0x03FFF000 → s.bit XSP_STAT_PF_OWN = false → ∃ t, exec (.begin len) s = .next t ∧ t.boot.status = 0 ∧ t.boot.staged = some len.toNat
      ∧ t.boot.verified = false ∧ (∀ o, o < len.toNat → SMap.get erasedByte t.flash (slotBase s.escrow + o) = 0xFF)
      ∧ ∀ a, a < slotBase s.escrow ∨ slotBase s.escrow + 0x4000000 ≤ a → SMap.get erasedByte t.flash a = SMap.get erasedByte s.flash a))
  ∧ (∀ (a1 a2 a3 : Word) (s : State), s.issues (.sup true) = true → (∀ w, s.eccRead 75 w = .clean) →
    (a3 = 0 → ∃ t, exec (.write a1 a2 a3) s = .next t ∧ t.boot.status = 0 ∧ t.boot.staged = s.boot.staged ∧ t.flash = s.flash)
    ∧ (a3 ≠ 0 → s.boot.staged = none → ∃ t, exec (.write a1 a2 a3) s = .next t ∧ t.boot.status = 15 ∧ t.flash = s.flash)
    ∧ (∀ n, a3 ≠ 0 → s.boot.staged = some n →
      (65536 < a3.toNat ∨ n < a2.toNat + a3.toNat → ∃ t, exec (.write a1 a2 a3) s = .next t ∧ t.boot.status = 6 ∧ t.flash = s.flash)
      ∧ (∀ bs, 0 < a3.toNat → a3.toNat ≤ 65536 → a2.toNat + a3.toNat ≤ n → s.dtcmBytes a1.toNat a3.toNat = some bs → s.bit XSP_STAT_PF_OWN = false →
        let b := slotBase s.escrow + a2.toNat
        ∃ t, exec (.write a1 a2 a3) s = .next t ∧ t.boot.verified = false ∧ (t.boot.status = 0 ∨ t.boot.status = 7)
          ∧ (∀ i, i < a3.toNat → SMap.get erasedByte t.flash (b + i) = SMap.get erasedByte s.flash (b + i) &&& bs.getD i 0)
          ∧ (t.boot.status = 0 ↔ readBytes erasedByte t.flash b a3.toNat = bs) ∧ ∀ a, a < b ∨ b + a3.toNat ≤ a → SMap.get erasedByte t.flash a = SMap.get erasedByte s.flash a)))
  ∧ (∀ s : State, s.issues (.sup true) = true → (∀ w, s.eccRead 75 w = .clean) →
    (s.boot.staged = none → ∃ t, exec .verify s = .next t ∧ t.boot.status = 15)
    ∧ (s.boot.staged.isSome = true → ∃ t, exec .verify s = .next t ∧ t.boot.status = s.slotCode s.escrow ∧ t.boot.verified = decide (s.slotCode s.escrow = 0) ∧ t.flash = s.flash))
  ∧ (∀ s : State, s.issues (.sup true) = true → (∀ w, s.eccRead 75 w = .clean) →
    (∀ a0 : Word, 6 < a0.toNat → ∃ t, exec (.advance a0) s = .next t ∧ t.boot.status = 17 ∧ t.vlt = s.vlt ∧ t.flash = s.flash)
    ∧ (∀ n, s.updCondition false = some n → ∃ t, exec .activate s = .next t ∧ t.boot.status = n ∧ t.flash = s.flash)
    ∧ (s.updCondition false = none → s.boot.verified = false → ∃ t, exec .activate s = .next t ∧ t.boot.status = 15 ∧ t.flash = s.flash)
    ∧ (s.updCondition false = none → s.boot.verified = true → s.rollback ≤ s.imgVersion s.escrow → s.recNat 8 4 < s.imgSeq s.escrow → s.bit XSP_STAT_PF_OWN = false →
      ∃ t, exec .activate s = .next t ∧ t.boot.status = 0 ∧ t.marker s.escrow mkTRIAL = true)
    ∧ (s.isTrial s.runSlot = false ∨ s.marker s.runSlot mkATTEMPT = false → ∀ a1, ∃ t, exec (.commit a1) s = .next t ∧ t.boot.status = 15 ∧ t.flash = s.flash)
    ∧ (s.isTrial s.runSlot = true → s.marker s.runSlot mkATTEMPT = true → s.bit XSP_STAT_PF_OWN = false →
      ∃ t, exec (.commit 0) s = .next t ∧ t.boot.status = 0 ∧ t.marker s.runSlot mkCONFIRMED = true)
    ∧ (s.bit XSP_STAT_PF_OWN = false → ∃ t, exec .abort s = .next t ∧ t.boot.status = 0 ∧ t.marker s.escrow mkFAILED = true)
    ∧ (s.confirmed s.runSlot = false → ∃ t, exec .advance s = .next t ∧ t.boot.status = 15 ∧ t.vlt = s.vlt ∧ t.flash = s.flash)
    ∧ (s.confirmed s.runSlot = true → s.recNat 0x0C 4 ≤ s.rollback → ∃ t, exec .advance s = .next t ∧ t.boot.status = 0 ∧ t.regs = s.regs ∧ t.vlt = s.vlt ∧ t.flash = s.flash))
  ∧ (∀ (a b c : Word) (s : State), s.issues (.sup true) = false → ∀ i ∈ [Instr.begin a, .write a b c, .verify, .activate, .commit a, .abort, .advance a],
    exec i s = .next s))
  ∧ (
  (∀ s : State, s.boot.rom = .eth → s.boot.ethHeard = false → ∃ t, exec .ethHello s = .next t ∧ t.boot.ethOut.1 = 1 ∧ t.boot.ethOut.2.1 = 0 ∧ t.boot.ethOut.2.2.length = 20
    ∧ t.alarms.filter (fun e => e.2 = .ethHello) = [(s.clk.now + 250000000, .ethHello)] ∧ t.regs = s.regs)
  ∧ (∀ (g : BitVec 16) (len off : Word) (data cred : List Byte) (s : State),
    (s.boot.rom ≠ .eth → s.boot.rom ≠ .debug ∨ s.bit SYS_STRAP_RECOVERY = false → (∀ c ∈ [Instr.ethChal g, .ethGrant cred g, .ethBegin len g, .ethWrite off data g, .ethFinish g, .ethReset g], exec c s = .next s)
      ∧ exec .ethHello s = .next (s.disarm .ethHello))
    ∧ (s.recovers = true → s.issues (.sup true) = true → s.boot.ethTag = some g → ∀ c ∈ [Instr.ethChal g, .ethGrant cred g, .ethBegin len g, .ethWrite off data g, .ethFinish g, .ethReset g],
      exec c s = .next { s with boot := { s.boot with ethSent := s.boot.ethSent + 1 } }))
  ∧ (∀ (g : BitVec 16) (len off : Word) (data : List Byte) (s : State), s.recovers = true → s.issues (.sup true) = true → s.boot.ethTag ≠ some g → s.bit SYS_STRAP_RECOVERY = true → s.boot.ethMaker = false →
    ∀ c ∈ [Instr.ethBegin len g, .ethWrite off data g, .ethFinish g, .ethReset g], ∃ t, exec c s = .next t ∧ t.boot.ethOut.2 = (16, []) ∧ t.boot.ethHeard = true
      ∧ t.boot.ethTag = some g ∧ t = { s with boot := t.boot, alarms := t.alarms })
  ∧ (∀ (g : BitVec 16) (cred : List Byte) (s : State), s.recovers = true → s.issues (.sup true) = true → s.boot.ethTag ≠ some g →
    (∃ t, exec (.ethChal g) s = .next t ∧ t.bit RGT_STAT_CHAL_VALID = true ∧ t.boot.ethHeard = true ∧ t.boot.ethOut.1 = 0x82 ∧ t.boot.ethOut.2.1 = 0 ∧ t.boot.ethOut.2.2.length = 32)
    ∧ (s.bit SYS_STRAP_RECOVERY = true → credFormat cred = true → (cred.getD 4 0).toNat ≠ 3 → ∃ t, exec (.ethGrant cred g) s = .next t ∧ t.boot.ethOut.1 = 0x83 ∧ t.boot.ethMaker = s.boot.ethMaker ∧ t.regs = s.regs)
    ∧ ((cred.getD 4 0).toNat = 3 → credFormat cred = true → s.bit RGT_STAT_CHAL_VALID = true → ∃ t, exec (.ethGrant cred g) s = .next t ∧ t.boot.ethOut = (0x83, s.credCheck cred, [])
      ∧ t.boot.ethMaker = (s.boot.ethMaker || s.credCheck cred == 0) ∧ t.bit RGT_STAT_CHAL_VALID = false))
  ∧ (∀ (g : BitVec 16) (len off : Word) (data : List Byte) (s : State), s.recovers = true → s.issues (.sup true) = true → s.boot.ethTag ≠ some g → s.bit SYS_STRAP_RECOVERY = false ∨ s.boot.ethMaker = true →
    (0x03FFF000 < len.toNat → ∃ t, exec (.ethBegin len g) s = .next t ∧ t.boot.ethOut = (0x84, 6, []) ∧ t.flash = s.flash)
    ∧ (len = 0 → ∃ t, exec (.ethBegin len g) s = .next t ∧ t.boot.ethOut = (0x84, 0, []) ∧ t.boot.ethLen = s.boot.ethLen ∧ t.flash = s.flash)
    ∧ (len ≠ 0 → len.toNat ≤ 0x03FFF000 → s.bit XSP_STAT_PF_OWN = false → ∃ t, exec (.ethBegin len g) s = .next t ∧ t.boot.ethOut = (0x84, 0, []) ∧ t.boot.ethLen = some len.toNat ∧ t.boot.ethSlot = s.ethTarget
      ∧ (∀ o, o < 0x4000000 → SMap.get erasedByte t.flash (slotBase s.ethTarget + o) = 0xFF)
      ∧ ∀ a, a < slotBase s.ethTarget ∨ slotBase s.ethTarget + 0x4000000 ≤ a → SMap.get erasedByte t.flash a = SMap.get erasedByte s.flash a)
    ∧ (1024 < data.length ∨ s.boot.ethLen.getD 0 < off.toNat + data.length → ∃ t, exec (.ethWrite off data g) s = .next t ∧ t.boot.ethOut = (0x85, 6, []) ∧ t.flash = s.flash)
    ∧ (data.length ≤ 1024 → off.toNat + data.length ≤ s.boot.ethLen.getD 0 → s.bit XSP_STAT_PF_OWN = false →
      let b := slotBase s.boot.ethSlot + off.toNat
      ∃ t, exec (.ethWrite off data g) s = .next t ∧ (∀ i, i < data.length → SMap.get erasedByte t.flash (b + i) = SMap.get erasedByte s.flash (b + i) &&& data.getD i 0)
        ∧ (t.boot.ethOut = (0x85, 0, []) ↔ readBytes erasedByte t.flash b data.length = data) ∧ ∀ a, a < b ∨ b + data.length ≤ a → SMap.get erasedByte t.flash a = SMap.get erasedByte s.flash a)
    ∧ (s.boot.ethLen.isSome = true → s.boot.ethSlot < 2 → s.bit XSP_STAT_PF_OWN = false → ∃ t, exec (.ethFinish g) s = .next t ∧ t.boot.ethOut = (0x86, s.slotCode s.boot.ethSlot, [])
      ∧ (s.slotCode s.boot.ethSlot ≠ 0 → t.flash = s.flash) ∧ (s.slotCode s.boot.ethSlot = 0 → t.marker (1 - s.boot.ethSlot) mkFAILED = true))
    ∧ (∃ t, exec (.ethReset g) s = .next t ∧ t.mfn = 0 ∧ t.links = [] ∧ t.flash = s.flash ∧ t.bit SYS_RST_CAUSE_SYSREQ = true ∧ t.boot.rom = .reset)))

/-! ## Timers, converter, pins, Ethernet, xSPI (19) -/

/-- A channel that counts goes on by one, and at its period back to 0; CHAIN counts with the wrap of the even channel.
A written PER takes effect at the end of the next tick, or at the wrap with PRELOAD; CMP at the end of the next tick,
and is late at or below the count. A capture takes the count; one that finds CAPF is lost at the end of its tick unless a
read makes room in it; a read of CAP clears CAPF, but not that of a capture of the same tick, and answers the value before
that. See log entries 55 and 84.
A scan starts with the channels of MASK, or counts MISSED while one runs; each result is the mean of the codes of its
conversions, and the last ends the scan; a read clears NEW, but not that of a result of the same cycle. GPIO_SET and
GPIO_CLR set and clear output bits, a set of the same tick winning; a level at the ball passes two flops, one a tick, then
the filter; behind it it sets the pin's input bit, no other's, and starts the captures that see it. See log entries 56 and 84. -/
def Obligations.TimersConverterPins : Prop :=
  (
  ∀ (who : Who) (i : Fin 24) (v : Word) (s u : State),
    (s.get (TMR_CTRL_SMODE i) ≠ 1 → s.tmrCounts i = true → (s.tmr i).short = false → s.get (TMR_CNT_CNT i) ≠ s.tmrPer i → s.get (TMR_CNT_CNT i) + 1 < 2 ^ 32 →
      s.get (TMR_CNT_CNT i) + 1 ≠ s.tmrCmp i → ∃ t, exec (.timerTick i) s = .next t ∧ t.get (TMR_CNT_CNT i) = s.get (TMR_CNT_CNT i) + 1 ∧ s.onlyRegs t [TMR_CNT i])
    ∧ (s.get (TMR_CTRL_SMODE i) ≠ 1 → s.tmrCounts i = true → s.get (TMR_CNT_CNT i) = s.tmrPer i → s.tmrCmp i ≠ 0 → s.bit (TMR_CTRL_ONESHOT i) = false →
      ∃ t, exec (.timerTick i) s = .next t ∧ t.get (TMR_CNT_CNT i) = 0 ∧ (t.tmr i).per = none ∧ t.tmrPer i = s.get (TMR_PER_PER i) ∧ t.ring = s.ring ∧ t.engs = s.engs)
    ∧ (s.get (TMR_CTRL_SMODE i) = 1 ∨ s.tmrCounts i = false → exec (.timerTick i) s = .next s)
    ∧ (s.bit (TMR_STAT_CAPF i) = false → ∃ t, exec (.capture i) s = .next t ∧ t.get (TMR_CAP_CAP i) = s.get (TMR_CNT_CNT i) ∧ t.bit (TMR_STAT_CAPF i) = true
      ∧ (t.tmr i).capAt = some s.T ∧ t.bit (TMR_STAT_OVR i) = s.bit (TMR_STAT_OVR i) ∧ t.get (TMR_CNT_CNT i) = s.get (TMR_CNT_CNT i))
    ∧ (s.bit (TMR_STAT_CAPF i) = true → ∃ t, exec (.capture i) s = .next t ∧ (t.tmr i).capWait = some (s.word (TMR_CNT i))
      ∧ t = { s with tmrs := t.tmrs, alarms := t.alarms })
    ∧ ((s.tmr i).capWait.isSome = true → s.tickEnds = true → s.tmrTakes.get (TMR_CAP_CAP i) = s.get (TMR_CAP_CAP i) ∧ s.tmrTakes.bit (TMR_STAT_OVR i) = true
      ∧ s.tmrTakes.get (TMR_STAT_LOST i) = min (s.get (TMR_STAT_LOST i) + 1) 255 ∧ (s.tmrTakes.tmr i).capWait = none)
    ∧ (s.admitsRead who (TMR_CAP i) →
      ((s.tmr i).capAt = some s.T → s.bit (TMR_STAT_CAPF i) = true → exec (.capRead who i) s = .next (s.answer who (s.tmr i).capOld false))
      ∧ ((s.tmr i).capAt ≠ some s.T ∨ s.bit (TMR_STAT_CAPF i) = false →
        ((s.tmr i).capWait = none → ∃ t, exec (.capRead who i) s = .next t ∧ t.bus.resp = { who := who, data := s.word (TMR_CAP i), err := false }
          ∧ t.bit (TMR_STAT_CAPF i) = false ∧ s.onlyParts t (fun t s => { s with bus := t.bus }) [TMR_STAT i])
        ∧ (∀ n, (s.tmr i).capWait = some n → ∃ t, exec (.capRead who i) s = .next t ∧ t.bus.resp = { who := who, data := s.word (TMR_CAP i), err := false }
          ∧ t.word (TMR_CAP i) = n ∧ t.bit (TMR_STAT_CAPF i) = true ∧ t.bit (TMR_STAT_OVR i) = s.bit (TMR_STAT_OVR i) ∧ (t.tmr i).capWait = none)))
    ∧ (∀ x : State, x = u.tmrTake i → s.admits who (TMR_PER i) v u →
      (v = 0 → exec (.perWrite who i v) s = .next (x.access (TMR_PER i)))
      ∧ (v ≠ 0 → ∃ t, exec (.perWrite who i v) s = .next t ∧ t.word (TMR_PER i) = v ∧ x.onlyParts t (fun t s => { s with tmrs := t.tmrs }) [TMR_PER i]
        ∧ t.tmrPer i = x.tmrPer i ∧ (t.tmr i).perAt = (if x.bit (TMR_CTRL_PRELOAD i) then none else some u.T)))
    ∧ (∀ x : State, x = u.tmrTake i → s.admits who (TMR_CMP i) v u → ∃ t, exec (.cmpWrite who i v) s = .next t ∧ t.word (TMR_CMP i) = v ∧ t.tmrCmp i = x.tmrCmp i
      ∧ (t.tmr i).cmp = some (BitVec.ofNat 32 (x.tmrCmp i), u.T) ∧ x.onlyParts t (fun t s => { s with tmrs := t.tmrs }) [TMR_CMP i])
    ∧ (∀ τ, (s.tmr i).perAt = some τ → τ ≠ s.T → s.tmrTakes.tmrPer i = s.get (TMR_PER_PER i) ∧ (s.tmrTakes.tmr i).short = decide (s.get (TMR_PER_PER i) ≤ s.get (TMR_CNT_CNT i)))
    ∧ (∀ c τ, (s.tmr i).cmp = some (c, τ) → τ ≠ s.T → s.tmrTakes.tmrCmp i = s.get (TMR_CMP_CMP i)
      ∧ (s.get (TMR_CMP_CMP i) ≤ s.get (TMR_CNT_CNT i) → s.tmrTakes.bit (TMR_STAT_CMP_LATE i) = true)))
  ∧ (
  (∀ s : State, (s.bit HKA_STAT_BUSY = true → ∃ t, exec .hkaScanStart s = .next t ∧ t.get HKA_STAT_MISSED = min (s.get HKA_STAT_MISSED + 1) 65535 ∧ t.hka = s.hka)
    ∧ (s.bit HKA_STAT_BUSY = false → s.bit HKA_CTRL_EN = true → s.get HKA_MASK_MASK ≠ 0 → ∃ t, exec .hkaScanStart s = .next t ∧ t.bit HKA_STAT_BUSY = true
      ∧ (∀ i, i ∈ t.hka.scan ↔ i < 16 ∧ (s.get HKA_MASK_MASK).testBit i = true) ∧ (s.disarm .hkaScanStart).onlyParts t (fun t s => { s with hka := t.hka }) [HKA_STAT]))
  ∧ (∀ (i : Fin 16) (refn refp : Int) (vin : List Int) (rest : List Nat) (s : State), s.hka.scan = i.val :: rest → ∃ t, exec (.hkaResult i vin refn refp) s = .next t
    ∧ (refn < refp → vin.length = 2 ^ s.get HKA_CTRL_AVG_LOG2 → t.get (HKA_RES_CODE i) = (vin.map (hkaCode refn refp)).sum / vin.length) ∧ t.bit (HKA_RES_NEW i) = true ∧ t.hka.scan = rest ∧ (rest = [] → t.bit HKA_STAT_BUSY = false)
    ∧ ∀ j : Fin 16, j ≠ i → t.word (HKA_RES j) = s.word (HKA_RES j))
  ∧ (∀ (who : Who) (i : Fin 16) (s : State), s.admitsRead who (HKA_RES i) → ∃ t, exec (.resRead who i) s = .next t ∧ t.bus.resp = { who := who, data := s.word (HKA_RES i), err := false }
    ∧ t.bit (HKA_RES_NEW i) = (s.bit (HKA_RES_NEW i) && s.hka.resAt == some (i.val, s.clk.now / 5)) ∧ s.onlyParts t (fun t s => { s with bus := t.bus }) [HKA_RES i])
  ∧ (∀ (who : Who) (v : Word) (s u : State),
    (s.admits who GPIO_SET v u → ∃ t, exec (.gpioSet who v) s = .next t ∧ u.onlyParts t (fun t s => { s with gpioSetAt := t.gpioSetAt }) [GPIO_OUT] ∧ ∀ i, i < 24 → (t.get GPIO_OUT_OUT).testBit i = ((u.get GPIO_OUT_OUT).testBit i || v.getLsbD i))
    ∧ (s.admits who GPIO_CLR v u → ∃ t, exec (.gpioClr who v) s = .next t ∧ u.onlyRegs t [GPIO_OUT] ∧ ∀ i, i < 24 → (t.get GPIO_OUT_OUT).testBit i = ((u.get GPIO_OUT_OUT).testBit i && !(v.getLsbD i && !u.gpioTick.getLsbD i))))
  ∧ (∀ (i : Fin 24) (level : Bool) (s : State), ((s.get GPIO_IN_IN).testBit i = level → exec (.gpioEdge i level false) s = .next s)
    ∧ (∃ t, exec (.gpioEdge i level true) s = .next t ∧ (∀ j, j < 24 → t.gpioBall.getLsbD j = if j = i.val then level else s.gpioBall.getLsbD j)
      ∧ t = { s with gpioBall := t.gpioBall })
    ∧ s.gpioTicks.gpioFf1 = s.gpioBall ∧ s.gpioTicks.gpioFf2 = s.gpioFf1
    ∧ (s.get (GPIO_CFG_FILT i) = 0 → (s.gpioTicks.get GPIO_IN_IN).testBit i = s.gpioFf1.getLsbD i)
    ∧ (s.get (GPIO_CFG_FILT i) ≠ 0 → (s.gpioTicks.get GPIO_IN_IN).testBit i
      = if SMap.get (fun _ => 0) s.gpioRun i + 1 < 200 * s.get (GPIO_CFG_FILT i) then (s.get GPIO_IN_IN).testBit i else s.gpioFf2.getLsbD i)
    ∧ ((s.get GPIO_IN_IN).testBit i ≠ level → ∃ t, exec (.gpioEdge i level false) s = .next t ∧ (∀ j, j < 24 → (t.get GPIO_IN_IN).testBit j = if j = i.val then level else (s.get GPIO_IN_IN).testBit j)
      ∧ (∀ c : Fin 24, s.get (TMR_CTRL_CSRC c) = i.val → s.get (TMR_CTRL_CEDGE c) = 3 → t.armed (.capture c) = true) ∧ t.tmrs = s.tmrs ∧ t.ring = s.ring)))

/-- The MAC: a kick with an owned descriptor of 1 to 1518 bytes starts its frame, padded and with its FCS, and its end
gives the descriptor back; a frame that is accepted goes to the owned descriptor's buffer without its FCS, with none
it is dropped and counted. An MDIO write starts a transaction, whose end brings the data of a read, or of the ROM's search for its PHY. See log entry
57.
The xSPI controller: a window read answers the flash word and keeps its 16-byte block, the next read of the block
answers from it, one that finds the bus taken waits; a closed window faults. GO starts an indirect command and puts its
operation on the bus, of more than 256 bytes it is refused with LENGTH, and while one runs it is decided at the end of its
cycle; its end waits for a burst, brings the bytes read, or a read in 8D-8D-8D fails with DQS. Flash contents never
change by a read. See log entries 3 and 58. -/
def Obligations.EthernetAndFlashController : Prop :=
  (
  (∀ (who : Who) (v : Word) (s u : State), s.admits who ETH_TXKICK v u → u.bit ETH_CTRL_EN_TX = true → u.eth.sending = false → (∀ w, u.eccRead 75 w = .clean) →
    let a := u.descAddr ETH_TXRING u.eth.txIdx
    let n := u.dtcmNat a 4 % 2048
    (∀ bs, u.descOwned a = true → 1 ≤ n → n ≤ 1518 → u.dtcmBytes (u.dtcmNat (a + 4) 4) n = some bs → ∃ t, exec (.txKick who v) s = .next t ∧ t.eth.sending = true ∧ t.eth.txIdx = u.eth.txIdx ∧ t.armed .txDone = true
      ∧ t.eth.wire = ethFrame bs ∧ u.onlyParts t (fun t s => { s with eth := t.eth, alarms := t.alarms }) [])
    ∧ (u.descOwned a = false → ∃ t, exec (.txKick who v) s = .next t ∧ t = { u with eth := { u.eth with sending := false } }))
  ∧ (∀ s : State, s.eth.sending = true → s.bit ETH_CTRL_EN_TX = false →
    let a := s.descAddr ETH_TXRING s.eth.txIdx
    ∃ t, exec .txDone s = .next t ∧ t.eth.sending = false ∧ t.eth.txIdx = s.descNext ETH_TXRING s.eth.txIdx
      ∧ (0x18000000 ≤ a → a + 16 ≤ 0x18040000 → s.eccRead 75 ((a - 0x18000000) / 16) ≠ .bad → t.descOwned a = false))
  ∧ (∀ (bytes : List Byte) (s : State), s.bit ETH_CTRL_EN_RX = true → s.ethAccepts bytes = true → 64 ≤ bytes.length → (∀ w, s.eccRead 75 w = .clean) →
    let a := s.descAddr ETH_RXRING s.eth.rxIdx
    let b := s.dtcmNat (a + 4) 4
    (1522 < bytes.length ∨ s.descOwned a = false → ∃ t, exec (.rx bytes) s = .next t ∧ t.get ETH_CNT_RXDROP_COUNT = min (s.get ETH_CNT_RXDROP_COUNT + 1) (2 ^ 32 - 1) ∧ s.onlyRegs t [ETH_CNT_RXDROP])
    ∧ (bytes.length ≤ 1522 → s.descOwned a = true → s.bit (FCU_INJ_ARM 75) = false → 0x18000000 ≤ b → b + bytes.length ≤ 0x18040000 →
      b + bytes.length ≤ a ∨ a + 16 ≤ b → ∃ t, exec (.rx bytes) s = .next t ∧ t.eth.rxIdx = s.descNext ETH_RXRING s.eth.rxIdx ∧ t.descOwned a = false
        ∧ readBytes zeroByte t.dtcm (b - 0x18000000) (bytes.length - 4) = bytes.take (bytes.length - 4) ∧ t.get ETH_CNT_RXDROP_COUNT = s.get ETH_CNT_RXDROP_COUNT))
  ∧ (∀ (bytes : List Byte) (s : State), s.bit ETH_CTRL_EN_RX = false ∨ s.ethAccepts bytes = false ∨ bytes.length < 64 → exec (.rx bytes) s = .next s)
  ∧ (∀ (who : Who) (v : Word) (s u : State), s.admits who ETH_MDIO (withBit v 31) u → legalAt ETH_MDIO (withBit v 31) = true →
    (u.bit ETH_MDIO_GO = false → ∃ t, exec (.mdio who v) s = .next t ∧ t.bit ETH_MDIO_GO = true ∧ t.get ETH_MDIO_REG = bitsOf v 20 16 ∧ t.get ETH_MDIO_PHY = bitsOf v 25 21 ∧ u.onlyRegs t [ETH_MDIO])
    ∧ (u.bit ETH_MDIO_GO = true → exec (.mdio who v) s = .next (u.access ETH_MDIO)))
  ∧ (∀ (d : BitVec 16) (s : State) (n : Nat), s.bit ETH_MDIO_GO = true → s.bit ETH_MDIO_WRITE = false → s.get ETH_MDIO_REG ≠ 1 → s.boot.phyAt = some n → n < 32 →
    ∃ t, exec (.mdioDone d) s = .next t ∧ (d ≠ 0xFFFF → t.boot.phy = some n ∧ t.boot.phyAt = none ∧ t.bit ETH_MDIO_GO = false)
      ∧ (d = 0xFFFF → t.boot.phy = s.boot.phy ∧ (n < 31 → t.boot.phyAt = some (n + 1) ∧ t.bit ETH_MDIO_GO = true ∧ t.get ETH_MDIO_PHY = n + 1) ∧ (n = 31 → t.boot.phyAt = none)))
  ∧ (∀ (d : BitVec 16) (s : State), s.bit ETH_MDIO_GO = true → s.boot.phyAt = none → ∃ t, exec (.mdioDone d) s = .next t ∧ t.bit ETH_MDIO_GO = false
    ∧ (s.bit ETH_MDIO_WRITE = false → t.get ETH_MDIO_DATA = d.toNat) ∧ (s.bit ETH_MDIO_WRITE = true → t.get ETH_MDIO_DATA = s.get ETH_MDIO_DATA)))
  ∧ (
  (∀ (who : Who) (o : Nat) (s : State), o < 2 ^ 28 → o % 4 = 0 → s.admitsRead who (0x20000000 + o) → s.bit (FCU_INJ_ARM 70) = false →
    (s.bit XSP_CTRL_WIN_EN = true → s.bit XSP_STAT_PF_OWN = false → s.bit XSP_CTRL_RST = false → s.xsp.buf = none → s.xsp.dqs = false → s.xspFree = true → s.flashOpen = false → ∃ t, exec (.windowRead who o) s = .next t
      ∧ t.bus.resp = { who := who, data := BitVec.ofNat 32 (natLE (readBytes erasedByte s.flash o 4)), err := false }
      ∧ t.xsp.buf = some (o / 16, readBytes erasedByte s.flash (o / 16 * 16) 16) ∧ t = { s with bus := t.bus, xsp := t.xsp })
    ∧ (s.bit XSP_CTRL_WIN_EN = true → s.bit XSP_STAT_PF_OWN = false → s.xsp.buf = none → s.xspFree = false →
      exec (.windowRead who o) s = .next { s with xsp := { s.xsp with waits := s.xsp.waits ++ [(who, 0x20000000 + o)] } })
    ∧ (∀ bs, s.bit XSP_CTRL_WIN_EN = true → s.bit XSP_STAT_PF_OWN = false → s.xsp.buf = some (o / 16, bs) → ∃ t, exec (.windowRead who o) s = .next t
      ∧ t.bus.resp = { who := who, data := BitVec.ofNat 32 (natLE ((bs.drop (o % 16)).take 4)), err := false } ∧ t = { s with bus := t.bus })
    ∧ (s.bit XSP_CTRL_WIN_EN = false → ∃ u : State, exec (.windowRead who o) s = .next ((u.raiseN 365 0x02 o).answer who 0 true) ∧ u.bit XSP_STAT_WIN_ERR = true ∧ s.onlyRegs u [XSP_STAT]))
  ∧ (∀ (who : Who) (v : Word) (s u : State), s.admits who XSP_ICMD (withBit v 31) u → legalAt XSP_ICMD (withBit v 31) = true → u.bit XSP_STAT_BUSY = false → u.bit XSP_STAT_PF_OWN = false →
    (u.get XSP_ILEN_LEN ≤ 256 → u.bit (FCU_INJ_ARM 70) = false → ∃ t, exec (.icmdGo who v) s = .next t ∧ t.bit XSP_STAT_BUSY = true ∧ t.bit XSP_ICMD_GO = true
      ∧ t.xsp.icmd = some ((u.apply XSP_ICMD (withBit v 31)).word XSP_ICMD, u.get XSP_ILEN_LEN) ∧ t.flash = u.flash ∧ u.onlyParts t (fun t s => { s with xsp := t.xsp, flashOpen := t.flashOpen }) [XSP_ICMD, XSP_STAT]
      ∧ t.xsp.op.any (fun p => p.cs == bitsOf v 30 30 && p.write == tb v 29 && p.len == u.get XSP_ILEN_LEN && p.dummy == bitsOf v 20 16
        && p.addr == (if tb v 28 then some (u.word XSP_IADDR) else none) && p.data == (if tb v 29 then u.ibuf (u.get XSP_ILEN_LEN) else [])) = true)
    ∧ (256 < u.get XSP_ILEN_LEN → ∃ x : State, exec (.icmdGo who v) s = .next (x.raiseN 364 0x02 (1 + u.get XSP_ILEN_LEN * 2 ^ 16)) ∧ x.bit XSP_STAT_FAIL = true
      ∧ x.get XSP_ERR_CODE = 1 ∧ x.get XSP_ERR_VALUE = u.get XSP_ILEN_LEN ∧ x.bit XSP_STAT_BUSY = false ∧ u.onlyRegs x [XSP_ICMD, XSP_STAT, XSP_ERR]))
  ∧ (∀ (who : Who) (v : Word) (s u : State), s.admits who XSP_ICMD (withBit v 31) u → u.bit XSP_STAT_BUSY = true → u.xsp.late = none →
    exec (.icmdGo who v) s = .next { u with xsp := { u.xsp with late := some (withBit v 31) } })
  ∧ (∀ (v : Word) (s : State), s.xsp.late = some v → s.bit XSP_STAT_BUSY = true → s.tickEnds = true → s.xspTick.xsp.late = none ∧ s.xspTick.bit XSP_STAT_FAIL = true
    ∧ s.xspTick.get XSP_ERR_CODE = 2 ∧ s.xspTick.xsp.icmd = s.xsp.icmd)
  ∧ (∀ (good : Bool) (data : List Byte) (s : State), s.xsp.icmd.isSome = true → s.ldg.burst.isSome = true → ∃ t, exec (.icmdDone good data) s = .next t
    ∧ t = { s with alarms := t.alarms } ∧ t.armed (.icmdDone good data) = true)
  ∧ (∀ (data : List Byte) (s : State) (w : Word) (n : Nat), s.xsp.icmd = some (w, n) → n ≤ 256 → s.ldg.burst = none →
    (∃ t, exec (.icmdDone true data) s = .next t ∧ t.bit XSP_STAT_BUSY = false ∧ t.bit XSP_STAT_DONE = true ∧ t.xsp.icmd = none ∧ t.flash = s.flash
      ∧ (tb w 29 = false → ∀ i, i < n → t.get ⟨XSP_IBUF (i / 4), i % 4 * 8 + 7, i % 4 * 8⟩ = (data.getD i 0xFF).toNat))
    ∧ (tb w 29 = false → s.xsp.ddr = true → n ≠ 0 → ∃ t, exec (.icmdDone false data) s = .next t ∧ exec .dqsFail s = .next { t with alarms := s.alarms } ∧ t.bit XSP_STAT_BUSY = false ∧ t.bit XSP_STAT_FAIL = true ∧ t.get XSP_ERR_CODE = 3 ∧ t.xsp.icmd = none
      ∧ t.get XSP_CNT_DQS_COUNT = min (s.get XSP_CNT_DQS_COUNT + 1) (2 ^ 32 - 1) ∧ t.flash = s.flash))
  ∧ (∀ s : State, s.xsp.icmd = none → exec .dqsFail s = .next { s with xsp := { s.xsp with dqs := decide (s.get (XSP_PROF_MODE 0) = 1) } })
  ∧ (∀ (who : Who) (v : Word) (s u : State), s.admits who XSP_CTRL (withBit v 2) u → legalAt XSP_CTRL (withBit v 2) = true → ∃ t, exec (.xspCntClr who v) s = .next t
    ∧ t.get XSP_CNT_DQS_COUNT = 0 ∧ u.onlyParts t (fun t s => { s with xsp := t.xsp }) [XSP_CTRL, XSP_CNT_DQS]))

/-! ## The two-wire ports (18) -/

/-- A GO of an enabled, idle port starts the command that its TYPE names, refuses a length above the buffers with
LENGTH, and ends at once where nothing would be sent; it waits for a free bus; without EN it starts nothing, while BUSY
it is decided at the end of its TWB cycle, by refusal with error 11 where BUSY stands. Enabling an idle port with
AUTO_CLR looks at the lines after T_LOW and clears a stuck SDA; CNT_CLR clears the counters. See log entries 53 and 79.
How a command ends: a plain read keeps its bytes and is done; an address that nobody acknowledges fails with error 2
and the address; a lost arbitration starts again up to RETRY times and then fails with error 4; a clock held low
fails with error 6; a clear is done; a segment that no probe of POLL_N finds ready fails with error 10. An answer takes
effect no earlier than the bit clock lets it; no command, no effect; a level of a ball passes the two flops and then the
filter, which takes no level that has stood for less than FILT TWB cycles; SCL that is not held low for TMO_MS lets no
command time out. See log entries 53 and 79. -/
def Obligations.TwoWireCommands : Prop :=
  (
  ∀ (who : Who) (p : Fin 8) (v : Word) (s u : State),
    (∀ tc ∈ [(0, Instr.twbWrite who p v), (1, .twbRead who p v), (2, .writeRead who p v), (3, .blockWrite who p v), (4, .blockRead who p v), (5, .blockProc who p v), (6, .quick who p v), (7, .ara who p v), (8, .clear who p v)],
      let w := setBits (withBit v 31) 27 24 tc.1
      let x := u.apply (TWB_CMD p) w
      let c := x.word (TWB_CMD p)
      s.admits who (TWB_CMD p) w u → legalAt (TWB_CMD p) w = true →
      (u.bit (TWB_STAT_BUSY p) = false → u.twbStuck p = false → u.bit (TWB_CFG_EN p) = false → ∃ t, exec tc.2 s = .next t ∧ t.bit (TWB_STAT_BUSY p) = false ∧ u.onlyRegs t [TWB_CMD p])
      ∧ (u.bit (TWB_STAT_BUSY p) = false → u.twbStuck p = true → ∃ t, exec tc.2 s = .next t ∧ t.get (TWB_ERR_CODE p) = 11 ∧ t.bit (TWB_STAT_FAIL p) = true ∧ t.twbs = u.twbs)
      ∧ (u.bit (TWB_STAT_BUSY p) = false → u.twbStuck p = false → u.bit (TWB_CFG_EN p) = true →
        (∀ n, x.twbLength p c = some n → ∃ t, exec tc.2 s = .next t ∧ t.bit (TWB_STAT_FAIL p) = true ∧ t.get (TWB_ERR_CODE p) = 1 ∧ t.get (TWB_ERR_VALUE p) = n ∧ t.bit (TWB_STAT_BUSY p) = false)
        ∧ (x.twbLength p c = none → (tc.1 = 1 → u.get (TWB_LEN_RLEN p) ≠ 0) → (x.twbType p c = 0 → cmdPLEN c ≠ 0 ∨ u.get (TWB_LEN_WLEN p) ≠ 0) →
          (tc.1 = 8 → u.get (TWB_CFG_TMO_MS p) ≠ 0 ∨ u.scl p = true) → ∃ t, exec tc.2 s = .next t ∧ t.bit (TWB_STAT_BUSY p) = true ∧ t.bit (TWB_CMD_GO p) = true
            ∧ t.bit (TWB_STAT_HOLD p) = false ∧ (t.twb p).cmd = some c ∧ cmdTYPE c = tc.1 ∧ (t.twb p).begun = u.clk.now ∧ (t.twb p).tries = 0 ∧ (t.twb p).probes = none
            ∧ (t.twb p).wait = (!u.bit (TWB_STAT_HOLD p) && decide (tc.1 ≠ 8) && !u.busFree p)
            ∧ u.onlyParts t (fun t s => { s with twbs := t.twbs, alarms := t.alarms }) [TWB_CMD p, TWB_STAT p])
        ∧ (x.twbLength p c = none → (tc.1 = 1 ∧ u.get (TWB_LEN_RLEN p) = 0) ∨ (x.twbType p c = 0 ∧ cmdPLEN c = 0 ∧ u.get (TWB_LEN_WLEN p) = 0) →
          ∃ y : State, exec tc.2 s = .next (y.raiseN (328 + p) 0x01 0) ∧ y.bit (TWB_STAT_DONE p) = true ∧ y.get (TWB_STAT_XFER p) = 0 ∧ u.onlyRegs y [TWB_CMD p, TWB_STAT p]))
      ∧ (u.bit (TWB_STAT_BUSY p) = true → (u.twb p).late = none → exec tc.2 s = .next (u.modTwb p (fun y => { y with late := some w })))
      ∧ (u.bit (TWB_STAT_BUSY p) = true → (u.twb p).late.isSome = true → ∃ t, exec tc.2 s = .next t ∧ t.get (TWB_ERR_CODE p) = 11 ∧ t.bit (TWB_STAT_FAIL p) = true ∧ t.twbs = u.twbs))
    ∧ (∀ w, (s.twb p).late = some w → s.clk.now % 5 = 0 → s.bit (TWB_STAT_BUSY p) = true → (s.twbLate p).get (TWB_ERR_CODE p) = 11
      ∧ (s.twbLate p).bit (TWB_STAT_FAIL p) = true ∧ ((s.twbLate p).twb p).late = none ∧ ((s.twbLate p).twb p).cmd = (s.twb p).cmd)
    ∧ (∀ w, w = withBit v 0 → s.admits who (TWB_CFG p) w u → legalAt (TWB_CFG p) w = true → u.bit (TWB_STAT_BUSY p) = false → tb w 2 = false → u.bit (TWB_CFG_EN p) = false →
      ∃ t, exec (.twbEnable who p v) s = .next t ∧ t.bit (TWB_CFG_EN p) = true ∧ u.onlyParts t (fun t s => { s with twbs := t.twbs }) [TWB_CFG p]
      ∧ (tb w 3 = false → t.twbs = u.twbs) ∧ (tb w 3 = true → t.twb p = { u.twb p with look := some (u.clk.now + u.tLow p) }))
    ∧ (∀ n, (s.twb p).look = some n → n ≤ s.clk.now → s.bit (TWB_STAT_BUSY p) = false →
      (s.twbStuck p = true → (s.twbLook p).bit (TWB_STAT_BUSY p) = true ∧ ((s.twbLook p).twb p).cmd = some 0x08000000 ∧ ((s.twbLook p).twb p).wait = false)
      ∧ (s.twbStuck p = false → s.twbLook p = s.modTwb p (fun y => { y with look := none })))
    ∧ (∀ w, w = withBit v 2 → s.admits who (TWB_CFG p) w u → legalAt (TWB_CFG p) w = true → u.bit (TWB_STAT_BUSY p) = false → ∃ t, exec (.twbCntClr who p v) s = .next t
      ∧ t.get (TWB_CNT_ARB_COUNT p) = 0 ∧ t.get (TWB_CNT_NACK_COUNT p) = 0 ∧ t.get (TWB_CNT_TMO_COUNT p) = 0))
  ∧ (
  ∀ (p : Fin 8) (s : State),
    (∀ a b, ∃ t, exec (.twbCmdEnd p (.lines a b)) s = .next t ∧ t = { s with twbs := t.twbs, alarms := t.alarms }
      ∧ (t.twb p).scl = { (s.twb p).scl with level := a } ∧ (t.twb p).sda = { (s.twb p).sda with level := b })
    ∧ (∀ (y : TwLine) (now f : Nat), (y.clock now f).ff1 = y.level ∧ (y.clock now f).ff2 = y.ff1 ∧ (y.clock now 0).out = y.ff1
      ∧ (f ≠ 0 → y.ff2 ≠ y.out → (y.clock now f).out = (if f ≤ y.run + 1 then y.ff2 else y.out)) ∧ (f ≠ 0 → y.ff2 = y.out → (y.clock now f).out = y.out))
    ∧ ((s.twb p).cmd = none → (∀ r, (∀ a b, r ≠ .lines a b) → exec (.twbCmdEnd p r) s = .next (s.disarm (.twbCmdEnd p r)))
      ∧ (∀ a, exec (.pollProbe p a) s = .next (s.disarm (.pollProbe p a))))
    ∧ (∀ w : Word, (s.twb p).cmd = some w →
      ((s.twb p).wait = false → ∀ r, (∀ a b, r ≠ .lines a b) → s.twbWait p w r ≠ 0 → exec (.twbCmdEnd p r) s = .next ((s.disarm (.twbCmdEnd p r)).arm (s.twbWait p w r) (.twbCmdEnd p r)))
      ∧ ((s.twb p).wait = true → (∀ r, (∀ a b, r ≠ .lines a b) → exec (.twbCmdEnd p r) s = .next (s.disarm (.twbCmdEnd p r)))
        ∧ (cmdTYPE w < 8 → s.get (TWB_CFG_TMO_MS p) ≠ 0 → ∃ t, exec (.twbTimeout p none) s = .next t ∧ t.bit (TWB_STAT_FAIL p) = true ∧ t.get (TWB_ERR_CODE p) = 6
          ∧ t.get (TWB_ERR_VALUE p) = 0xFFFF ∧ (t.twb p).cmd = none)))
    ∧ (∀ w : Word, (s.twb p).cmd = some w → (s.twb p).probes = none → (s.twb p).wait = false →
      (∀ read, s.twbWait p w (.ok read) = 0 → cmdTYPE w = 1 → tb w 29 = false → tb w 30 = false → s.get (TWB_LEN_RLEN p) ≤ 256 → ∃ t, exec (.twbCmdEnd p (.ok read)) s = .next t ∧ t.bit (TWB_STAT_DONE p) = true
        ∧ t.bit (TWB_STAT_BUSY p) = false ∧ t.get (TWB_STAT_XFER p) = s.get (TWB_LEN_RLEN p) ∧ (t.twb p).cmd = none
        ∧ ∀ i, i < s.get (TWB_LEN_RLEN p) → t.get ⟨TWB_RXBUF p (i / 4), i % 4 * 8 + 7, i % 4 * 8⟩ = (read.getD i 0xFF).toNat)
      ∧ (s.twbWait p w .nackAddr = 0 → cmdTYPE w < 7 → ∃ t, exec (.twbCmdEnd p .nackAddr) s = .next t ∧ t.bit (TWB_STAT_FAIL p) = true ∧ t.bit (TWB_STAT_BUSY p) = false ∧ t.get (TWB_ERR_CODE p) = 2
        ∧ t.get (TWB_ERR_VALUE p) = cmdADDR w ∧ t.get (TWB_CNT_NACK_COUNT p) = min (s.get (TWB_CNT_NACK_COUNT p) + 1) (2 ^ 32 - 1))
      ∧ (∀ idx, s.twbWait p w (.arbLost idx) = 0 → cmdTYPE w < 8 → (s.twb p).tries < s.get (TWB_CFG_RETRY p) → ∃ t, exec (.twbCmdEnd p (.arbLost idx)) s = .next t ∧ (t.twb p).cmd = some w
        ∧ (t.twb p).tries = (s.twb p).tries + 1 ∧ (t.twb p).wait = true ∧ s.onlyParts t (fun t s => { s with twbs := t.twbs, alarms := t.alarms }) [TWB_CNT_ARB p])
      ∧ (∀ idx, s.twbWait p w (.arbLost idx) = 0 → idx < 65536 → cmdTYPE w < 8 → s.get (TWB_CFG_RETRY p) ≤ (s.twb p).tries → ∃ t, exec (.twbCmdEnd p (.arbLost idx)) s = .next t ∧ (t.twb p).cmd = none
        ∧ t.bit (TWB_STAT_FAIL p) = true ∧ t.get (TWB_ERR_CODE p) = 4 ∧ t.get (TWB_ERR_VALUE p) = idx)
      ∧ (∀ n, s.twbWait p w (.cleared n) = 0 → cmdTYPE w = 8 → (s.twb p).ends = true → (s.twb p).clocks = n → ∃ t, exec (.twbCmdEnd p (.cleared n)) s = .next t ∧ t.bit (TWB_STAT_DONE p) = true
        ∧ t.bit (TWB_STAT_BUSY p) = false ∧ t.get (TWB_STAT_XFER p) = 0 ∧ (t.twb p).cmd = none)
      ∧ (∀ idx, s.sclStuck p = false → exec (.twbTimeout p (some idx)) s = .next s)
      ∧ (∀ idx, idx < 65536 → cmdTYPE w < 8 → s.sclStuck p = true → s.get (TWB_CFG_TMO_MS p) ≠ 0 → ∃ t, exec (.twbTimeout p (some idx)) s = .next t ∧ t.bit (TWB_STAT_FAIL p) = true ∧ t.bit (TWB_STAT_SCL p) = false
        ∧ t.get (TWB_ERR_CODE p) = 6 ∧ t.get (TWB_ERR_VALUE p) = idx ∧ (t.twb p).cmd = none ∧ t.get (TWB_CNT_TMO_COUNT p) = min (s.get (TWB_CNT_TMO_COUNT p) + 1) (2 ^ 32 - 1)))
    ∧ (∀ (w : Word) (k : Nat), (s.twb p).cmd = some w → (s.twb p).probes = some k →
      (s.probeWait p ≠ 0 → ∀ a, exec (.pollProbe p a) s = .next ((s.disarm (.pollProbe p a)).arm (s.probeWait p) (.pollProbe p a)))
      ∧ (s.probeWait p = 0 → k + 1 < s.get (TWB_PAGE_POLL_N p) → ∃ t, exec (.pollProbe p false) s = .next t ∧ (t.twb p).probes = some (k + 1) ∧ t = { s with twbs := t.twbs, alarms := t.alarms })
      ∧ (s.probeWait p = 0 → s.get (TWB_PAGE_POLL_N p) ≤ k + 1 → (s.twb p).seg < 65536 → ∃ t, exec (.pollProbe p false) s = .next t ∧ t.bit (TWB_STAT_FAIL p) = true ∧ t.get (TWB_ERR_CODE p) = 10
        ∧ t.get (TWB_ERR_VALUE p) = (s.twb p).seg ∧ (t.twb p).cmd = none)))

/-- The target port: a host write to an unprotected byte stores it at the pointer; one to a protected page sets WPV, one
past the window RANGE, and neither stores; a host read answers the window from the pointer on; a transfer to another
address does nothing, and one that goes on leaves the port addressed. A line low for TTMO_MS while it is addressed drops
the transfer, with no WRITE. A request stands until the host's alert read or the host's loss counts LOST; its time's end
sets TMO once. Without EN a host does nothing. See log entry 54. -/
def Obligations.TargetPort : Prop :=
  (∀ (hi lo b : Byte) (a : BitVec 7) (s : State), s.bit TWT_CFG_EN = true → a.toNat = s.get TWT_CFG_TADDR → s.twt.host = none →
    let q := hi.toNat * 256 + lo.toNat
    (q < 512 → (s.get TWT_WP_WP).testBit (q / 64) = false → ∃ t, exec (.twtWrite [hi, lo, b] a) s = .next t ∧ t.winByte q = b ∧ t.get TWT_LAST_FIRST = q ∧ t.get TWT_LAST_COUNT = 1
      ∧ t.twt.host = none ∧ ∀ j, j < 512 → j ≠ q → t.winByte j = s.winByte j)
    ∧ (q < 512 → (s.get TWT_WP_WP).testBit (q / 64) = true → ∃ t, exec (.twtWrite [hi, lo, b] a) s = .next t ∧ t.bit TWT_STAT_WPV = true ∧ t.twt.host = none
      ∧ t.mrg = (s.raiseN 336 0x07 q).mrg ∧ t.word TWT_LAST = s.word TWT_LAST ∧ ∀ j, j < 512 → t.winByte j = s.winByte j)
    ∧ (512 ≤ q → ∃ t, exec (.twtWrite [hi, lo, b] a) s = .next t ∧ t.bit TWT_STAT_RANGE = true ∧ t.twt.host = none
      ∧ t.mrg = (s.raiseN 336 0x06 q).mrg ∧ t.get TWT_STAT_PTR = s.get TWT_STAT_PTR ∧ t.word TWT_LAST = s.word TWT_LAST ∧ ∀ j, j < 512 → t.winByte j = s.winByte j)
    ∧ (∀ n, ∃ t, exec (.twtRead [] n a) s = .next t ∧ t.twt.out = (List.range n).map (fun i => s.winByte ((s.get TWT_STAT_PTR + i) % 512)) ∧ t.get TWT_STAT_PTR = (s.get TWT_STAT_PTR + n) % 512)
    ∧ (∃ t, exec (.twtWrite [hi] a .first) s = .next t ∧ t.bit TWT_STAT_ACTIVE = true ∧ t.twt.host = some { read := false, since := s.clk.now, hdr := [hi] } ∧ s.onlyParts t (fun t s => { s with twt := t.twt }) [TWT_STAT]))
  ∧ (∀ s : State, s.bit TWT_CFG_EN = true →
    (s.get TWT_CFG_TTMO_MS ≠ 0 → s.twt.lowFrom.any (fun c => c + ms (s.get TWT_CFG_TTMO_MS) ≤ s.clk.now) = true → ∃ u : State, exec .twtTimeout s = .next (u.raiseN 336 0x05 (s.get TWT_STAT_PTR))
      ∧ u.bit TWT_STAT_TMO = true ∧ u.bit TWT_STAT_ACTIVE = false ∧ u.twt.host = none ∧ s.onlyParts u (fun t s => { s with twt := t.twt, alarms := t.alarms }) [TWT_STAT])
    ∧ (s.twt.lowFrom = none → exec .twtTimeout s = .next s)
    ∧ (s.bit TWT_CFG_ARA_EN = true → s.bit TWT_ATTN_REQ = true →
      (s.twtNow.asked = true → ∃ t, exec (.twtAra true) s = .next t ∧ t.bit TWT_ATTN_REQ = true ∧ t.bit TWT_ATTN_DONE = true ∧ t.get TWT_ATTN_LOST = 0)
      ∧ (s.twtNow.asked = false → ∃ t, exec (.twtAra true) s = .next t ∧ t.bit TWT_ATTN_REQ = false ∧ t.bit TWT_ATTN_DONE = true ∧ t.twt.out = [BitVec.ofNat 8 (2 * s.get TWT_CFG_TADDR)] ∧ t.armed .attnTmo = false)
      ∧ (∃ t, exec (.twtAra false) s = .next t ∧ t.get TWT_ATTN_LOST = min (s.get TWT_ATTN_LOST + 1) 255 ∧ s.onlyRegs t [TWT_ATTN])))
  ∧ (∀ (a : BitVec 7) (s : State), s.twt.host = none → a.toNat ≠ s.get TWT_CFG_TADDR → ∀ (bytes : List Byte) (part : TwtPart), exec (.twtWrite bytes a part) s = .next s
    ∧ ∀ n, exec (.twtRead bytes n a part) s = .next s)
  ∧ (∀ (bytes : List Byte) (n : Nat) (won : Bool) (a : BitVec 7) (part : TwtPart) (s : State), s.bit TWT_CFG_EN = false →
    ∀ c ∈ [Instr.twtWrite bytes a part, .twtRead bytes n a part, .twtTimeout, .twtAra won], exec c s = .next s)
  ∧ (∀ (who : Who) (v : Word) (s u : State), s.admits who TWT_ATTN (withBit v 31) u → legalAt TWT_ATTN (withBit v 31) = true → u.bit TWT_ATTN_REQ = false → bitsOf v 15 0 ≠ 0 →
    ∃ t, exec (.attnReq who v) s = .next t ∧ t.bit TWT_ATTN_REQ = true ∧ t.bit TWT_ATTN_DONE = u.twtNow.answered ∧ t.bit TWT_ATTN_TMO = false ∧ t.get TWT_ATTN_LOST = 0
      ∧ t.alarms.filter (fun e => e.2 = .attnTmo) = [(u.clk.now + u.twbEnd (ms (bitsOf v 15 0)), .attnTmo)] ∧ u.onlyParts t (fun t s => { s with twt := t.twt, alarms := t.alarms }) [TWT_ATTN])
  ∧ (∀ s : State, s.bit TWT_ATTN_REQ = true → s.get TWT_ATTN_ATTN_MS ≠ 0 →
    (s.twt.tmoRaised = false → ∃ u : State, exec .attnTmo s = .next (u.raiseN 336 0x04 (s.get TWT_ATTN_ATTN_MS)) ∧ u.bit TWT_ATTN_TMO = true ∧ u.twt.tmoRaised = true)
    ∧ (s.twt.tmoRaised = true → exec .attnTmo s = .next (s.disarm .attnTmo)))
end

