-- ==== Sys2Proof/Laws/Bits.lean ====
section
/-! SUPPORT. Laws/Bits.lean: a field of a word reads as it was written, and writing it leaves the other fields alone. -/

namespace Sys2Proof.Machine

theorem getLsbD_ones (n i : Nat) : (ones n).getLsbD i = decide (i < 32 ∧ i < n) := by
  simp only [ones, BitVec.getLsbD_ofNat, Nat.testBit_two_pow_sub_one, Bool.decide_and]

/-- Bit `i` of a field read as a word. -/
theorem getLsbD_field (w : Word) (hi lo i : Nat) :
    ((w >>> lo) &&& ones (hi + 1 - lo)).getLsbD i = (w.getLsbD (lo + i) && decide (i < hi + 1 - lo)) := by
  simp only [BitVec.getLsbD_and, BitVec.getLsbD_ushiftRight, getLsbD_ones]
  by_cases h : i < 32
  · simp [h]
  · have : w.getLsbD (lo + i) = false := BitVec.getLsbD_of_ge w _ (by omega)
    simp [h, this]

/-- Bit `i` of a word after a field was written. -/
theorem getLsbD_setBits (w : Word) (hi lo v i : Nat) (h : i < 32) :
    (setBits w hi lo v).getLsbD i =
      if lo ≤ i ∧ i < hi + 1 then v.testBit (i - lo) else w.getLsbD i := by
  simp only [setBits, BitVec.getLsbD_or, BitVec.getLsbD_and, BitVec.getLsbD_not, BitVec.getLsbD_shiftLeft, getLsbD_ones,
    BitVec.getLsbD_ofNat, h, decide_true, Bool.true_and]
  split
  · have h1 : ¬ i < lo := by omega
    have h2 : i - lo < 32 := by omega
    have h3 : i - lo < hi + 1 - lo := by omega
    simp [h1, h2, h3]
  · by_cases h1 : i < lo
    · simp [h1]
    · have h3 : ¬ i - lo < hi + 1 - lo := by omega
      simp [h1, h3]

/-- A field reads back what was written, cut to its width. -/
theorem bitsOf_setBits_same (w : Word) (hi lo v : Nat) (h : hi ≤ 31) :
    bitsOf (setBits w hi lo v) hi lo = v % 2 ^ (hi + 1 - lo) := by
  refine Nat.eq_of_testBit_eq fun i => ?_
  simp only [bitsOf, BitVec.testBit_toNat, getLsbD_field, Nat.testBit_mod_two_pow]
  by_cases h1 : i < hi + 1 - lo
  · rw [getLsbD_setBits _ _ _ _ _ (by omega)]
    have h2 : lo ≤ lo + i ∧ lo + i < hi + 1 := by omega
    simp [h1, h2]
  · simp [h1]

/-- A field that shares no bit with the one written keeps its value. -/
theorem bitsOf_setBits_other (w : Word) (hi lo v hi' lo' : Nat) (h : hi' < lo ∨ hi < lo') :
    bitsOf (setBits w hi lo v) hi' lo' = bitsOf w hi' lo' := by
  refine Nat.eq_of_testBit_eq fun i => ?_
  simp only [bitsOf, BitVec.testBit_toNat, getLsbD_field]
  by_cases h1 : i < hi' + 1 - lo'
  · by_cases h2 : lo' + i < 32
    · rw [getLsbD_setBits _ _ _ _ _ h2, if_neg (by omega)]
    · rw [BitVec.getLsbD_of_ge _ _ (by omega), BitVec.getLsbD_of_ge _ _ (by omega)]
  · simp [h1]

/-- A field is less than its span. -/
theorem bitsOf_lt (w : Word) (hi lo : Nat) : bitsOf w hi lo < 2 ^ (hi + 1 - lo) := by
  have h : bitsOf w hi lo = bitsOf w hi lo % 2 ^ (hi + 1 - lo) := by
    refine Nat.eq_of_testBit_eq fun i => ?_
    simp only [bitsOf, Nat.testBit_mod_two_pow, BitVec.testBit_toNat, getLsbD_field]
    by_cases h1 : i < hi + 1 - lo <;> simp [h1]
  rw [h]
  exact Nat.mod_lt _ (Nat.two_pow_pos _)

end Sys2Proof.Machine
end

