-- ==== Sys2Proof/Laws/Map.lean ====
section
/-! SUPPORT. Laws/Map.lean: a read after a write, a write leaves every other key alone, and every operation of a
sparse map keeps its canonical form. -/

namespace Sys2Proof.Machine

variable {α : Type}

@[simp] theorem SMap.get_nil (d : Nat → α) (k : Nat) : SMap.get d [] k = d k := rfl

theorem SMap.get_ins_same (d : Nat → α) (m : SMap α) (k : Nat) (v : α) :
    SMap.get d (SMap.ins m k v) k = v := by
  induction m with
  | nil => simp [SMap.ins, SMap.get]
  | cons e t ih =>
    obtain ⟨k', v'⟩ := e
    simp only [SMap.ins]
    split
    · simp [SMap.get]
    · split
      · simp [SMap.get]
      · simp [SMap.get, *]

theorem SMap.get_ins_ne (d : Nat → α) (m : SMap α) {k j : Nat} (v : α) (h : j ≠ k) :
    SMap.get d (SMap.ins m k v) j = SMap.get d m j := by
  induction m with
  | nil => simp [SMap.ins, SMap.get, h]
  | cons e t ih =>
    obtain ⟨k', v'⟩ := e
    simp only [SMap.ins]
    split
    · simp [SMap.get, h]
    · split
      · subst_vars; simp [SMap.get, h]
      · simp [SMap.get, ih]

theorem SMap.get_drop_same (d : Nat → α) (m : SMap α) (k : Nat) : SMap.get d (SMap.drop m k) k = d k := by
  induction m with
  | nil => rfl
  | cons e t ih =>
    obtain ⟨k', v'⟩ := e
    simp only [SMap.drop]
    split
    · exact ih
    · simp only [SMap.get, *, if_false]

theorem SMap.get_drop_ne (d : Nat → α) (m : SMap α) {k j : Nat} (h : j ≠ k) :
    SMap.get d (SMap.drop m k) j = SMap.get d m j := by
  induction m with
  | nil => rfl
  | cons e t ih =>
    obtain ⟨k', v'⟩ := e
    simp only [SMap.drop]
    split
    · subst_vars; simp [SMap.get, h, ih]
    · simp [SMap.get, ih]

/-- A write leaves every other key alone. -/
theorem SMap.get_set_ne [DecidableEq α] (d : Nat → α) (m : SMap α) {k j : Nat} (v : α) (h : j ≠ k) :
    SMap.get d (SMap.set d m k v) j = SMap.get d m j := by
  unfold SMap.set
  split
  · exact SMap.get_drop_ne d m h
  · exact SMap.get_ins_ne d m v h

/-- A read after a write gives the value written. -/
theorem SMap.get_set_same [DecidableEq α] (d : Nat → α) (m : SMap α) (k : Nat) (v : α) :
    SMap.get d (SMap.set d m k v) k = v := by
  unfold SMap.set
  split
  · subst_vars; exact SMap.get_drop_same d m k
  · exact SMap.get_ins_same d m k v

theorem SMap.wfFrom_mono [DecidableEq α] (d : Nat → α) (m : SMap α) {lo lo' : Nat} (h : SMap.wfFrom d lo m = true)
    (hl : lo' ≤ lo) : SMap.wfFrom d lo' m = true := by
  cases m with
  | nil => rfl
  | cons e t =>
    obtain ⟨k, v⟩ := e
    simp only [SMap.wfFrom, Bool.and_eq_true, decide_eq_true_eq] at h ⊢
    exact ⟨⟨by omega, h.1.2⟩, h.2⟩

theorem SMap.wfFrom_drop [DecidableEq α] (d : Nat → α) (m : SMap α) {lo : Nat} (k : Nat)
    (h : SMap.wfFrom d lo m = true) : SMap.wfFrom d lo (SMap.drop m k) = true := by
  induction m generalizing lo with
  | nil => rfl
  | cons e t ih =>
    obtain ⟨k', v'⟩ := e
    simp only [SMap.wfFrom, Bool.and_eq_true, decide_eq_true_eq] at h
    simp only [SMap.drop]
    split
    · exact ih (SMap.wfFrom_mono d t h.2 (by omega))
    · simp only [SMap.wfFrom, Bool.and_eq_true, decide_eq_true_eq]
      exact ⟨h.1, ih h.2⟩

theorem SMap.wfFrom_ins [DecidableEq α] (d : Nat → α) (m : SMap α) {lo k : Nat} {v : α}
    (h : SMap.wfFrom d lo m = true) (hk : lo ≤ k) (hv : v ≠ d k) : SMap.wfFrom d lo (SMap.ins m k v) = true := by
  induction m generalizing lo with
  | nil => simp [SMap.ins, SMap.wfFrom, hk, hv]
  | cons e t ih =>
    obtain ⟨k', v'⟩ := e
    simp only [SMap.wfFrom, Bool.and_eq_true, decide_eq_true_eq] at h
    simp only [SMap.ins]
    split
    · simp only [SMap.wfFrom, Bool.and_eq_true, decide_eq_true_eq]
      exact ⟨⟨hk, hv⟩, ⟨by omega, h.1.2⟩, h.2⟩
    · split
      · subst_vars
        simp only [SMap.wfFrom, Bool.and_eq_true, decide_eq_true_eq]
        exact ⟨⟨hk, hv⟩, h.2⟩
      · simp only [SMap.wfFrom, Bool.and_eq_true, decide_eq_true_eq]
        exact ⟨h.1, ih h.2 (by omega)⟩

/-- A write keeps the canonical form. -/
theorem SMap.wf_set [DecidableEq α] (d : Nat → α) (m : SMap α) (k : Nat) (v : α) (h : SMap.wf d m = true) :
    SMap.wf d (SMap.set d m k v) = true := by
  unfold SMap.set SMap.wf
  split
  · exact SMap.wfFrom_drop d m k h
  · exact SMap.wfFrom_ins d m h (Nat.zero_le _) ‹_›

/-- A change in place keeps the canonical form. -/
theorem SMap.wf_upd [DecidableEq α] (d : Nat → α) (m : SMap α) (k : Nat) (f : α → α) (h : SMap.wf d m = true) :
    SMap.wf d (SMap.upd d m k f) = true :=
  SMap.wf_set d m k _ h

/-- The empty map is canonical. -/
@[simp] theorem SMap.wf_nil [DecidableEq α] (d : Nat → α) : SMap.wf d ([] : SMap α) = true := rfl

theorem SMap.wfFrom_clear [DecidableEq α] (d : Nat → α) (m : SMap α) (p : Nat → Bool) {lo : Nat}
    (h : SMap.wfFrom d lo m = true) : SMap.wfFrom d lo (SMap.clear m p) = true := by
  induction m generalizing lo with
  | nil => rfl
  | cons e t ih =>
    obtain ⟨k, v⟩ := e
    simp only [SMap.wfFrom, Bool.and_eq_true, decide_eq_true_eq] at h
    simp only [SMap.clear, List.filter]
    split
    · simp only [SMap.wfFrom, Bool.and_eq_true, decide_eq_true_eq]
      exact ⟨h.1, ih h.2⟩
    · exact SMap.wfFrom_mono d _ (ih h.2) (by omega)

/-- Clearing a set of keys keeps the canonical form. -/
theorem SMap.wf_clear [DecidableEq α] (d : Nat → α) (m : SMap α) (p : Nat → Bool) (h : SMap.wf d m = true) :
    SMap.wf d (SMap.clear m p) = true :=
  SMap.wfFrom_clear d m p h

/-- A cleared key reads as an unlisted one. -/
theorem SMap.get_clear_of (d : Nat → α) (m : SMap α) (p : Nat → Bool) {k : Nat} (h : p k = true) :
    SMap.get d (SMap.clear m p) k = d k := by
  induction m with
  | nil => rfl
  | cons e t ih =>
    obtain ⟨k', v⟩ := e
    simp only [SMap.clear, List.filter]
    split
    · rename_i hp
      have : k ≠ k' := by rintro rfl; simp [h] at hp
      simp only [SMap.get, this, if_false]; exact ih
    · exact ih

/-- A key that is not cleared keeps its value. -/
theorem SMap.get_clear_ne (d : Nat → α) (m : SMap α) (p : Nat → Bool) {k : Nat} (h : p k = false) :
    SMap.get d (SMap.clear m p) k = SMap.get d m k := by
  induction m with
  | nil => rfl
  | cons e t ih =>
    obtain ⟨k', v⟩ := e
    simp only [SMap.clear, List.filter]
    split
    · simp only [SMap.get]; split
      · rfl
      · exact ih
    · rename_i hp
      have : k ≠ k' := by rintro rfl; simp [h] at hp
      simp only [SMap.get, this, if_false]; exact ih

end Sys2Proof.Machine
end

