-- ==== Sys2Proof/Laws/State.lean ====
section
/-! SUPPORT. Laws/State.lean: what each named update of the state leaves alone, field by field, and how a register reads
after a write of it or of another. The lemmas of the first part follow State's field list. -/

namespace Sys2Proof.Machine

/-! ## Fields that an update leaves alone -/

@[simp] theorem State.setWord_member (s : State) (a : Nat) (w : Word) : (s.setWord a w).member = s.member := rfl
@[simp] theorem State.setWord_clk (s : State) (a : Nat) (w : Word) : (s.setWord a w).clk = s.clk := rfl
@[simp] theorem State.setWord_mrg (s : State) (a : Nat) (w : Word) : (s.setWord a w).mrg = s.mrg := rfl
@[simp] theorem State.setWord_fcu (s : State) (a : Nat) (w : Word) : (s.setWord a w).fcu = s.fcu := rfl
@[simp] theorem State.setWord_ldg (s : State) (a : Nat) (w : Word) : (s.setWord a w).ldg = s.ldg := rfl
@[simp] theorem State.setWord_bus (s : State) (a : Nat) (w : Word) : (s.setWord a w).bus = s.bus := rfl
@[simp] theorem State.setWord_cores (s : State) (a : Nat) (w : Word) : (s.setWord a w).cores = s.cores := rfl
@[simp] theorem State.setWord_links (s : State) (a : Nat) (w : Word) : (s.setWord a w).links = s.links := rfl
@[simp] theorem State.setWord_feeds (s : State) (a : Nat) (w : Word) : (s.setWord a w).feeds = s.feeds := rfl
@[simp] theorem State.setWord_comps (s : State) (a : Nat) (w : Word) : (s.setWord a w).comps = s.comps := rfl
@[simp] theorem State.setWord_rounds (s : State) (a : Nat) (w : Word) : (s.setWord a w).rounds = s.rounds := rfl
@[simp] theorem State.setWord_engs (s : State) (a : Nat) (w : Word) : (s.setWord a w).engs = s.engs := rfl
@[simp] theorem State.setWord_prog (s : State) (a : Nat) (w : Word) : (s.setWord a w).prog = s.prog := rfl
@[simp] theorem State.setWord_ctx (s : State) (a : Nat) (w : Word) : (s.setWord a w).ctx = s.ctx := rfl
@[simp] theorem State.setWord_scr (s : State) (a : Nat) (w : Word) : (s.setWord a w).scr = s.scr := rfl
@[simp] theorem State.setWord_ents (s : State) (a : Nat) (w : Word) : (s.setWord a w).ents = s.ents := rfl
@[simp] theorem State.setWord_binds (s : State) (a : Nat) (w : Word) : (s.setWord a w).binds = s.binds := rfl
@[simp] theorem State.setWord_ecc (s : State) (a : Nat) (w : Word) : (s.setWord a w).ecc = s.ecc := rfl
@[simp] theorem State.setWord_sch (s : State) (a : Nat) (w : Word) : (s.setWord a w).sch = s.sch := rfl
@[simp] theorem State.setWord_fra (s : State) (a : Nat) (w : Word) : (s.setWord a w).fra = s.fra := rfl
@[simp] theorem State.setWord_mint (s : State) (a : Nat) (w : Word) : (s.setWord a w).mint = s.mint := rfl
@[simp] theorem State.setWord_bat (s : State) (a : Nat) (w : Word) : (s.setWord a w).bat = s.bat := rfl
@[simp] theorem State.setWord_twn (s : State) (a : Nat) (w : Word) : (s.setWord a w).twn = s.twn := rfl
@[simp] theorem State.setWord_ring (s : State) (a : Nat) (w : Word) : (s.setWord a w).ring = s.ring := rfl
@[simp] theorem State.setWord_wave (s : State) (a : Nat) (w : Word) : (s.setWord a w).wave = s.wave := rfl
@[simp] theorem State.setWord_itcm (s : State) (a : Nat) (w : Word) : (s.setWord a w).itcm = s.itcm := rfl
@[simp] theorem State.setWord_dtcm (s : State) (a : Nat) (w : Word) : (s.setWord a w).dtcm = s.dtcm := rfl
@[simp] theorem State.setWord_flash (s : State) (a : Nat) (w : Word) : (s.setWord a w).flash = s.flash := rfl
@[simp] theorem State.setWord_mram (s : State) (a : Nat) (w : Word) : (s.setWord a w).mram = s.mram := rfl
@[simp] theorem State.setWord_boot (s : State) (a : Nat) (w : Word) : (s.setWord a w).boot = s.boot := rfl
@[simp] theorem State.setWord_vlt (s : State) (a : Nat) (w : Word) : (s.setWord a w).vlt = s.vlt := rfl
@[simp] theorem State.setWord_twbs (s : State) (a : Nat) (w : Word) : (s.setWord a w).twbs = s.twbs := rfl
@[simp] theorem State.setWord_twt (s : State) (a : Nat) (w : Word) : (s.setWord a w).twt = s.twt := rfl
@[simp] theorem State.setWord_tmrs (s : State) (a : Nat) (w : Word) : (s.setWord a w).tmrs = s.tmrs := rfl
@[simp] theorem State.setWord_hka (s : State) (a : Nat) (w : Word) : (s.setWord a w).hka = s.hka := rfl
@[simp] theorem State.setWord_alerts (s : State) (a : Nat) (w : Word) : (s.setWord a w).alerts = s.alerts := rfl
@[simp] theorem State.setWord_gpioBall (s : State) (a : Nat) (w : Word) : (s.setWord a w).gpioBall = s.gpioBall := rfl
@[simp] theorem State.setWord_gpioFf1 (s : State) (a : Nat) (w : Word) : (s.setWord a w).gpioFf1 = s.gpioFf1 := rfl
@[simp] theorem State.setWord_gpioFf2 (s : State) (a : Nat) (w : Word) : (s.setWord a w).gpioFf2 = s.gpioFf2 := rfl
@[simp] theorem State.setWord_gpioRun (s : State) (a : Nat) (w : Word) : (s.setWord a w).gpioRun = s.gpioRun := rfl
@[simp] theorem State.setWord_flashOpen (s : State) (a : Nat) (w : Word) : (s.setWord a w).flashOpen = s.flashOpen := rfl
@[simp] theorem State.setWord_gpioSetAt (s : State) (a : Nat) (w : Word) : (s.setWord a w).gpioSetAt = s.gpioSetAt := rfl
@[simp] theorem State.setWord_eth (s : State) (a : Nat) (w : Word) : (s.setWord a w).eth = s.eth := rfl
@[simp] theorem State.setWord_xsp (s : State) (a : Nat) (w : Word) : (s.setWord a w).xsp = s.xsp := rfl
@[simp] theorem State.setWord_hw (s : State) (a : Nat) (w : Word) : (s.setWord a w).hw = s.hw := rfl
@[simp] theorem State.setWord_alarms (s : State) (a : Nat) (w : Word) : (s.setWord a w).alarms = s.alarms := rfl
@[simp] theorem State.setWord_free (s : State) (a : Nat) (w : Word) : (s.setWord a w).free = s.free := rfl
@[simp] theorem State.setWord_pending (s : State) (a : Nat) (w : Word) : (s.setWord a w).pending = s.pending := rfl
@[simp] theorem State.setWord_link (s : State) (a : Nat) (w : Word) (x : Nat) : (s.setWord a w).link x = s.link x := rfl
@[simp] theorem State.setWord_comp (s : State) (a : Nat) (w : Word) (x : Nat) : (s.setWord a w).comp x = s.comp x := rfl
@[simp] theorem State.setWord_round (s : State) (a : Nat) (w : Word) (x : Nat) : (s.setWord a w).round x = s.round x := rfl
@[simp] theorem State.setWord_eng (s : State) (a : Nat) (w : Word) (x : Nat) : (s.setWord a w).eng x = s.eng x := rfl

@[simp] theorem State.put_member (s : State) (f : Fld) (v : Nat) : (s.put f v).member = s.member := rfl
@[simp] theorem State.put_clk (s : State) (f : Fld) (v : Nat) : (s.put f v).clk = s.clk := rfl
@[simp] theorem State.put_mrg (s : State) (f : Fld) (v : Nat) : (s.put f v).mrg = s.mrg := rfl
@[simp] theorem State.put_fcu (s : State) (f : Fld) (v : Nat) : (s.put f v).fcu = s.fcu := rfl
@[simp] theorem State.put_ldg (s : State) (f : Fld) (v : Nat) : (s.put f v).ldg = s.ldg := rfl
@[simp] theorem State.put_bus (s : State) (f : Fld) (v : Nat) : (s.put f v).bus = s.bus := rfl
@[simp] theorem State.put_cores (s : State) (f : Fld) (v : Nat) : (s.put f v).cores = s.cores := rfl
@[simp] theorem State.put_links (s : State) (f : Fld) (v : Nat) : (s.put f v).links = s.links := rfl
@[simp] theorem State.put_feeds (s : State) (f : Fld) (v : Nat) : (s.put f v).feeds = s.feeds := rfl
@[simp] theorem State.put_comps (s : State) (f : Fld) (v : Nat) : (s.put f v).comps = s.comps := rfl
@[simp] theorem State.put_rounds (s : State) (f : Fld) (v : Nat) : (s.put f v).rounds = s.rounds := rfl
@[simp] theorem State.put_engs (s : State) (f : Fld) (v : Nat) : (s.put f v).engs = s.engs := rfl
@[simp] theorem State.put_prog (s : State) (f : Fld) (v : Nat) : (s.put f v).prog = s.prog := rfl
@[simp] theorem State.put_ctx (s : State) (f : Fld) (v : Nat) : (s.put f v).ctx = s.ctx := rfl
@[simp] theorem State.put_scr (s : State) (f : Fld) (v : Nat) : (s.put f v).scr = s.scr := rfl
@[simp] theorem State.put_ents (s : State) (f : Fld) (v : Nat) : (s.put f v).ents = s.ents := rfl
@[simp] theorem State.put_binds (s : State) (f : Fld) (v : Nat) : (s.put f v).binds = s.binds := rfl
@[simp] theorem State.put_ecc (s : State) (f : Fld) (v : Nat) : (s.put f v).ecc = s.ecc := rfl
@[simp] theorem State.put_sch (s : State) (f : Fld) (v : Nat) : (s.put f v).sch = s.sch := rfl
@[simp] theorem State.put_fra (s : State) (f : Fld) (v : Nat) : (s.put f v).fra = s.fra := rfl
@[simp] theorem State.put_mint (s : State) (f : Fld) (v : Nat) : (s.put f v).mint = s.mint := rfl
@[simp] theorem State.put_bat (s : State) (f : Fld) (v : Nat) : (s.put f v).bat = s.bat := rfl
@[simp] theorem State.put_twn (s : State) (f : Fld) (v : Nat) : (s.put f v).twn = s.twn := rfl
@[simp] theorem State.put_ring (s : State) (f : Fld) (v : Nat) : (s.put f v).ring = s.ring := rfl
@[simp] theorem State.put_wave (s : State) (f : Fld) (v : Nat) : (s.put f v).wave = s.wave := rfl
@[simp] theorem State.put_itcm (s : State) (f : Fld) (v : Nat) : (s.put f v).itcm = s.itcm := rfl
@[simp] theorem State.put_dtcm (s : State) (f : Fld) (v : Nat) : (s.put f v).dtcm = s.dtcm := rfl
@[simp] theorem State.put_flash (s : State) (f : Fld) (v : Nat) : (s.put f v).flash = s.flash := rfl
@[simp] theorem State.put_mram (s : State) (f : Fld) (v : Nat) : (s.put f v).mram = s.mram := rfl
@[simp] theorem State.put_boot (s : State) (f : Fld) (v : Nat) : (s.put f v).boot = s.boot := rfl
@[simp] theorem State.put_vlt (s : State) (f : Fld) (v : Nat) : (s.put f v).vlt = s.vlt := rfl
@[simp] theorem State.put_twbs (s : State) (f : Fld) (v : Nat) : (s.put f v).twbs = s.twbs := rfl
@[simp] theorem State.put_twt (s : State) (f : Fld) (v : Nat) : (s.put f v).twt = s.twt := rfl
@[simp] theorem State.put_tmrs (s : State) (f : Fld) (v : Nat) : (s.put f v).tmrs = s.tmrs := rfl
@[simp] theorem State.put_hka (s : State) (f : Fld) (v : Nat) : (s.put f v).hka = s.hka := rfl
@[simp] theorem State.put_alerts (s : State) (f : Fld) (v : Nat) : (s.put f v).alerts = s.alerts := rfl
@[simp] theorem State.put_gpioBall (s : State) (f : Fld) (v : Nat) : (s.put f v).gpioBall = s.gpioBall := rfl
@[simp] theorem State.put_gpioFf1 (s : State) (f : Fld) (v : Nat) : (s.put f v).gpioFf1 = s.gpioFf1 := rfl
@[simp] theorem State.put_gpioFf2 (s : State) (f : Fld) (v : Nat) : (s.put f v).gpioFf2 = s.gpioFf2 := rfl
@[simp] theorem State.put_gpioRun (s : State) (f : Fld) (v : Nat) : (s.put f v).gpioRun = s.gpioRun := rfl
@[simp] theorem State.put_flashOpen (s : State) (f : Fld) (v : Nat) : (s.put f v).flashOpen = s.flashOpen := rfl
@[simp] theorem State.put_gpioSetAt (s : State) (f : Fld) (v : Nat) : (s.put f v).gpioSetAt = s.gpioSetAt := rfl
@[simp] theorem State.put_eth (s : State) (f : Fld) (v : Nat) : (s.put f v).eth = s.eth := rfl
@[simp] theorem State.put_xsp (s : State) (f : Fld) (v : Nat) : (s.put f v).xsp = s.xsp := rfl
@[simp] theorem State.put_hw (s : State) (f : Fld) (v : Nat) : (s.put f v).hw = s.hw := rfl
@[simp] theorem State.put_alarms (s : State) (f : Fld) (v : Nat) : (s.put f v).alarms = s.alarms := rfl
@[simp] theorem State.put_free (s : State) (f : Fld) (v : Nat) : (s.put f v).free = s.free := rfl
@[simp] theorem State.put_pending (s : State) (f : Fld) (v : Nat) : (s.put f v).pending = s.pending := rfl
@[simp] theorem State.put_link (s : State) (f : Fld) (v : Nat) (x : Nat) : (s.put f v).link x = s.link x := rfl
@[simp] theorem State.put_comp (s : State) (f : Fld) (v : Nat) (x : Nat) : (s.put f v).comp x = s.comp x := rfl
@[simp] theorem State.put_round (s : State) (f : Fld) (v : Nat) (x : Nat) : (s.put f v).round x = s.round x := rfl
@[simp] theorem State.put_eng (s : State) (f : Fld) (v : Nat) (x : Nat) : (s.put f v).eng x = s.eng x := rfl

@[simp] theorem State.putBit_member (s : State) (f : Fld) (b : Bool) : (s.putBit f b).member = s.member := rfl
@[simp] theorem State.putBit_clk (s : State) (f : Fld) (b : Bool) : (s.putBit f b).clk = s.clk := rfl
@[simp] theorem State.putBit_mrg (s : State) (f : Fld) (b : Bool) : (s.putBit f b).mrg = s.mrg := rfl
@[simp] theorem State.putBit_fcu (s : State) (f : Fld) (b : Bool) : (s.putBit f b).fcu = s.fcu := rfl
@[simp] theorem State.putBit_ldg (s : State) (f : Fld) (b : Bool) : (s.putBit f b).ldg = s.ldg := rfl
@[simp] theorem State.putBit_bus (s : State) (f : Fld) (b : Bool) : (s.putBit f b).bus = s.bus := rfl
@[simp] theorem State.putBit_cores (s : State) (f : Fld) (b : Bool) : (s.putBit f b).cores = s.cores := rfl
@[simp] theorem State.putBit_links (s : State) (f : Fld) (b : Bool) : (s.putBit f b).links = s.links := rfl
@[simp] theorem State.putBit_feeds (s : State) (f : Fld) (b : Bool) : (s.putBit f b).feeds = s.feeds := rfl
@[simp] theorem State.putBit_comps (s : State) (f : Fld) (b : Bool) : (s.putBit f b).comps = s.comps := rfl
@[simp] theorem State.putBit_rounds (s : State) (f : Fld) (b : Bool) : (s.putBit f b).rounds = s.rounds := rfl
@[simp] theorem State.putBit_engs (s : State) (f : Fld) (b : Bool) : (s.putBit f b).engs = s.engs := rfl
@[simp] theorem State.putBit_prog (s : State) (f : Fld) (b : Bool) : (s.putBit f b).prog = s.prog := rfl
@[simp] theorem State.putBit_ctx (s : State) (f : Fld) (b : Bool) : (s.putBit f b).ctx = s.ctx := rfl
@[simp] theorem State.putBit_scr (s : State) (f : Fld) (b : Bool) : (s.putBit f b).scr = s.scr := rfl
@[simp] theorem State.putBit_ents (s : State) (f : Fld) (b : Bool) : (s.putBit f b).ents = s.ents := rfl
@[simp] theorem State.putBit_binds (s : State) (f : Fld) (b : Bool) : (s.putBit f b).binds = s.binds := rfl
@[simp] theorem State.putBit_ecc (s : State) (f : Fld) (b : Bool) : (s.putBit f b).ecc = s.ecc := rfl
@[simp] theorem State.putBit_sch (s : State) (f : Fld) (b : Bool) : (s.putBit f b).sch = s.sch := rfl
@[simp] theorem State.putBit_fra (s : State) (f : Fld) (b : Bool) : (s.putBit f b).fra = s.fra := rfl
@[simp] theorem State.putBit_mint (s : State) (f : Fld) (b : Bool) : (s.putBit f b).mint = s.mint := rfl
@[simp] theorem State.putBit_bat (s : State) (f : Fld) (b : Bool) : (s.putBit f b).bat = s.bat := rfl
@[simp] theorem State.putBit_twn (s : State) (f : Fld) (b : Bool) : (s.putBit f b).twn = s.twn := rfl
@[simp] theorem State.putBit_ring (s : State) (f : Fld) (b : Bool) : (s.putBit f b).ring = s.ring := rfl
@[simp] theorem State.putBit_wave (s : State) (f : Fld) (b : Bool) : (s.putBit f b).wave = s.wave := rfl
@[simp] theorem State.putBit_itcm (s : State) (f : Fld) (b : Bool) : (s.putBit f b).itcm = s.itcm := rfl
@[simp] theorem State.putBit_dtcm (s : State) (f : Fld) (b : Bool) : (s.putBit f b).dtcm = s.dtcm := rfl
@[simp] theorem State.putBit_flash (s : State) (f : Fld) (b : Bool) : (s.putBit f b).flash = s.flash := rfl
@[simp] theorem State.putBit_mram (s : State) (f : Fld) (b : Bool) : (s.putBit f b).mram = s.mram := rfl
@[simp] theorem State.putBit_boot (s : State) (f : Fld) (b : Bool) : (s.putBit f b).boot = s.boot := rfl
@[simp] theorem State.putBit_vlt (s : State) (f : Fld) (b : Bool) : (s.putBit f b).vlt = s.vlt := rfl
@[simp] theorem State.putBit_twbs (s : State) (f : Fld) (b : Bool) : (s.putBit f b).twbs = s.twbs := rfl
@[simp] theorem State.putBit_twt (s : State) (f : Fld) (b : Bool) : (s.putBit f b).twt = s.twt := rfl
@[simp] theorem State.putBit_tmrs (s : State) (f : Fld) (b : Bool) : (s.putBit f b).tmrs = s.tmrs := rfl
@[simp] theorem State.putBit_hka (s : State) (f : Fld) (b : Bool) : (s.putBit f b).hka = s.hka := rfl
@[simp] theorem State.putBit_alerts (s : State) (f : Fld) (b : Bool) : (s.putBit f b).alerts = s.alerts := rfl
@[simp] theorem State.putBit_gpioBall (s : State) (f : Fld) (b : Bool) : (s.putBit f b).gpioBall = s.gpioBall := rfl
@[simp] theorem State.putBit_gpioFf1 (s : State) (f : Fld) (b : Bool) : (s.putBit f b).gpioFf1 = s.gpioFf1 := rfl
@[simp] theorem State.putBit_gpioFf2 (s : State) (f : Fld) (b : Bool) : (s.putBit f b).gpioFf2 = s.gpioFf2 := rfl
@[simp] theorem State.putBit_gpioRun (s : State) (f : Fld) (b : Bool) : (s.putBit f b).gpioRun = s.gpioRun := rfl
@[simp] theorem State.putBit_flashOpen (s : State) (f : Fld) (b : Bool) : (s.putBit f b).flashOpen = s.flashOpen := rfl
@[simp] theorem State.putBit_gpioSetAt (s : State) (f : Fld) (b : Bool) : (s.putBit f b).gpioSetAt = s.gpioSetAt := rfl
@[simp] theorem State.putBit_eth (s : State) (f : Fld) (b : Bool) : (s.putBit f b).eth = s.eth := rfl
@[simp] theorem State.putBit_xsp (s : State) (f : Fld) (b : Bool) : (s.putBit f b).xsp = s.xsp := rfl
@[simp] theorem State.putBit_hw (s : State) (f : Fld) (b : Bool) : (s.putBit f b).hw = s.hw := rfl
@[simp] theorem State.putBit_alarms (s : State) (f : Fld) (b : Bool) : (s.putBit f b).alarms = s.alarms := rfl
@[simp] theorem State.putBit_free (s : State) (f : Fld) (b : Bool) : (s.putBit f b).free = s.free := rfl
@[simp] theorem State.putBit_pending (s : State) (f : Fld) (b : Bool) : (s.putBit f b).pending = s.pending := rfl
@[simp] theorem State.putBit_link (s : State) (f : Fld) (b : Bool) (x : Nat) : (s.putBit f b).link x = s.link x := rfl
@[simp] theorem State.putBit_comp (s : State) (f : Fld) (b : Bool) (x : Nat) : (s.putBit f b).comp x = s.comp x := rfl
@[simp] theorem State.putBit_round (s : State) (f : Fld) (b : Bool) (x : Nat) : (s.putBit f b).round x = s.round x := rfl
@[simp] theorem State.putBit_eng (s : State) (f : Fld) (b : Bool) (x : Nat) : (s.putBit f b).eng x = s.eng x := rfl

@[simp] theorem State.incBy_member (s : State) (f : Fld) (n : Nat) : (s.incBy f n).member = s.member := rfl
@[simp] theorem State.incBy_clk (s : State) (f : Fld) (n : Nat) : (s.incBy f n).clk = s.clk := rfl
@[simp] theorem State.incBy_mrg (s : State) (f : Fld) (n : Nat) : (s.incBy f n).mrg = s.mrg := rfl
@[simp] theorem State.incBy_fcu (s : State) (f : Fld) (n : Nat) : (s.incBy f n).fcu = s.fcu := rfl
@[simp] theorem State.incBy_ldg (s : State) (f : Fld) (n : Nat) : (s.incBy f n).ldg = s.ldg := rfl
@[simp] theorem State.incBy_bus (s : State) (f : Fld) (n : Nat) : (s.incBy f n).bus = s.bus := rfl
@[simp] theorem State.incBy_cores (s : State) (f : Fld) (n : Nat) : (s.incBy f n).cores = s.cores := rfl
@[simp] theorem State.incBy_links (s : State) (f : Fld) (n : Nat) : (s.incBy f n).links = s.links := rfl
@[simp] theorem State.incBy_feeds (s : State) (f : Fld) (n : Nat) : (s.incBy f n).feeds = s.feeds := rfl
@[simp] theorem State.incBy_comps (s : State) (f : Fld) (n : Nat) : (s.incBy f n).comps = s.comps := rfl
@[simp] theorem State.incBy_rounds (s : State) (f : Fld) (n : Nat) : (s.incBy f n).rounds = s.rounds := rfl
@[simp] theorem State.incBy_engs (s : State) (f : Fld) (n : Nat) : (s.incBy f n).engs = s.engs := rfl
@[simp] theorem State.incBy_prog (s : State) (f : Fld) (n : Nat) : (s.incBy f n).prog = s.prog := rfl
@[simp] theorem State.incBy_ctx (s : State) (f : Fld) (n : Nat) : (s.incBy f n).ctx = s.ctx := rfl
@[simp] theorem State.incBy_scr (s : State) (f : Fld) (n : Nat) : (s.incBy f n).scr = s.scr := rfl
@[simp] theorem State.incBy_ents (s : State) (f : Fld) (n : Nat) : (s.incBy f n).ents = s.ents := rfl
@[simp] theorem State.incBy_binds (s : State) (f : Fld) (n : Nat) : (s.incBy f n).binds = s.binds := rfl
@[simp] theorem State.incBy_ecc (s : State) (f : Fld) (n : Nat) : (s.incBy f n).ecc = s.ecc := rfl
@[simp] theorem State.incBy_sch (s : State) (f : Fld) (n : Nat) : (s.incBy f n).sch = s.sch := rfl
@[simp] theorem State.incBy_fra (s : State) (f : Fld) (n : Nat) : (s.incBy f n).fra = s.fra := rfl
@[simp] theorem State.incBy_mint (s : State) (f : Fld) (n : Nat) : (s.incBy f n).mint = s.mint := rfl
@[simp] theorem State.incBy_bat (s : State) (f : Fld) (n : Nat) : (s.incBy f n).bat = s.bat := rfl
@[simp] theorem State.incBy_twn (s : State) (f : Fld) (n : Nat) : (s.incBy f n).twn = s.twn := rfl
@[simp] theorem State.incBy_ring (s : State) (f : Fld) (n : Nat) : (s.incBy f n).ring = s.ring := rfl
@[simp] theorem State.incBy_wave (s : State) (f : Fld) (n : Nat) : (s.incBy f n).wave = s.wave := rfl
@[simp] theorem State.incBy_itcm (s : State) (f : Fld) (n : Nat) : (s.incBy f n).itcm = s.itcm := rfl
@[simp] theorem State.incBy_dtcm (s : State) (f : Fld) (n : Nat) : (s.incBy f n).dtcm = s.dtcm := rfl
@[simp] theorem State.incBy_flash (s : State) (f : Fld) (n : Nat) : (s.incBy f n).flash = s.flash := rfl
@[simp] theorem State.incBy_mram (s : State) (f : Fld) (n : Nat) : (s.incBy f n).mram = s.mram := rfl
@[simp] theorem State.incBy_boot (s : State) (f : Fld) (n : Nat) : (s.incBy f n).boot = s.boot := rfl
@[simp] theorem State.incBy_vlt (s : State) (f : Fld) (n : Nat) : (s.incBy f n).vlt = s.vlt := rfl
@[simp] theorem State.incBy_twbs (s : State) (f : Fld) (n : Nat) : (s.incBy f n).twbs = s.twbs := rfl
@[simp] theorem State.incBy_twt (s : State) (f : Fld) (n : Nat) : (s.incBy f n).twt = s.twt := rfl
@[simp] theorem State.incBy_tmrs (s : State) (f : Fld) (n : Nat) : (s.incBy f n).tmrs = s.tmrs := rfl
@[simp] theorem State.incBy_hka (s : State) (f : Fld) (n : Nat) : (s.incBy f n).hka = s.hka := rfl
@[simp] theorem State.incBy_alerts (s : State) (f : Fld) (n : Nat) : (s.incBy f n).alerts = s.alerts := rfl
@[simp] theorem State.incBy_gpioBall (s : State) (f : Fld) (n : Nat) : (s.incBy f n).gpioBall = s.gpioBall := rfl
@[simp] theorem State.incBy_gpioFf1 (s : State) (f : Fld) (n : Nat) : (s.incBy f n).gpioFf1 = s.gpioFf1 := rfl
@[simp] theorem State.incBy_gpioFf2 (s : State) (f : Fld) (n : Nat) : (s.incBy f n).gpioFf2 = s.gpioFf2 := rfl
@[simp] theorem State.incBy_gpioRun (s : State) (f : Fld) (n : Nat) : (s.incBy f n).gpioRun = s.gpioRun := rfl
@[simp] theorem State.incBy_flashOpen (s : State) (f : Fld) (n : Nat) : (s.incBy f n).flashOpen = s.flashOpen := rfl
@[simp] theorem State.incBy_gpioSetAt (s : State) (f : Fld) (n : Nat) : (s.incBy f n).gpioSetAt = s.gpioSetAt := rfl
@[simp] theorem State.incBy_eth (s : State) (f : Fld) (n : Nat) : (s.incBy f n).eth = s.eth := rfl
@[simp] theorem State.incBy_xsp (s : State) (f : Fld) (n : Nat) : (s.incBy f n).xsp = s.xsp := rfl
@[simp] theorem State.incBy_hw (s : State) (f : Fld) (n : Nat) : (s.incBy f n).hw = s.hw := rfl
@[simp] theorem State.incBy_alarms (s : State) (f : Fld) (n : Nat) : (s.incBy f n).alarms = s.alarms := rfl
@[simp] theorem State.incBy_free (s : State) (f : Fld) (n : Nat) : (s.incBy f n).free = s.free := rfl
@[simp] theorem State.incBy_pending (s : State) (f : Fld) (n : Nat) : (s.incBy f n).pending = s.pending := rfl
@[simp] theorem State.incBy_link (s : State) (f : Fld) (n : Nat) (x : Nat) : (s.incBy f n).link x = s.link x := rfl
@[simp] theorem State.incBy_comp (s : State) (f : Fld) (n : Nat) (x : Nat) : (s.incBy f n).comp x = s.comp x := rfl
@[simp] theorem State.incBy_round (s : State) (f : Fld) (n : Nat) (x : Nat) : (s.incBy f n).round x = s.round x := rfl
@[simp] theorem State.incBy_eng (s : State) (f : Fld) (n : Nat) (x : Nat) : (s.incBy f n).eng x = s.eng x := rfl

@[simp] theorem State.inc_member (s : State) (f : Fld) : (s.inc f).member = s.member := rfl
@[simp] theorem State.inc_clk (s : State) (f : Fld) : (s.inc f).clk = s.clk := rfl
@[simp] theorem State.inc_mrg (s : State) (f : Fld) : (s.inc f).mrg = s.mrg := rfl
@[simp] theorem State.inc_fcu (s : State) (f : Fld) : (s.inc f).fcu = s.fcu := rfl
@[simp] theorem State.inc_ldg (s : State) (f : Fld) : (s.inc f).ldg = s.ldg := rfl
@[simp] theorem State.inc_bus (s : State) (f : Fld) : (s.inc f).bus = s.bus := rfl
@[simp] theorem State.inc_cores (s : State) (f : Fld) : (s.inc f).cores = s.cores := rfl
@[simp] theorem State.inc_links (s : State) (f : Fld) : (s.inc f).links = s.links := rfl
@[simp] theorem State.inc_feeds (s : State) (f : Fld) : (s.inc f).feeds = s.feeds := rfl
@[simp] theorem State.inc_comps (s : State) (f : Fld) : (s.inc f).comps = s.comps := rfl
@[simp] theorem State.inc_rounds (s : State) (f : Fld) : (s.inc f).rounds = s.rounds := rfl
@[simp] theorem State.inc_engs (s : State) (f : Fld) : (s.inc f).engs = s.engs := rfl
@[simp] theorem State.inc_prog (s : State) (f : Fld) : (s.inc f).prog = s.prog := rfl
@[simp] theorem State.inc_ctx (s : State) (f : Fld) : (s.inc f).ctx = s.ctx := rfl
@[simp] theorem State.inc_scr (s : State) (f : Fld) : (s.inc f).scr = s.scr := rfl
@[simp] theorem State.inc_ents (s : State) (f : Fld) : (s.inc f).ents = s.ents := rfl
@[simp] theorem State.inc_binds (s : State) (f : Fld) : (s.inc f).binds = s.binds := rfl
@[simp] theorem State.inc_ecc (s : State) (f : Fld) : (s.inc f).ecc = s.ecc := rfl
@[simp] theorem State.inc_sch (s : State) (f : Fld) : (s.inc f).sch = s.sch := rfl
@[simp] theorem State.inc_fra (s : State) (f : Fld) : (s.inc f).fra = s.fra := rfl
@[simp] theorem State.inc_mint (s : State) (f : Fld) : (s.inc f).mint = s.mint := rfl
@[simp] theorem State.inc_bat (s : State) (f : Fld) : (s.inc f).bat = s.bat := rfl
@[simp] theorem State.inc_twn (s : State) (f : Fld) : (s.inc f).twn = s.twn := rfl
@[simp] theorem State.inc_ring (s : State) (f : Fld) : (s.inc f).ring = s.ring := rfl
@[simp] theorem State.inc_wave (s : State) (f : Fld) : (s.inc f).wave = s.wave := rfl
@[simp] theorem State.inc_itcm (s : State) (f : Fld) : (s.inc f).itcm = s.itcm := rfl
@[simp] theorem State.inc_dtcm (s : State) (f : Fld) : (s.inc f).dtcm = s.dtcm := rfl
@[simp] theorem State.inc_flash (s : State) (f : Fld) : (s.inc f).flash = s.flash := rfl
@[simp] theorem State.inc_mram (s : State) (f : Fld) : (s.inc f).mram = s.mram := rfl
@[simp] theorem State.inc_boot (s : State) (f : Fld) : (s.inc f).boot = s.boot := rfl
@[simp] theorem State.inc_vlt (s : State) (f : Fld) : (s.inc f).vlt = s.vlt := rfl
@[simp] theorem State.inc_twbs (s : State) (f : Fld) : (s.inc f).twbs = s.twbs := rfl
@[simp] theorem State.inc_twt (s : State) (f : Fld) : (s.inc f).twt = s.twt := rfl
@[simp] theorem State.inc_tmrs (s : State) (f : Fld) : (s.inc f).tmrs = s.tmrs := rfl
@[simp] theorem State.inc_hka (s : State) (f : Fld) : (s.inc f).hka = s.hka := rfl
@[simp] theorem State.inc_alerts (s : State) (f : Fld) : (s.inc f).alerts = s.alerts := rfl
@[simp] theorem State.inc_gpioBall (s : State) (f : Fld) : (s.inc f).gpioBall = s.gpioBall := rfl
@[simp] theorem State.inc_gpioFf1 (s : State) (f : Fld) : (s.inc f).gpioFf1 = s.gpioFf1 := rfl
@[simp] theorem State.inc_gpioFf2 (s : State) (f : Fld) : (s.inc f).gpioFf2 = s.gpioFf2 := rfl
@[simp] theorem State.inc_gpioRun (s : State) (f : Fld) : (s.inc f).gpioRun = s.gpioRun := rfl
@[simp] theorem State.inc_flashOpen (s : State) (f : Fld) : (s.inc f).flashOpen = s.flashOpen := rfl
@[simp] theorem State.inc_gpioSetAt (s : State) (f : Fld) : (s.inc f).gpioSetAt = s.gpioSetAt := rfl
@[simp] theorem State.inc_eth (s : State) (f : Fld) : (s.inc f).eth = s.eth := rfl
@[simp] theorem State.inc_xsp (s : State) (f : Fld) : (s.inc f).xsp = s.xsp := rfl
@[simp] theorem State.inc_hw (s : State) (f : Fld) : (s.inc f).hw = s.hw := rfl
@[simp] theorem State.inc_alarms (s : State) (f : Fld) : (s.inc f).alarms = s.alarms := rfl
@[simp] theorem State.inc_free (s : State) (f : Fld) : (s.inc f).free = s.free := rfl
@[simp] theorem State.inc_pending (s : State) (f : Fld) : (s.inc f).pending = s.pending := rfl
@[simp] theorem State.inc_link (s : State) (f : Fld) (x : Nat) : (s.inc f).link x = s.link x := rfl
@[simp] theorem State.inc_comp (s : State) (f : Fld) (x : Nat) : (s.inc f).comp x = s.comp x := rfl
@[simp] theorem State.inc_round (s : State) (f : Fld) (x : Nat) : (s.inc f).round x = s.round x := rfl
@[simp] theorem State.inc_eng (s : State) (f : Fld) (x : Nat) : (s.inc f).eng x = s.eng x := rfl

@[simp] theorem State.setLink_regs (s : State) (k : Nat) (l : LinkSt) : (s.setLink k l).regs = s.regs := rfl
@[simp] theorem State.setLink_member (s : State) (k : Nat) (l : LinkSt) : (s.setLink k l).member = s.member := rfl
@[simp] theorem State.setLink_clk (s : State) (k : Nat) (l : LinkSt) : (s.setLink k l).clk = s.clk := rfl
@[simp] theorem State.setLink_mrg (s : State) (k : Nat) (l : LinkSt) : (s.setLink k l).mrg = s.mrg := rfl
@[simp] theorem State.setLink_fcu (s : State) (k : Nat) (l : LinkSt) : (s.setLink k l).fcu = s.fcu := rfl
@[simp] theorem State.setLink_ldg (s : State) (k : Nat) (l : LinkSt) : (s.setLink k l).ldg = s.ldg := rfl
@[simp] theorem State.setLink_bus (s : State) (k : Nat) (l : LinkSt) : (s.setLink k l).bus = s.bus := rfl
@[simp] theorem State.setLink_cores (s : State) (k : Nat) (l : LinkSt) : (s.setLink k l).cores = s.cores := rfl
@[simp] theorem State.setLink_feeds (s : State) (k : Nat) (l : LinkSt) : (s.setLink k l).feeds = s.feeds := rfl
@[simp] theorem State.setLink_comps (s : State) (k : Nat) (l : LinkSt) : (s.setLink k l).comps = s.comps := rfl
@[simp] theorem State.setLink_rounds (s : State) (k : Nat) (l : LinkSt) : (s.setLink k l).rounds = s.rounds := rfl
@[simp] theorem State.setLink_engs (s : State) (k : Nat) (l : LinkSt) : (s.setLink k l).engs = s.engs := rfl
@[simp] theorem State.setLink_prog (s : State) (k : Nat) (l : LinkSt) : (s.setLink k l).prog = s.prog := rfl
@[simp] theorem State.setLink_ctx (s : State) (k : Nat) (l : LinkSt) : (s.setLink k l).ctx = s.ctx := rfl
@[simp] theorem State.setLink_scr (s : State) (k : Nat) (l : LinkSt) : (s.setLink k l).scr = s.scr := rfl
@[simp] theorem State.setLink_ents (s : State) (k : Nat) (l : LinkSt) : (s.setLink k l).ents = s.ents := rfl
@[simp] theorem State.setLink_binds (s : State) (k : Nat) (l : LinkSt) : (s.setLink k l).binds = s.binds := rfl
@[simp] theorem State.setLink_ecc (s : State) (k : Nat) (l : LinkSt) : (s.setLink k l).ecc = s.ecc := rfl
@[simp] theorem State.setLink_sch (s : State) (k : Nat) (l : LinkSt) : (s.setLink k l).sch = s.sch := rfl
@[simp] theorem State.setLink_fra (s : State) (k : Nat) (l : LinkSt) : (s.setLink k l).fra = s.fra := rfl
@[simp] theorem State.setLink_mint (s : State) (k : Nat) (l : LinkSt) : (s.setLink k l).mint = s.mint := rfl
@[simp] theorem State.setLink_bat (s : State) (k : Nat) (l : LinkSt) : (s.setLink k l).bat = s.bat := rfl
@[simp] theorem State.setLink_twn (s : State) (k : Nat) (l : LinkSt) : (s.setLink k l).twn = s.twn := rfl
@[simp] theorem State.setLink_ring (s : State) (k : Nat) (l : LinkSt) : (s.setLink k l).ring = s.ring := rfl
@[simp] theorem State.setLink_wave (s : State) (k : Nat) (l : LinkSt) : (s.setLink k l).wave = s.wave := rfl
@[simp] theorem State.setLink_itcm (s : State) (k : Nat) (l : LinkSt) : (s.setLink k l).itcm = s.itcm := rfl
@[simp] theorem State.setLink_dtcm (s : State) (k : Nat) (l : LinkSt) : (s.setLink k l).dtcm = s.dtcm := rfl
@[simp] theorem State.setLink_flash (s : State) (k : Nat) (l : LinkSt) : (s.setLink k l).flash = s.flash := rfl
@[simp] theorem State.setLink_mram (s : State) (k : Nat) (l : LinkSt) : (s.setLink k l).mram = s.mram := rfl
@[simp] theorem State.setLink_boot (s : State) (k : Nat) (l : LinkSt) : (s.setLink k l).boot = s.boot := rfl
@[simp] theorem State.setLink_vlt (s : State) (k : Nat) (l : LinkSt) : (s.setLink k l).vlt = s.vlt := rfl
@[simp] theorem State.setLink_twbs (s : State) (k : Nat) (l : LinkSt) : (s.setLink k l).twbs = s.twbs := rfl
@[simp] theorem State.setLink_twt (s : State) (k : Nat) (l : LinkSt) : (s.setLink k l).twt = s.twt := rfl
@[simp] theorem State.setLink_tmrs (s : State) (k : Nat) (l : LinkSt) : (s.setLink k l).tmrs = s.tmrs := rfl
@[simp] theorem State.setLink_hka (s : State) (k : Nat) (l : LinkSt) : (s.setLink k l).hka = s.hka := rfl
@[simp] theorem State.setLink_alerts (s : State) (k : Nat) (l : LinkSt) : (s.setLink k l).alerts = s.alerts := rfl
@[simp] theorem State.setLink_gpioBall (s : State) (k : Nat) (l : LinkSt) : (s.setLink k l).gpioBall = s.gpioBall := rfl
@[simp] theorem State.setLink_gpioFf1 (s : State) (k : Nat) (l : LinkSt) : (s.setLink k l).gpioFf1 = s.gpioFf1 := rfl
@[simp] theorem State.setLink_gpioFf2 (s : State) (k : Nat) (l : LinkSt) : (s.setLink k l).gpioFf2 = s.gpioFf2 := rfl
@[simp] theorem State.setLink_gpioRun (s : State) (k : Nat) (l : LinkSt) : (s.setLink k l).gpioRun = s.gpioRun := rfl
@[simp] theorem State.setLink_flashOpen (s : State) (k : Nat) (l : LinkSt) : (s.setLink k l).flashOpen = s.flashOpen := rfl
@[simp] theorem State.setLink_gpioSetAt (s : State) (k : Nat) (l : LinkSt) : (s.setLink k l).gpioSetAt = s.gpioSetAt := rfl
@[simp] theorem State.setLink_eth (s : State) (k : Nat) (l : LinkSt) : (s.setLink k l).eth = s.eth := rfl
@[simp] theorem State.setLink_xsp (s : State) (k : Nat) (l : LinkSt) : (s.setLink k l).xsp = s.xsp := rfl
@[simp] theorem State.setLink_hw (s : State) (k : Nat) (l : LinkSt) : (s.setLink k l).hw = s.hw := rfl
@[simp] theorem State.setLink_alarms (s : State) (k : Nat) (l : LinkSt) : (s.setLink k l).alarms = s.alarms := rfl
@[simp] theorem State.setLink_free (s : State) (k : Nat) (l : LinkSt) : (s.setLink k l).free = s.free := rfl
@[simp] theorem State.setLink_pending (s : State) (k : Nat) (l : LinkSt) : (s.setLink k l).pending = s.pending := rfl
@[simp] theorem State.setLink_word (s : State) (k : Nat) (l : LinkSt) (x : Nat) : (s.setLink k l).word x = s.word x := rfl
@[simp] theorem State.setLink_get (s : State) (k : Nat) (l : LinkSt) (x : Fld) : (s.setLink k l).get x = s.get x := rfl
@[simp] theorem State.setLink_bit (s : State) (k : Nat) (l : LinkSt) (x : Fld) : (s.setLink k l).bit x = s.bit x := rfl
@[simp] theorem State.setLink_comp (s : State) (k : Nat) (l : LinkSt) (x : Nat) : (s.setLink k l).comp x = s.comp x := rfl
@[simp] theorem State.setLink_round (s : State) (k : Nat) (l : LinkSt) (x : Nat) : (s.setLink k l).round x = s.round x := rfl
@[simp] theorem State.setLink_eng (s : State) (k : Nat) (l : LinkSt) (x : Nat) : (s.setLink k l).eng x = s.eng x := rfl

@[simp] theorem State.modLink_regs (s : State) (k : Nat) (f : LinkSt → LinkSt) : (s.modLink k f).regs = s.regs := rfl
@[simp] theorem State.modLink_member (s : State) (k : Nat) (f : LinkSt → LinkSt) : (s.modLink k f).member = s.member := rfl
@[simp] theorem State.modLink_clk (s : State) (k : Nat) (f : LinkSt → LinkSt) : (s.modLink k f).clk = s.clk := rfl
@[simp] theorem State.modLink_mrg (s : State) (k : Nat) (f : LinkSt → LinkSt) : (s.modLink k f).mrg = s.mrg := rfl
@[simp] theorem State.modLink_fcu (s : State) (k : Nat) (f : LinkSt → LinkSt) : (s.modLink k f).fcu = s.fcu := rfl
@[simp] theorem State.modLink_ldg (s : State) (k : Nat) (f : LinkSt → LinkSt) : (s.modLink k f).ldg = s.ldg := rfl
@[simp] theorem State.modLink_bus (s : State) (k : Nat) (f : LinkSt → LinkSt) : (s.modLink k f).bus = s.bus := rfl
@[simp] theorem State.modLink_cores (s : State) (k : Nat) (f : LinkSt → LinkSt) : (s.modLink k f).cores = s.cores := rfl
@[simp] theorem State.modLink_feeds (s : State) (k : Nat) (f : LinkSt → LinkSt) : (s.modLink k f).feeds = s.feeds := rfl
@[simp] theorem State.modLink_comps (s : State) (k : Nat) (f : LinkSt → LinkSt) : (s.modLink k f).comps = s.comps := rfl
@[simp] theorem State.modLink_rounds (s : State) (k : Nat) (f : LinkSt → LinkSt) : (s.modLink k f).rounds = s.rounds := rfl
@[simp] theorem State.modLink_engs (s : State) (k : Nat) (f : LinkSt → LinkSt) : (s.modLink k f).engs = s.engs := rfl
@[simp] theorem State.modLink_prog (s : State) (k : Nat) (f : LinkSt → LinkSt) : (s.modLink k f).prog = s.prog := rfl
@[simp] theorem State.modLink_ctx (s : State) (k : Nat) (f : LinkSt → LinkSt) : (s.modLink k f).ctx = s.ctx := rfl
@[simp] theorem State.modLink_scr (s : State) (k : Nat) (f : LinkSt → LinkSt) : (s.modLink k f).scr = s.scr := rfl
@[simp] theorem State.modLink_ents (s : State) (k : Nat) (f : LinkSt → LinkSt) : (s.modLink k f).ents = s.ents := rfl
@[simp] theorem State.modLink_binds (s : State) (k : Nat) (f : LinkSt → LinkSt) : (s.modLink k f).binds = s.binds := rfl
@[simp] theorem State.modLink_ecc (s : State) (k : Nat) (f : LinkSt → LinkSt) : (s.modLink k f).ecc = s.ecc := rfl
@[simp] theorem State.modLink_sch (s : State) (k : Nat) (f : LinkSt → LinkSt) : (s.modLink k f).sch = s.sch := rfl
@[simp] theorem State.modLink_fra (s : State) (k : Nat) (f : LinkSt → LinkSt) : (s.modLink k f).fra = s.fra := rfl
@[simp] theorem State.modLink_mint (s : State) (k : Nat) (f : LinkSt → LinkSt) : (s.modLink k f).mint = s.mint := rfl
@[simp] theorem State.modLink_bat (s : State) (k : Nat) (f : LinkSt → LinkSt) : (s.modLink k f).bat = s.bat := rfl
@[simp] theorem State.modLink_twn (s : State) (k : Nat) (f : LinkSt → LinkSt) : (s.modLink k f).twn = s.twn := rfl
@[simp] theorem State.modLink_ring (s : State) (k : Nat) (f : LinkSt → LinkSt) : (s.modLink k f).ring = s.ring := rfl
@[simp] theorem State.modLink_wave (s : State) (k : Nat) (f : LinkSt → LinkSt) : (s.modLink k f).wave = s.wave := rfl
@[simp] theorem State.modLink_itcm (s : State) (k : Nat) (f : LinkSt → LinkSt) : (s.modLink k f).itcm = s.itcm := rfl
@[simp] theorem State.modLink_dtcm (s : State) (k : Nat) (f : LinkSt → LinkSt) : (s.modLink k f).dtcm = s.dtcm := rfl
@[simp] theorem State.modLink_flash (s : State) (k : Nat) (f : LinkSt → LinkSt) : (s.modLink k f).flash = s.flash := rfl
@[simp] theorem State.modLink_mram (s : State) (k : Nat) (f : LinkSt → LinkSt) : (s.modLink k f).mram = s.mram := rfl
@[simp] theorem State.modLink_boot (s : State) (k : Nat) (f : LinkSt → LinkSt) : (s.modLink k f).boot = s.boot := rfl
@[simp] theorem State.modLink_vlt (s : State) (k : Nat) (f : LinkSt → LinkSt) : (s.modLink k f).vlt = s.vlt := rfl
@[simp] theorem State.modLink_twbs (s : State) (k : Nat) (f : LinkSt → LinkSt) : (s.modLink k f).twbs = s.twbs := rfl
@[simp] theorem State.modLink_twt (s : State) (k : Nat) (f : LinkSt → LinkSt) : (s.modLink k f).twt = s.twt := rfl
@[simp] theorem State.modLink_tmrs (s : State) (k : Nat) (f : LinkSt → LinkSt) : (s.modLink k f).tmrs = s.tmrs := rfl
@[simp] theorem State.modLink_hka (s : State) (k : Nat) (f : LinkSt → LinkSt) : (s.modLink k f).hka = s.hka := rfl
@[simp] theorem State.modLink_alerts (s : State) (k : Nat) (f : LinkSt → LinkSt) : (s.modLink k f).alerts = s.alerts := rfl
@[simp] theorem State.modLink_gpioBall (s : State) (k : Nat) (f : LinkSt → LinkSt) : (s.modLink k f).gpioBall = s.gpioBall := rfl
@[simp] theorem State.modLink_gpioFf1 (s : State) (k : Nat) (f : LinkSt → LinkSt) : (s.modLink k f).gpioFf1 = s.gpioFf1 := rfl
@[simp] theorem State.modLink_gpioFf2 (s : State) (k : Nat) (f : LinkSt → LinkSt) : (s.modLink k f).gpioFf2 = s.gpioFf2 := rfl
@[simp] theorem State.modLink_gpioRun (s : State) (k : Nat) (f : LinkSt → LinkSt) : (s.modLink k f).gpioRun = s.gpioRun := rfl
@[simp] theorem State.modLink_flashOpen (s : State) (k : Nat) (f : LinkSt → LinkSt) : (s.modLink k f).flashOpen = s.flashOpen := rfl
@[simp] theorem State.modLink_gpioSetAt (s : State) (k : Nat) (f : LinkSt → LinkSt) : (s.modLink k f).gpioSetAt = s.gpioSetAt := rfl
@[simp] theorem State.modLink_eth (s : State) (k : Nat) (f : LinkSt → LinkSt) : (s.modLink k f).eth = s.eth := rfl
@[simp] theorem State.modLink_xsp (s : State) (k : Nat) (f : LinkSt → LinkSt) : (s.modLink k f).xsp = s.xsp := rfl
@[simp] theorem State.modLink_hw (s : State) (k : Nat) (f : LinkSt → LinkSt) : (s.modLink k f).hw = s.hw := rfl
@[simp] theorem State.modLink_alarms (s : State) (k : Nat) (f : LinkSt → LinkSt) : (s.modLink k f).alarms = s.alarms := rfl
@[simp] theorem State.modLink_free (s : State) (k : Nat) (f : LinkSt → LinkSt) : (s.modLink k f).free = s.free := rfl
@[simp] theorem State.modLink_pending (s : State) (k : Nat) (f : LinkSt → LinkSt) : (s.modLink k f).pending = s.pending := rfl
@[simp] theorem State.modLink_word (s : State) (k : Nat) (f : LinkSt → LinkSt) (x : Nat) : (s.modLink k f).word x = s.word x := rfl
@[simp] theorem State.modLink_get (s : State) (k : Nat) (f : LinkSt → LinkSt) (x : Fld) : (s.modLink k f).get x = s.get x := rfl
@[simp] theorem State.modLink_bit (s : State) (k : Nat) (f : LinkSt → LinkSt) (x : Fld) : (s.modLink k f).bit x = s.bit x := rfl
@[simp] theorem State.modLink_comp (s : State) (k : Nat) (f : LinkSt → LinkSt) (x : Nat) : (s.modLink k f).comp x = s.comp x := rfl
@[simp] theorem State.modLink_round (s : State) (k : Nat) (f : LinkSt → LinkSt) (x : Nat) : (s.modLink k f).round x = s.round x := rfl
@[simp] theorem State.modLink_eng (s : State) (k : Nat) (f : LinkSt → LinkSt) (x : Nat) : (s.modLink k f).eng x = s.eng x := rfl

@[simp] theorem State.setComp_regs (s : State) (k : Nat) (c : Comp) : (s.setComp k c).regs = s.regs := rfl
@[simp] theorem State.setComp_member (s : State) (k : Nat) (c : Comp) : (s.setComp k c).member = s.member := rfl
@[simp] theorem State.setComp_clk (s : State) (k : Nat) (c : Comp) : (s.setComp k c).clk = s.clk := rfl
@[simp] theorem State.setComp_mrg (s : State) (k : Nat) (c : Comp) : (s.setComp k c).mrg = s.mrg := rfl
@[simp] theorem State.setComp_fcu (s : State) (k : Nat) (c : Comp) : (s.setComp k c).fcu = s.fcu := rfl
@[simp] theorem State.setComp_ldg (s : State) (k : Nat) (c : Comp) : (s.setComp k c).ldg = s.ldg := rfl
@[simp] theorem State.setComp_bus (s : State) (k : Nat) (c : Comp) : (s.setComp k c).bus = s.bus := rfl
@[simp] theorem State.setComp_cores (s : State) (k : Nat) (c : Comp) : (s.setComp k c).cores = s.cores := rfl
@[simp] theorem State.setComp_links (s : State) (k : Nat) (c : Comp) : (s.setComp k c).links = s.links := rfl
@[simp] theorem State.setComp_feeds (s : State) (k : Nat) (c : Comp) : (s.setComp k c).feeds = s.feeds := rfl
@[simp] theorem State.setComp_rounds (s : State) (k : Nat) (c : Comp) : (s.setComp k c).rounds = s.rounds := rfl
@[simp] theorem State.setComp_engs (s : State) (k : Nat) (c : Comp) : (s.setComp k c).engs = s.engs := rfl
@[simp] theorem State.setComp_prog (s : State) (k : Nat) (c : Comp) : (s.setComp k c).prog = s.prog := rfl
@[simp] theorem State.setComp_ctx (s : State) (k : Nat) (c : Comp) : (s.setComp k c).ctx = s.ctx := rfl
@[simp] theorem State.setComp_scr (s : State) (k : Nat) (c : Comp) : (s.setComp k c).scr = s.scr := rfl
@[simp] theorem State.setComp_ents (s : State) (k : Nat) (c : Comp) : (s.setComp k c).ents = s.ents := rfl
@[simp] theorem State.setComp_binds (s : State) (k : Nat) (c : Comp) : (s.setComp k c).binds = s.binds := rfl
@[simp] theorem State.setComp_ecc (s : State) (k : Nat) (c : Comp) : (s.setComp k c).ecc = s.ecc := rfl
@[simp] theorem State.setComp_sch (s : State) (k : Nat) (c : Comp) : (s.setComp k c).sch = s.sch := rfl
@[simp] theorem State.setComp_fra (s : State) (k : Nat) (c : Comp) : (s.setComp k c).fra = s.fra := rfl
@[simp] theorem State.setComp_mint (s : State) (k : Nat) (c : Comp) : (s.setComp k c).mint = s.mint := rfl
@[simp] theorem State.setComp_bat (s : State) (k : Nat) (c : Comp) : (s.setComp k c).bat = s.bat := rfl
@[simp] theorem State.setComp_twn (s : State) (k : Nat) (c : Comp) : (s.setComp k c).twn = s.twn := rfl
@[simp] theorem State.setComp_ring (s : State) (k : Nat) (c : Comp) : (s.setComp k c).ring = s.ring := rfl
@[simp] theorem State.setComp_wave (s : State) (k : Nat) (c : Comp) : (s.setComp k c).wave = s.wave := rfl
@[simp] theorem State.setComp_itcm (s : State) (k : Nat) (c : Comp) : (s.setComp k c).itcm = s.itcm := rfl
@[simp] theorem State.setComp_dtcm (s : State) (k : Nat) (c : Comp) : (s.setComp k c).dtcm = s.dtcm := rfl
@[simp] theorem State.setComp_flash (s : State) (k : Nat) (c : Comp) : (s.setComp k c).flash = s.flash := rfl
@[simp] theorem State.setComp_mram (s : State) (k : Nat) (c : Comp) : (s.setComp k c).mram = s.mram := rfl
@[simp] theorem State.setComp_boot (s : State) (k : Nat) (c : Comp) : (s.setComp k c).boot = s.boot := rfl
@[simp] theorem State.setComp_vlt (s : State) (k : Nat) (c : Comp) : (s.setComp k c).vlt = s.vlt := rfl
@[simp] theorem State.setComp_twbs (s : State) (k : Nat) (c : Comp) : (s.setComp k c).twbs = s.twbs := rfl
@[simp] theorem State.setComp_twt (s : State) (k : Nat) (c : Comp) : (s.setComp k c).twt = s.twt := rfl
@[simp] theorem State.setComp_tmrs (s : State) (k : Nat) (c : Comp) : (s.setComp k c).tmrs = s.tmrs := rfl
@[simp] theorem State.setComp_hka (s : State) (k : Nat) (c : Comp) : (s.setComp k c).hka = s.hka := rfl
@[simp] theorem State.setComp_alerts (s : State) (k : Nat) (c : Comp) : (s.setComp k c).alerts = s.alerts := rfl
@[simp] theorem State.setComp_gpioBall (s : State) (k : Nat) (c : Comp) : (s.setComp k c).gpioBall = s.gpioBall := rfl
@[simp] theorem State.setComp_gpioFf1 (s : State) (k : Nat) (c : Comp) : (s.setComp k c).gpioFf1 = s.gpioFf1 := rfl
@[simp] theorem State.setComp_gpioFf2 (s : State) (k : Nat) (c : Comp) : (s.setComp k c).gpioFf2 = s.gpioFf2 := rfl
@[simp] theorem State.setComp_gpioRun (s : State) (k : Nat) (c : Comp) : (s.setComp k c).gpioRun = s.gpioRun := rfl
@[simp] theorem State.setComp_flashOpen (s : State) (k : Nat) (c : Comp) : (s.setComp k c).flashOpen = s.flashOpen := rfl
@[simp] theorem State.setComp_gpioSetAt (s : State) (k : Nat) (c : Comp) : (s.setComp k c).gpioSetAt = s.gpioSetAt := rfl
@[simp] theorem State.setComp_eth (s : State) (k : Nat) (c : Comp) : (s.setComp k c).eth = s.eth := rfl
@[simp] theorem State.setComp_xsp (s : State) (k : Nat) (c : Comp) : (s.setComp k c).xsp = s.xsp := rfl
@[simp] theorem State.setComp_hw (s : State) (k : Nat) (c : Comp) : (s.setComp k c).hw = s.hw := rfl
@[simp] theorem State.setComp_alarms (s : State) (k : Nat) (c : Comp) : (s.setComp k c).alarms = s.alarms := rfl
@[simp] theorem State.setComp_free (s : State) (k : Nat) (c : Comp) : (s.setComp k c).free = s.free := rfl
@[simp] theorem State.setComp_pending (s : State) (k : Nat) (c : Comp) : (s.setComp k c).pending = s.pending := rfl
@[simp] theorem State.setComp_word (s : State) (k : Nat) (c : Comp) (x : Nat) : (s.setComp k c).word x = s.word x := rfl
@[simp] theorem State.setComp_get (s : State) (k : Nat) (c : Comp) (x : Fld) : (s.setComp k c).get x = s.get x := rfl
@[simp] theorem State.setComp_bit (s : State) (k : Nat) (c : Comp) (x : Fld) : (s.setComp k c).bit x = s.bit x := rfl
@[simp] theorem State.setComp_link (s : State) (k : Nat) (c : Comp) (x : Nat) : (s.setComp k c).link x = s.link x := rfl
@[simp] theorem State.setComp_round (s : State) (k : Nat) (c : Comp) (x : Nat) : (s.setComp k c).round x = s.round x := rfl
@[simp] theorem State.setComp_eng (s : State) (k : Nat) (c : Comp) (x : Nat) : (s.setComp k c).eng x = s.eng x := rfl

@[simp] theorem State.modComp_regs (s : State) (k : Nat) (f : Comp → Comp) : (s.modComp k f).regs = s.regs := rfl
@[simp] theorem State.modComp_member (s : State) (k : Nat) (f : Comp → Comp) : (s.modComp k f).member = s.member := rfl
@[simp] theorem State.modComp_clk (s : State) (k : Nat) (f : Comp → Comp) : (s.modComp k f).clk = s.clk := rfl
@[simp] theorem State.modComp_mrg (s : State) (k : Nat) (f : Comp → Comp) : (s.modComp k f).mrg = s.mrg := rfl
@[simp] theorem State.modComp_fcu (s : State) (k : Nat) (f : Comp → Comp) : (s.modComp k f).fcu = s.fcu := rfl
@[simp] theorem State.modComp_ldg (s : State) (k : Nat) (f : Comp → Comp) : (s.modComp k f).ldg = s.ldg := rfl
@[simp] theorem State.modComp_bus (s : State) (k : Nat) (f : Comp → Comp) : (s.modComp k f).bus = s.bus := rfl
@[simp] theorem State.modComp_cores (s : State) (k : Nat) (f : Comp → Comp) : (s.modComp k f).cores = s.cores := rfl
@[simp] theorem State.modComp_links (s : State) (k : Nat) (f : Comp → Comp) : (s.modComp k f).links = s.links := rfl
@[simp] theorem State.modComp_feeds (s : State) (k : Nat) (f : Comp → Comp) : (s.modComp k f).feeds = s.feeds := rfl
@[simp] theorem State.modComp_rounds (s : State) (k : Nat) (f : Comp → Comp) : (s.modComp k f).rounds = s.rounds := rfl
@[simp] theorem State.modComp_engs (s : State) (k : Nat) (f : Comp → Comp) : (s.modComp k f).engs = s.engs := rfl
@[simp] theorem State.modComp_prog (s : State) (k : Nat) (f : Comp → Comp) : (s.modComp k f).prog = s.prog := rfl
@[simp] theorem State.modComp_ctx (s : State) (k : Nat) (f : Comp → Comp) : (s.modComp k f).ctx = s.ctx := rfl
@[simp] theorem State.modComp_scr (s : State) (k : Nat) (f : Comp → Comp) : (s.modComp k f).scr = s.scr := rfl
@[simp] theorem State.modComp_ents (s : State) (k : Nat) (f : Comp → Comp) : (s.modComp k f).ents = s.ents := rfl
@[simp] theorem State.modComp_binds (s : State) (k : Nat) (f : Comp → Comp) : (s.modComp k f).binds = s.binds := rfl
@[simp] theorem State.modComp_ecc (s : State) (k : Nat) (f : Comp → Comp) : (s.modComp k f).ecc = s.ecc := rfl
@[simp] theorem State.modComp_sch (s : State) (k : Nat) (f : Comp → Comp) : (s.modComp k f).sch = s.sch := rfl
@[simp] theorem State.modComp_fra (s : State) (k : Nat) (f : Comp → Comp) : (s.modComp k f).fra = s.fra := rfl
@[simp] theorem State.modComp_mint (s : State) (k : Nat) (f : Comp → Comp) : (s.modComp k f).mint = s.mint := rfl
@[simp] theorem State.modComp_bat (s : State) (k : Nat) (f : Comp → Comp) : (s.modComp k f).bat = s.bat := rfl
@[simp] theorem State.modComp_twn (s : State) (k : Nat) (f : Comp → Comp) : (s.modComp k f).twn = s.twn := rfl
@[simp] theorem State.modComp_ring (s : State) (k : Nat) (f : Comp → Comp) : (s.modComp k f).ring = s.ring := rfl
@[simp] theorem State.modComp_wave (s : State) (k : Nat) (f : Comp → Comp) : (s.modComp k f).wave = s.wave := rfl
@[simp] theorem State.modComp_itcm (s : State) (k : Nat) (f : Comp → Comp) : (s.modComp k f).itcm = s.itcm := rfl
@[simp] theorem State.modComp_dtcm (s : State) (k : Nat) (f : Comp → Comp) : (s.modComp k f).dtcm = s.dtcm := rfl
@[simp] theorem State.modComp_flash (s : State) (k : Nat) (f : Comp → Comp) : (s.modComp k f).flash = s.flash := rfl
@[simp] theorem State.modComp_mram (s : State) (k : Nat) (f : Comp → Comp) : (s.modComp k f).mram = s.mram := rfl
@[simp] theorem State.modComp_boot (s : State) (k : Nat) (f : Comp → Comp) : (s.modComp k f).boot = s.boot := rfl
@[simp] theorem State.modComp_vlt (s : State) (k : Nat) (f : Comp → Comp) : (s.modComp k f).vlt = s.vlt := rfl
@[simp] theorem State.modComp_twbs (s : State) (k : Nat) (f : Comp → Comp) : (s.modComp k f).twbs = s.twbs := rfl
@[simp] theorem State.modComp_twt (s : State) (k : Nat) (f : Comp → Comp) : (s.modComp k f).twt = s.twt := rfl
@[simp] theorem State.modComp_tmrs (s : State) (k : Nat) (f : Comp → Comp) : (s.modComp k f).tmrs = s.tmrs := rfl
@[simp] theorem State.modComp_hka (s : State) (k : Nat) (f : Comp → Comp) : (s.modComp k f).hka = s.hka := rfl
@[simp] theorem State.modComp_alerts (s : State) (k : Nat) (f : Comp → Comp) : (s.modComp k f).alerts = s.alerts := rfl
@[simp] theorem State.modComp_gpioBall (s : State) (k : Nat) (f : Comp → Comp) : (s.modComp k f).gpioBall = s.gpioBall := rfl
@[simp] theorem State.modComp_gpioFf1 (s : State) (k : Nat) (f : Comp → Comp) : (s.modComp k f).gpioFf1 = s.gpioFf1 := rfl
@[simp] theorem State.modComp_gpioFf2 (s : State) (k : Nat) (f : Comp → Comp) : (s.modComp k f).gpioFf2 = s.gpioFf2 := rfl
@[simp] theorem State.modComp_gpioRun (s : State) (k : Nat) (f : Comp → Comp) : (s.modComp k f).gpioRun = s.gpioRun := rfl
@[simp] theorem State.modComp_flashOpen (s : State) (k : Nat) (f : Comp → Comp) : (s.modComp k f).flashOpen = s.flashOpen := rfl
@[simp] theorem State.modComp_gpioSetAt (s : State) (k : Nat) (f : Comp → Comp) : (s.modComp k f).gpioSetAt = s.gpioSetAt := rfl
@[simp] theorem State.modComp_eth (s : State) (k : Nat) (f : Comp → Comp) : (s.modComp k f).eth = s.eth := rfl
@[simp] theorem State.modComp_xsp (s : State) (k : Nat) (f : Comp → Comp) : (s.modComp k f).xsp = s.xsp := rfl
@[simp] theorem State.modComp_hw (s : State) (k : Nat) (f : Comp → Comp) : (s.modComp k f).hw = s.hw := rfl
@[simp] theorem State.modComp_alarms (s : State) (k : Nat) (f : Comp → Comp) : (s.modComp k f).alarms = s.alarms := rfl
@[simp] theorem State.modComp_free (s : State) (k : Nat) (f : Comp → Comp) : (s.modComp k f).free = s.free := rfl
@[simp] theorem State.modComp_pending (s : State) (k : Nat) (f : Comp → Comp) : (s.modComp k f).pending = s.pending := rfl
@[simp] theorem State.modComp_word (s : State) (k : Nat) (f : Comp → Comp) (x : Nat) : (s.modComp k f).word x = s.word x := rfl
@[simp] theorem State.modComp_get (s : State) (k : Nat) (f : Comp → Comp) (x : Fld) : (s.modComp k f).get x = s.get x := rfl
@[simp] theorem State.modComp_bit (s : State) (k : Nat) (f : Comp → Comp) (x : Fld) : (s.modComp k f).bit x = s.bit x := rfl
@[simp] theorem State.modComp_link (s : State) (k : Nat) (f : Comp → Comp) (x : Nat) : (s.modComp k f).link x = s.link x := rfl
@[simp] theorem State.modComp_round (s : State) (k : Nat) (f : Comp → Comp) (x : Nat) : (s.modComp k f).round x = s.round x := rfl
@[simp] theorem State.modComp_eng (s : State) (k : Nat) (f : Comp → Comp) (x : Nat) : (s.modComp k f).eng x = s.eng x := rfl

@[simp] theorem State.setRound_regs (s : State) (n : Nat) (r : Round) : (s.setRound n r).regs = s.regs := rfl
@[simp] theorem State.setRound_member (s : State) (n : Nat) (r : Round) : (s.setRound n r).member = s.member := rfl
@[simp] theorem State.setRound_clk (s : State) (n : Nat) (r : Round) : (s.setRound n r).clk = s.clk := rfl
@[simp] theorem State.setRound_mrg (s : State) (n : Nat) (r : Round) : (s.setRound n r).mrg = s.mrg := rfl
@[simp] theorem State.setRound_fcu (s : State) (n : Nat) (r : Round) : (s.setRound n r).fcu = s.fcu := rfl
@[simp] theorem State.setRound_ldg (s : State) (n : Nat) (r : Round) : (s.setRound n r).ldg = s.ldg := rfl
@[simp] theorem State.setRound_bus (s : State) (n : Nat) (r : Round) : (s.setRound n r).bus = s.bus := rfl
@[simp] theorem State.setRound_cores (s : State) (n : Nat) (r : Round) : (s.setRound n r).cores = s.cores := rfl
@[simp] theorem State.setRound_links (s : State) (n : Nat) (r : Round) : (s.setRound n r).links = s.links := rfl
@[simp] theorem State.setRound_feeds (s : State) (n : Nat) (r : Round) : (s.setRound n r).feeds = s.feeds := rfl
@[simp] theorem State.setRound_comps (s : State) (n : Nat) (r : Round) : (s.setRound n r).comps = s.comps := rfl
@[simp] theorem State.setRound_engs (s : State) (n : Nat) (r : Round) : (s.setRound n r).engs = s.engs := rfl
@[simp] theorem State.setRound_prog (s : State) (n : Nat) (r : Round) : (s.setRound n r).prog = s.prog := rfl
@[simp] theorem State.setRound_ctx (s : State) (n : Nat) (r : Round) : (s.setRound n r).ctx = s.ctx := rfl
@[simp] theorem State.setRound_scr (s : State) (n : Nat) (r : Round) : (s.setRound n r).scr = s.scr := rfl
@[simp] theorem State.setRound_ents (s : State) (n : Nat) (r : Round) : (s.setRound n r).ents = s.ents := rfl
@[simp] theorem State.setRound_binds (s : State) (n : Nat) (r : Round) : (s.setRound n r).binds = s.binds := rfl
@[simp] theorem State.setRound_ecc (s : State) (n : Nat) (r : Round) : (s.setRound n r).ecc = s.ecc := rfl
@[simp] theorem State.setRound_sch (s : State) (n : Nat) (r : Round) : (s.setRound n r).sch = s.sch := rfl
@[simp] theorem State.setRound_fra (s : State) (n : Nat) (r : Round) : (s.setRound n r).fra = s.fra := rfl
@[simp] theorem State.setRound_mint (s : State) (n : Nat) (r : Round) : (s.setRound n r).mint = s.mint := rfl
@[simp] theorem State.setRound_bat (s : State) (n : Nat) (r : Round) : (s.setRound n r).bat = s.bat := rfl
@[simp] theorem State.setRound_twn (s : State) (n : Nat) (r : Round) : (s.setRound n r).twn = s.twn := rfl
@[simp] theorem State.setRound_ring (s : State) (n : Nat) (r : Round) : (s.setRound n r).ring = s.ring := rfl
@[simp] theorem State.setRound_wave (s : State) (n : Nat) (r : Round) : (s.setRound n r).wave = s.wave := rfl
@[simp] theorem State.setRound_itcm (s : State) (n : Nat) (r : Round) : (s.setRound n r).itcm = s.itcm := rfl
@[simp] theorem State.setRound_dtcm (s : State) (n : Nat) (r : Round) : (s.setRound n r).dtcm = s.dtcm := rfl
@[simp] theorem State.setRound_flash (s : State) (n : Nat) (r : Round) : (s.setRound n r).flash = s.flash := rfl
@[simp] theorem State.setRound_mram (s : State) (n : Nat) (r : Round) : (s.setRound n r).mram = s.mram := rfl
@[simp] theorem State.setRound_boot (s : State) (n : Nat) (r : Round) : (s.setRound n r).boot = s.boot := rfl
@[simp] theorem State.setRound_vlt (s : State) (n : Nat) (r : Round) : (s.setRound n r).vlt = s.vlt := rfl
@[simp] theorem State.setRound_twbs (s : State) (n : Nat) (r : Round) : (s.setRound n r).twbs = s.twbs := rfl
@[simp] theorem State.setRound_twt (s : State) (n : Nat) (r : Round) : (s.setRound n r).twt = s.twt := rfl
@[simp] theorem State.setRound_tmrs (s : State) (n : Nat) (r : Round) : (s.setRound n r).tmrs = s.tmrs := rfl
@[simp] theorem State.setRound_hka (s : State) (n : Nat) (r : Round) : (s.setRound n r).hka = s.hka := rfl
@[simp] theorem State.setRound_alerts (s : State) (n : Nat) (r : Round) : (s.setRound n r).alerts = s.alerts := rfl
@[simp] theorem State.setRound_gpioBall (s : State) (n : Nat) (r : Round) : (s.setRound n r).gpioBall = s.gpioBall := rfl
@[simp] theorem State.setRound_gpioFf1 (s : State) (n : Nat) (r : Round) : (s.setRound n r).gpioFf1 = s.gpioFf1 := rfl
@[simp] theorem State.setRound_gpioFf2 (s : State) (n : Nat) (r : Round) : (s.setRound n r).gpioFf2 = s.gpioFf2 := rfl
@[simp] theorem State.setRound_gpioRun (s : State) (n : Nat) (r : Round) : (s.setRound n r).gpioRun = s.gpioRun := rfl
@[simp] theorem State.setRound_flashOpen (s : State) (n : Nat) (r : Round) : (s.setRound n r).flashOpen = s.flashOpen := rfl
@[simp] theorem State.setRound_gpioSetAt (s : State) (n : Nat) (r : Round) : (s.setRound n r).gpioSetAt = s.gpioSetAt := rfl
@[simp] theorem State.setRound_eth (s : State) (n : Nat) (r : Round) : (s.setRound n r).eth = s.eth := rfl
@[simp] theorem State.setRound_xsp (s : State) (n : Nat) (r : Round) : (s.setRound n r).xsp = s.xsp := rfl
@[simp] theorem State.setRound_hw (s : State) (n : Nat) (r : Round) : (s.setRound n r).hw = s.hw := rfl
@[simp] theorem State.setRound_alarms (s : State) (n : Nat) (r : Round) : (s.setRound n r).alarms = s.alarms := rfl
@[simp] theorem State.setRound_free (s : State) (n : Nat) (r : Round) : (s.setRound n r).free = s.free := rfl
@[simp] theorem State.setRound_pending (s : State) (n : Nat) (r : Round) : (s.setRound n r).pending = s.pending := rfl
@[simp] theorem State.setRound_word (s : State) (n : Nat) (r : Round) (x : Nat) : (s.setRound n r).word x = s.word x := rfl
@[simp] theorem State.setRound_get (s : State) (n : Nat) (r : Round) (x : Fld) : (s.setRound n r).get x = s.get x := rfl
@[simp] theorem State.setRound_bit (s : State) (n : Nat) (r : Round) (x : Fld) : (s.setRound n r).bit x = s.bit x := rfl
@[simp] theorem State.setRound_link (s : State) (n : Nat) (r : Round) (x : Nat) : (s.setRound n r).link x = s.link x := rfl
@[simp] theorem State.setRound_comp (s : State) (n : Nat) (r : Round) (x : Nat) : (s.setRound n r).comp x = s.comp x := rfl
@[simp] theorem State.setRound_eng (s : State) (n : Nat) (r : Round) (x : Nat) : (s.setRound n r).eng x = s.eng x := rfl

@[simp] theorem State.setEng_regs (s : State) (n : Nat) (e : Eng) : (s.setEng n e).regs = s.regs := rfl
@[simp] theorem State.setEng_member (s : State) (n : Nat) (e : Eng) : (s.setEng n e).member = s.member := rfl
@[simp] theorem State.setEng_clk (s : State) (n : Nat) (e : Eng) : (s.setEng n e).clk = s.clk := rfl
@[simp] theorem State.setEng_mrg (s : State) (n : Nat) (e : Eng) : (s.setEng n e).mrg = s.mrg := rfl
@[simp] theorem State.setEng_fcu (s : State) (n : Nat) (e : Eng) : (s.setEng n e).fcu = s.fcu := rfl
@[simp] theorem State.setEng_ldg (s : State) (n : Nat) (e : Eng) : (s.setEng n e).ldg = s.ldg := rfl
@[simp] theorem State.setEng_bus (s : State) (n : Nat) (e : Eng) : (s.setEng n e).bus = s.bus := rfl
@[simp] theorem State.setEng_cores (s : State) (n : Nat) (e : Eng) : (s.setEng n e).cores = s.cores := rfl
@[simp] theorem State.setEng_links (s : State) (n : Nat) (e : Eng) : (s.setEng n e).links = s.links := rfl
@[simp] theorem State.setEng_feeds (s : State) (n : Nat) (e : Eng) : (s.setEng n e).feeds = s.feeds := rfl
@[simp] theorem State.setEng_comps (s : State) (n : Nat) (e : Eng) : (s.setEng n e).comps = s.comps := rfl
@[simp] theorem State.setEng_rounds (s : State) (n : Nat) (e : Eng) : (s.setEng n e).rounds = s.rounds := rfl
@[simp] theorem State.setEng_prog (s : State) (n : Nat) (e : Eng) : (s.setEng n e).prog = s.prog := rfl
@[simp] theorem State.setEng_ctx (s : State) (n : Nat) (e : Eng) : (s.setEng n e).ctx = s.ctx := rfl
@[simp] theorem State.setEng_scr (s : State) (n : Nat) (e : Eng) : (s.setEng n e).scr = s.scr := rfl
@[simp] theorem State.setEng_ents (s : State) (n : Nat) (e : Eng) : (s.setEng n e).ents = s.ents := rfl
@[simp] theorem State.setEng_binds (s : State) (n : Nat) (e : Eng) : (s.setEng n e).binds = s.binds := rfl
@[simp] theorem State.setEng_ecc (s : State) (n : Nat) (e : Eng) : (s.setEng n e).ecc = s.ecc := rfl
@[simp] theorem State.setEng_sch (s : State) (n : Nat) (e : Eng) : (s.setEng n e).sch = s.sch := rfl
@[simp] theorem State.setEng_fra (s : State) (n : Nat) (e : Eng) : (s.setEng n e).fra = s.fra := rfl
@[simp] theorem State.setEng_mint (s : State) (n : Nat) (e : Eng) : (s.setEng n e).mint = s.mint := rfl
@[simp] theorem State.setEng_bat (s : State) (n : Nat) (e : Eng) : (s.setEng n e).bat = s.bat := rfl
@[simp] theorem State.setEng_twn (s : State) (n : Nat) (e : Eng) : (s.setEng n e).twn = s.twn := rfl
@[simp] theorem State.setEng_ring (s : State) (n : Nat) (e : Eng) : (s.setEng n e).ring = s.ring := rfl
@[simp] theorem State.setEng_wave (s : State) (n : Nat) (e : Eng) : (s.setEng n e).wave = s.wave := rfl
@[simp] theorem State.setEng_itcm (s : State) (n : Nat) (e : Eng) : (s.setEng n e).itcm = s.itcm := rfl
@[simp] theorem State.setEng_dtcm (s : State) (n : Nat) (e : Eng) : (s.setEng n e).dtcm = s.dtcm := rfl
@[simp] theorem State.setEng_flash (s : State) (n : Nat) (e : Eng) : (s.setEng n e).flash = s.flash := rfl
@[simp] theorem State.setEng_mram (s : State) (n : Nat) (e : Eng) : (s.setEng n e).mram = s.mram := rfl
@[simp] theorem State.setEng_boot (s : State) (n : Nat) (e : Eng) : (s.setEng n e).boot = s.boot := rfl
@[simp] theorem State.setEng_vlt (s : State) (n : Nat) (e : Eng) : (s.setEng n e).vlt = s.vlt := rfl
@[simp] theorem State.setEng_twbs (s : State) (n : Nat) (e : Eng) : (s.setEng n e).twbs = s.twbs := rfl
@[simp] theorem State.setEng_twt (s : State) (n : Nat) (e : Eng) : (s.setEng n e).twt = s.twt := rfl
@[simp] theorem State.setEng_tmrs (s : State) (n : Nat) (e : Eng) : (s.setEng n e).tmrs = s.tmrs := rfl
@[simp] theorem State.setEng_hka (s : State) (n : Nat) (e : Eng) : (s.setEng n e).hka = s.hka := rfl
@[simp] theorem State.setEng_alerts (s : State) (n : Nat) (e : Eng) : (s.setEng n e).alerts = s.alerts := rfl
@[simp] theorem State.setEng_gpioBall (s : State) (n : Nat) (e : Eng) : (s.setEng n e).gpioBall = s.gpioBall := rfl
@[simp] theorem State.setEng_gpioFf1 (s : State) (n : Nat) (e : Eng) : (s.setEng n e).gpioFf1 = s.gpioFf1 := rfl
@[simp] theorem State.setEng_gpioFf2 (s : State) (n : Nat) (e : Eng) : (s.setEng n e).gpioFf2 = s.gpioFf2 := rfl
@[simp] theorem State.setEng_gpioRun (s : State) (n : Nat) (e : Eng) : (s.setEng n e).gpioRun = s.gpioRun := rfl
@[simp] theorem State.setEng_flashOpen (s : State) (n : Nat) (e : Eng) : (s.setEng n e).flashOpen = s.flashOpen := rfl
@[simp] theorem State.setEng_gpioSetAt (s : State) (n : Nat) (e : Eng) : (s.setEng n e).gpioSetAt = s.gpioSetAt := rfl
@[simp] theorem State.setEng_eth (s : State) (n : Nat) (e : Eng) : (s.setEng n e).eth = s.eth := rfl
@[simp] theorem State.setEng_xsp (s : State) (n : Nat) (e : Eng) : (s.setEng n e).xsp = s.xsp := rfl
@[simp] theorem State.setEng_hw (s : State) (n : Nat) (e : Eng) : (s.setEng n e).hw = s.hw := rfl
@[simp] theorem State.setEng_alarms (s : State) (n : Nat) (e : Eng) : (s.setEng n e).alarms = s.alarms := rfl
@[simp] theorem State.setEng_free (s : State) (n : Nat) (e : Eng) : (s.setEng n e).free = s.free := rfl
@[simp] theorem State.setEng_pending (s : State) (n : Nat) (e : Eng) : (s.setEng n e).pending = s.pending := rfl
@[simp] theorem State.setEng_word (s : State) (n : Nat) (e : Eng) (x : Nat) : (s.setEng n e).word x = s.word x := rfl
@[simp] theorem State.setEng_get (s : State) (n : Nat) (e : Eng) (x : Fld) : (s.setEng n e).get x = s.get x := rfl
@[simp] theorem State.setEng_bit (s : State) (n : Nat) (e : Eng) (x : Fld) : (s.setEng n e).bit x = s.bit x := rfl
@[simp] theorem State.setEng_link (s : State) (n : Nat) (e : Eng) (x : Nat) : (s.setEng n e).link x = s.link x := rfl
@[simp] theorem State.setEng_comp (s : State) (n : Nat) (e : Eng) (x : Nat) : (s.setEng n e).comp x = s.comp x := rfl
@[simp] theorem State.setEng_round (s : State) (n : Nat) (e : Eng) (x : Nat) : (s.setEng n e).round x = s.round x := rfl

@[simp] theorem State.modEng_regs (s : State) (n : Nat) (f : Eng → Eng) : (s.modEng n f).regs = s.regs := rfl
@[simp] theorem State.modEng_member (s : State) (n : Nat) (f : Eng → Eng) : (s.modEng n f).member = s.member := rfl
@[simp] theorem State.modEng_clk (s : State) (n : Nat) (f : Eng → Eng) : (s.modEng n f).clk = s.clk := rfl
@[simp] theorem State.modEng_mrg (s : State) (n : Nat) (f : Eng → Eng) : (s.modEng n f).mrg = s.mrg := rfl
@[simp] theorem State.modEng_fcu (s : State) (n : Nat) (f : Eng → Eng) : (s.modEng n f).fcu = s.fcu := rfl
@[simp] theorem State.modEng_ldg (s : State) (n : Nat) (f : Eng → Eng) : (s.modEng n f).ldg = s.ldg := rfl
@[simp] theorem State.modEng_bus (s : State) (n : Nat) (f : Eng → Eng) : (s.modEng n f).bus = s.bus := rfl
@[simp] theorem State.modEng_cores (s : State) (n : Nat) (f : Eng → Eng) : (s.modEng n f).cores = s.cores := rfl
@[simp] theorem State.modEng_links (s : State) (n : Nat) (f : Eng → Eng) : (s.modEng n f).links = s.links := rfl
@[simp] theorem State.modEng_feeds (s : State) (n : Nat) (f : Eng → Eng) : (s.modEng n f).feeds = s.feeds := rfl
@[simp] theorem State.modEng_comps (s : State) (n : Nat) (f : Eng → Eng) : (s.modEng n f).comps = s.comps := rfl
@[simp] theorem State.modEng_rounds (s : State) (n : Nat) (f : Eng → Eng) : (s.modEng n f).rounds = s.rounds := rfl
@[simp] theorem State.modEng_prog (s : State) (n : Nat) (f : Eng → Eng) : (s.modEng n f).prog = s.prog := rfl
@[simp] theorem State.modEng_ctx (s : State) (n : Nat) (f : Eng → Eng) : (s.modEng n f).ctx = s.ctx := rfl
@[simp] theorem State.modEng_scr (s : State) (n : Nat) (f : Eng → Eng) : (s.modEng n f).scr = s.scr := rfl
@[simp] theorem State.modEng_ents (s : State) (n : Nat) (f : Eng → Eng) : (s.modEng n f).ents = s.ents := rfl
@[simp] theorem State.modEng_binds (s : State) (n : Nat) (f : Eng → Eng) : (s.modEng n f).binds = s.binds := rfl
@[simp] theorem State.modEng_ecc (s : State) (n : Nat) (f : Eng → Eng) : (s.modEng n f).ecc = s.ecc := rfl
@[simp] theorem State.modEng_sch (s : State) (n : Nat) (f : Eng → Eng) : (s.modEng n f).sch = s.sch := rfl
@[simp] theorem State.modEng_fra (s : State) (n : Nat) (f : Eng → Eng) : (s.modEng n f).fra = s.fra := rfl
@[simp] theorem State.modEng_mint (s : State) (n : Nat) (f : Eng → Eng) : (s.modEng n f).mint = s.mint := rfl
@[simp] theorem State.modEng_bat (s : State) (n : Nat) (f : Eng → Eng) : (s.modEng n f).bat = s.bat := rfl
@[simp] theorem State.modEng_twn (s : State) (n : Nat) (f : Eng → Eng) : (s.modEng n f).twn = s.twn := rfl
@[simp] theorem State.modEng_ring (s : State) (n : Nat) (f : Eng → Eng) : (s.modEng n f).ring = s.ring := rfl
@[simp] theorem State.modEng_wave (s : State) (n : Nat) (f : Eng → Eng) : (s.modEng n f).wave = s.wave := rfl
@[simp] theorem State.modEng_itcm (s : State) (n : Nat) (f : Eng → Eng) : (s.modEng n f).itcm = s.itcm := rfl
@[simp] theorem State.modEng_dtcm (s : State) (n : Nat) (f : Eng → Eng) : (s.modEng n f).dtcm = s.dtcm := rfl
@[simp] theorem State.modEng_flash (s : State) (n : Nat) (f : Eng → Eng) : (s.modEng n f).flash = s.flash := rfl
@[simp] theorem State.modEng_mram (s : State) (n : Nat) (f : Eng → Eng) : (s.modEng n f).mram = s.mram := rfl
@[simp] theorem State.modEng_boot (s : State) (n : Nat) (f : Eng → Eng) : (s.modEng n f).boot = s.boot := rfl
@[simp] theorem State.modEng_vlt (s : State) (n : Nat) (f : Eng → Eng) : (s.modEng n f).vlt = s.vlt := rfl
@[simp] theorem State.modEng_twbs (s : State) (n : Nat) (f : Eng → Eng) : (s.modEng n f).twbs = s.twbs := rfl
@[simp] theorem State.modEng_twt (s : State) (n : Nat) (f : Eng → Eng) : (s.modEng n f).twt = s.twt := rfl
@[simp] theorem State.modEng_tmrs (s : State) (n : Nat) (f : Eng → Eng) : (s.modEng n f).tmrs = s.tmrs := rfl
@[simp] theorem State.modEng_hka (s : State) (n : Nat) (f : Eng → Eng) : (s.modEng n f).hka = s.hka := rfl
@[simp] theorem State.modEng_alerts (s : State) (n : Nat) (f : Eng → Eng) : (s.modEng n f).alerts = s.alerts := rfl
@[simp] theorem State.modEng_gpioBall (s : State) (n : Nat) (f : Eng → Eng) : (s.modEng n f).gpioBall = s.gpioBall := rfl
@[simp] theorem State.modEng_gpioFf1 (s : State) (n : Nat) (f : Eng → Eng) : (s.modEng n f).gpioFf1 = s.gpioFf1 := rfl
@[simp] theorem State.modEng_gpioFf2 (s : State) (n : Nat) (f : Eng → Eng) : (s.modEng n f).gpioFf2 = s.gpioFf2 := rfl
@[simp] theorem State.modEng_gpioRun (s : State) (n : Nat) (f : Eng → Eng) : (s.modEng n f).gpioRun = s.gpioRun := rfl
@[simp] theorem State.modEng_flashOpen (s : State) (n : Nat) (f : Eng → Eng) : (s.modEng n f).flashOpen = s.flashOpen := rfl
@[simp] theorem State.modEng_gpioSetAt (s : State) (n : Nat) (f : Eng → Eng) : (s.modEng n f).gpioSetAt = s.gpioSetAt := rfl
@[simp] theorem State.modEng_eth (s : State) (n : Nat) (f : Eng → Eng) : (s.modEng n f).eth = s.eth := rfl
@[simp] theorem State.modEng_xsp (s : State) (n : Nat) (f : Eng → Eng) : (s.modEng n f).xsp = s.xsp := rfl
@[simp] theorem State.modEng_hw (s : State) (n : Nat) (f : Eng → Eng) : (s.modEng n f).hw = s.hw := rfl
@[simp] theorem State.modEng_alarms (s : State) (n : Nat) (f : Eng → Eng) : (s.modEng n f).alarms = s.alarms := rfl
@[simp] theorem State.modEng_free (s : State) (n : Nat) (f : Eng → Eng) : (s.modEng n f).free = s.free := rfl
@[simp] theorem State.modEng_pending (s : State) (n : Nat) (f : Eng → Eng) : (s.modEng n f).pending = s.pending := rfl
@[simp] theorem State.modEng_word (s : State) (n : Nat) (f : Eng → Eng) (x : Nat) : (s.modEng n f).word x = s.word x := rfl
@[simp] theorem State.modEng_get (s : State) (n : Nat) (f : Eng → Eng) (x : Fld) : (s.modEng n f).get x = s.get x := rfl
@[simp] theorem State.modEng_bit (s : State) (n : Nat) (f : Eng → Eng) (x : Fld) : (s.modEng n f).bit x = s.bit x := rfl
@[simp] theorem State.modEng_link (s : State) (n : Nat) (f : Eng → Eng) (x : Nat) : (s.modEng n f).link x = s.link x := rfl
@[simp] theorem State.modEng_comp (s : State) (n : Nat) (f : Eng → Eng) (x : Nat) : (s.modEng n f).comp x = s.comp x := rfl
@[simp] theorem State.modEng_round (s : State) (n : Nat) (f : Eng → Eng) (x : Nat) : (s.modEng n f).round x = s.round x := rfl

@[simp] theorem State.arm_regs (s : State) (d : Nat) (i : Instr) : (s.arm d i).regs = s.regs := rfl
@[simp] theorem State.arm_member (s : State) (d : Nat) (i : Instr) : (s.arm d i).member = s.member := rfl
@[simp] theorem State.arm_clk (s : State) (d : Nat) (i : Instr) : (s.arm d i).clk = s.clk := rfl
@[simp] theorem State.arm_mrg (s : State) (d : Nat) (i : Instr) : (s.arm d i).mrg = s.mrg := rfl
@[simp] theorem State.arm_fcu (s : State) (d : Nat) (i : Instr) : (s.arm d i).fcu = s.fcu := rfl
@[simp] theorem State.arm_ldg (s : State) (d : Nat) (i : Instr) : (s.arm d i).ldg = s.ldg := rfl
@[simp] theorem State.arm_bus (s : State) (d : Nat) (i : Instr) : (s.arm d i).bus = s.bus := rfl
@[simp] theorem State.arm_cores (s : State) (d : Nat) (i : Instr) : (s.arm d i).cores = s.cores := rfl
@[simp] theorem State.arm_links (s : State) (d : Nat) (i : Instr) : (s.arm d i).links = s.links := rfl
@[simp] theorem State.arm_feeds (s : State) (d : Nat) (i : Instr) : (s.arm d i).feeds = s.feeds := rfl
@[simp] theorem State.arm_comps (s : State) (d : Nat) (i : Instr) : (s.arm d i).comps = s.comps := rfl
@[simp] theorem State.arm_rounds (s : State) (d : Nat) (i : Instr) : (s.arm d i).rounds = s.rounds := rfl
@[simp] theorem State.arm_engs (s : State) (d : Nat) (i : Instr) : (s.arm d i).engs = s.engs := rfl
@[simp] theorem State.arm_prog (s : State) (d : Nat) (i : Instr) : (s.arm d i).prog = s.prog := rfl
@[simp] theorem State.arm_ctx (s : State) (d : Nat) (i : Instr) : (s.arm d i).ctx = s.ctx := rfl
@[simp] theorem State.arm_scr (s : State) (d : Nat) (i : Instr) : (s.arm d i).scr = s.scr := rfl
@[simp] theorem State.arm_ents (s : State) (d : Nat) (i : Instr) : (s.arm d i).ents = s.ents := rfl
@[simp] theorem State.arm_binds (s : State) (d : Nat) (i : Instr) : (s.arm d i).binds = s.binds := rfl
@[simp] theorem State.arm_ecc (s : State) (d : Nat) (i : Instr) : (s.arm d i).ecc = s.ecc := rfl
@[simp] theorem State.arm_sch (s : State) (d : Nat) (i : Instr) : (s.arm d i).sch = s.sch := rfl
@[simp] theorem State.arm_fra (s : State) (d : Nat) (i : Instr) : (s.arm d i).fra = s.fra := rfl
@[simp] theorem State.arm_mint (s : State) (d : Nat) (i : Instr) : (s.arm d i).mint = s.mint := rfl
@[simp] theorem State.arm_bat (s : State) (d : Nat) (i : Instr) : (s.arm d i).bat = s.bat := rfl
@[simp] theorem State.arm_twn (s : State) (d : Nat) (i : Instr) : (s.arm d i).twn = s.twn := rfl
@[simp] theorem State.arm_ring (s : State) (d : Nat) (i : Instr) : (s.arm d i).ring = s.ring := rfl
@[simp] theorem State.arm_wave (s : State) (d : Nat) (i : Instr) : (s.arm d i).wave = s.wave := rfl
@[simp] theorem State.arm_itcm (s : State) (d : Nat) (i : Instr) : (s.arm d i).itcm = s.itcm := rfl
@[simp] theorem State.arm_dtcm (s : State) (d : Nat) (i : Instr) : (s.arm d i).dtcm = s.dtcm := rfl
@[simp] theorem State.arm_flash (s : State) (d : Nat) (i : Instr) : (s.arm d i).flash = s.flash := rfl
@[simp] theorem State.arm_mram (s : State) (d : Nat) (i : Instr) : (s.arm d i).mram = s.mram := rfl
@[simp] theorem State.arm_boot (s : State) (d : Nat) (i : Instr) : (s.arm d i).boot = s.boot := rfl
@[simp] theorem State.arm_vlt (s : State) (d : Nat) (i : Instr) : (s.arm d i).vlt = s.vlt := rfl
@[simp] theorem State.arm_twbs (s : State) (d : Nat) (i : Instr) : (s.arm d i).twbs = s.twbs := rfl
@[simp] theorem State.arm_twt (s : State) (d : Nat) (i : Instr) : (s.arm d i).twt = s.twt := rfl
@[simp] theorem State.arm_tmrs (s : State) (d : Nat) (i : Instr) : (s.arm d i).tmrs = s.tmrs := rfl
@[simp] theorem State.arm_hka (s : State) (d : Nat) (i : Instr) : (s.arm d i).hka = s.hka := rfl
@[simp] theorem State.arm_alerts (s : State) (d : Nat) (i : Instr) : (s.arm d i).alerts = s.alerts := rfl
@[simp] theorem State.arm_gpioBall (s : State) (d : Nat) (i : Instr) : (s.arm d i).gpioBall = s.gpioBall := rfl
@[simp] theorem State.arm_gpioFf1 (s : State) (d : Nat) (i : Instr) : (s.arm d i).gpioFf1 = s.gpioFf1 := rfl
@[simp] theorem State.arm_gpioFf2 (s : State) (d : Nat) (i : Instr) : (s.arm d i).gpioFf2 = s.gpioFf2 := rfl
@[simp] theorem State.arm_gpioRun (s : State) (d : Nat) (i : Instr) : (s.arm d i).gpioRun = s.gpioRun := rfl
@[simp] theorem State.arm_flashOpen (s : State) (d : Nat) (i : Instr) : (s.arm d i).flashOpen = s.flashOpen := rfl
@[simp] theorem State.arm_gpioSetAt (s : State) (d : Nat) (i : Instr) : (s.arm d i).gpioSetAt = s.gpioSetAt := rfl
@[simp] theorem State.arm_eth (s : State) (d : Nat) (i : Instr) : (s.arm d i).eth = s.eth := rfl
@[simp] theorem State.arm_xsp (s : State) (d : Nat) (i : Instr) : (s.arm d i).xsp = s.xsp := rfl
@[simp] theorem State.arm_hw (s : State) (d : Nat) (i : Instr) : (s.arm d i).hw = s.hw := rfl
@[simp] theorem State.arm_free (s : State) (d : Nat) (i : Instr) : (s.arm d i).free = s.free := rfl
@[simp] theorem State.arm_pending (s : State) (d : Nat) (i : Instr) : (s.arm d i).pending = s.pending := rfl
@[simp] theorem State.arm_word (s : State) (d : Nat) (i : Instr) (x : Nat) : (s.arm d i).word x = s.word x := rfl
@[simp] theorem State.arm_get (s : State) (d : Nat) (i : Instr) (x : Fld) : (s.arm d i).get x = s.get x := rfl
@[simp] theorem State.arm_bit (s : State) (d : Nat) (i : Instr) (x : Fld) : (s.arm d i).bit x = s.bit x := rfl
@[simp] theorem State.arm_link (s : State) (d : Nat) (i : Instr) (x : Nat) : (s.arm d i).link x = s.link x := rfl
@[simp] theorem State.arm_comp (s : State) (d : Nat) (i : Instr) (x : Nat) : (s.arm d i).comp x = s.comp x := rfl
@[simp] theorem State.arm_round (s : State) (d : Nat) (i : Instr) (x : Nat) : (s.arm d i).round x = s.round x := rfl
@[simp] theorem State.arm_eng (s : State) (d : Nat) (i : Instr) (x : Nat) : (s.arm d i).eng x = s.eng x := rfl

@[simp] theorem State.disarm_regs (s : State) (i : Instr) : (s.disarm i).regs = s.regs := rfl
@[simp] theorem State.disarm_member (s : State) (i : Instr) : (s.disarm i).member = s.member := rfl
@[simp] theorem State.disarm_clk (s : State) (i : Instr) : (s.disarm i).clk = s.clk := rfl
@[simp] theorem State.disarm_mrg (s : State) (i : Instr) : (s.disarm i).mrg = s.mrg := rfl
@[simp] theorem State.disarm_fcu (s : State) (i : Instr) : (s.disarm i).fcu = s.fcu := rfl
@[simp] theorem State.disarm_ldg (s : State) (i : Instr) : (s.disarm i).ldg = s.ldg := rfl
@[simp] theorem State.disarm_bus (s : State) (i : Instr) : (s.disarm i).bus = s.bus := rfl
@[simp] theorem State.disarm_cores (s : State) (i : Instr) : (s.disarm i).cores = s.cores := rfl
@[simp] theorem State.disarm_links (s : State) (i : Instr) : (s.disarm i).links = s.links := rfl
@[simp] theorem State.disarm_feeds (s : State) (i : Instr) : (s.disarm i).feeds = s.feeds := rfl
@[simp] theorem State.disarm_comps (s : State) (i : Instr) : (s.disarm i).comps = s.comps := rfl
@[simp] theorem State.disarm_rounds (s : State) (i : Instr) : (s.disarm i).rounds = s.rounds := rfl
@[simp] theorem State.disarm_engs (s : State) (i : Instr) : (s.disarm i).engs = s.engs := rfl
@[simp] theorem State.disarm_prog (s : State) (i : Instr) : (s.disarm i).prog = s.prog := rfl
@[simp] theorem State.disarm_ctx (s : State) (i : Instr) : (s.disarm i).ctx = s.ctx := rfl
@[simp] theorem State.disarm_scr (s : State) (i : Instr) : (s.disarm i).scr = s.scr := rfl
@[simp] theorem State.disarm_ents (s : State) (i : Instr) : (s.disarm i).ents = s.ents := rfl
@[simp] theorem State.disarm_binds (s : State) (i : Instr) : (s.disarm i).binds = s.binds := rfl
@[simp] theorem State.disarm_ecc (s : State) (i : Instr) : (s.disarm i).ecc = s.ecc := rfl
@[simp] theorem State.disarm_sch (s : State) (i : Instr) : (s.disarm i).sch = s.sch := rfl
@[simp] theorem State.disarm_fra (s : State) (i : Instr) : (s.disarm i).fra = s.fra := rfl
@[simp] theorem State.disarm_mint (s : State) (i : Instr) : (s.disarm i).mint = s.mint := rfl
@[simp] theorem State.disarm_bat (s : State) (i : Instr) : (s.disarm i).bat = s.bat := rfl
@[simp] theorem State.disarm_twn (s : State) (i : Instr) : (s.disarm i).twn = s.twn := rfl
@[simp] theorem State.disarm_ring (s : State) (i : Instr) : (s.disarm i).ring = s.ring := rfl
@[simp] theorem State.disarm_wave (s : State) (i : Instr) : (s.disarm i).wave = s.wave := rfl
@[simp] theorem State.disarm_itcm (s : State) (i : Instr) : (s.disarm i).itcm = s.itcm := rfl
@[simp] theorem State.disarm_dtcm (s : State) (i : Instr) : (s.disarm i).dtcm = s.dtcm := rfl
@[simp] theorem State.disarm_flash (s : State) (i : Instr) : (s.disarm i).flash = s.flash := rfl
@[simp] theorem State.disarm_mram (s : State) (i : Instr) : (s.disarm i).mram = s.mram := rfl
@[simp] theorem State.disarm_boot (s : State) (i : Instr) : (s.disarm i).boot = s.boot := rfl
@[simp] theorem State.disarm_vlt (s : State) (i : Instr) : (s.disarm i).vlt = s.vlt := rfl
@[simp] theorem State.disarm_twbs (s : State) (i : Instr) : (s.disarm i).twbs = s.twbs := rfl
@[simp] theorem State.disarm_twt (s : State) (i : Instr) : (s.disarm i).twt = s.twt := rfl
@[simp] theorem State.disarm_tmrs (s : State) (i : Instr) : (s.disarm i).tmrs = s.tmrs := rfl
@[simp] theorem State.disarm_hka (s : State) (i : Instr) : (s.disarm i).hka = s.hka := rfl
@[simp] theorem State.disarm_alerts (s : State) (i : Instr) : (s.disarm i).alerts = s.alerts := rfl
@[simp] theorem State.disarm_gpioBall (s : State) (i : Instr) : (s.disarm i).gpioBall = s.gpioBall := rfl
@[simp] theorem State.disarm_gpioFf1 (s : State) (i : Instr) : (s.disarm i).gpioFf1 = s.gpioFf1 := rfl
@[simp] theorem State.disarm_gpioFf2 (s : State) (i : Instr) : (s.disarm i).gpioFf2 = s.gpioFf2 := rfl
@[simp] theorem State.disarm_gpioRun (s : State) (i : Instr) : (s.disarm i).gpioRun = s.gpioRun := rfl
@[simp] theorem State.disarm_flashOpen (s : State) (i : Instr) : (s.disarm i).flashOpen = s.flashOpen := rfl
@[simp] theorem State.disarm_gpioSetAt (s : State) (i : Instr) : (s.disarm i).gpioSetAt = s.gpioSetAt := rfl
@[simp] theorem State.disarm_eth (s : State) (i : Instr) : (s.disarm i).eth = s.eth := rfl
@[simp] theorem State.disarm_xsp (s : State) (i : Instr) : (s.disarm i).xsp = s.xsp := rfl
@[simp] theorem State.disarm_hw (s : State) (i : Instr) : (s.disarm i).hw = s.hw := rfl
@[simp] theorem State.disarm_free (s : State) (i : Instr) : (s.disarm i).free = s.free := rfl
@[simp] theorem State.disarm_pending (s : State) (i : Instr) : (s.disarm i).pending = s.pending := rfl
@[simp] theorem State.disarm_word (s : State) (i : Instr) (x : Nat) : (s.disarm i).word x = s.word x := rfl
@[simp] theorem State.disarm_get (s : State) (i : Instr) (x : Fld) : (s.disarm i).get x = s.get x := rfl
@[simp] theorem State.disarm_bit (s : State) (i : Instr) (x : Fld) : (s.disarm i).bit x = s.bit x := rfl
@[simp] theorem State.disarm_link (s : State) (i : Instr) (x : Nat) : (s.disarm i).link x = s.link x := rfl
@[simp] theorem State.disarm_comp (s : State) (i : Instr) (x : Nat) : (s.disarm i).comp x = s.comp x := rfl
@[simp] theorem State.disarm_round (s : State) (i : Instr) (x : Nat) : (s.disarm i).round x = s.round x := rfl
@[simp] theorem State.disarm_eng (s : State) (i : Instr) (x : Nat) : (s.disarm i).eng x = s.eng x := rfl

@[simp] theorem State.drawn_regs (s : State) : (s.drawn).regs = s.regs := rfl
@[simp] theorem State.drawn_member (s : State) : (s.drawn).member = s.member := rfl
@[simp] theorem State.drawn_clk (s : State) : (s.drawn).clk = s.clk := rfl
@[simp] theorem State.drawn_mrg (s : State) : (s.drawn).mrg = s.mrg := rfl
@[simp] theorem State.drawn_fcu (s : State) : (s.drawn).fcu = s.fcu := rfl
@[simp] theorem State.drawn_ldg (s : State) : (s.drawn).ldg = s.ldg := rfl
@[simp] theorem State.drawn_bus (s : State) : (s.drawn).bus = s.bus := rfl
@[simp] theorem State.drawn_cores (s : State) : (s.drawn).cores = s.cores := rfl
@[simp] theorem State.drawn_links (s : State) : (s.drawn).links = s.links := rfl
@[simp] theorem State.drawn_feeds (s : State) : (s.drawn).feeds = s.feeds := rfl
@[simp] theorem State.drawn_comps (s : State) : (s.drawn).comps = s.comps := rfl
@[simp] theorem State.drawn_rounds (s : State) : (s.drawn).rounds = s.rounds := rfl
@[simp] theorem State.drawn_engs (s : State) : (s.drawn).engs = s.engs := rfl
@[simp] theorem State.drawn_prog (s : State) : (s.drawn).prog = s.prog := rfl
@[simp] theorem State.drawn_ctx (s : State) : (s.drawn).ctx = s.ctx := rfl
@[simp] theorem State.drawn_scr (s : State) : (s.drawn).scr = s.scr := rfl
@[simp] theorem State.drawn_ents (s : State) : (s.drawn).ents = s.ents := rfl
@[simp] theorem State.drawn_binds (s : State) : (s.drawn).binds = s.binds := rfl
@[simp] theorem State.drawn_ecc (s : State) : (s.drawn).ecc = s.ecc := rfl
@[simp] theorem State.drawn_sch (s : State) : (s.drawn).sch = s.sch := rfl
@[simp] theorem State.drawn_fra (s : State) : (s.drawn).fra = s.fra := rfl
@[simp] theorem State.drawn_mint (s : State) : (s.drawn).mint = s.mint := rfl
@[simp] theorem State.drawn_bat (s : State) : (s.drawn).bat = s.bat := rfl
@[simp] theorem State.drawn_twn (s : State) : (s.drawn).twn = s.twn := rfl
@[simp] theorem State.drawn_ring (s : State) : (s.drawn).ring = s.ring := rfl
@[simp] theorem State.drawn_wave (s : State) : (s.drawn).wave = s.wave := rfl
@[simp] theorem State.drawn_itcm (s : State) : (s.drawn).itcm = s.itcm := rfl
@[simp] theorem State.drawn_dtcm (s : State) : (s.drawn).dtcm = s.dtcm := rfl
@[simp] theorem State.drawn_flash (s : State) : (s.drawn).flash = s.flash := rfl
@[simp] theorem State.drawn_mram (s : State) : (s.drawn).mram = s.mram := rfl
@[simp] theorem State.drawn_boot (s : State) : (s.drawn).boot = s.boot := rfl
@[simp] theorem State.drawn_vlt (s : State) : (s.drawn).vlt = s.vlt := rfl
@[simp] theorem State.drawn_twbs (s : State) : (s.drawn).twbs = s.twbs := rfl
@[simp] theorem State.drawn_twt (s : State) : (s.drawn).twt = s.twt := rfl
@[simp] theorem State.drawn_tmrs (s : State) : (s.drawn).tmrs = s.tmrs := rfl
@[simp] theorem State.drawn_hka (s : State) : (s.drawn).hka = s.hka := rfl
@[simp] theorem State.drawn_alerts (s : State) : (s.drawn).alerts = s.alerts := rfl
@[simp] theorem State.drawn_gpioBall (s : State) : (s.drawn).gpioBall = s.gpioBall := rfl
@[simp] theorem State.drawn_gpioFf1 (s : State) : (s.drawn).gpioFf1 = s.gpioFf1 := rfl
@[simp] theorem State.drawn_gpioFf2 (s : State) : (s.drawn).gpioFf2 = s.gpioFf2 := rfl
@[simp] theorem State.drawn_gpioRun (s : State) : (s.drawn).gpioRun = s.gpioRun := rfl
@[simp] theorem State.drawn_flashOpen (s : State) : (s.drawn).flashOpen = s.flashOpen := rfl
@[simp] theorem State.drawn_gpioSetAt (s : State) : (s.drawn).gpioSetAt = s.gpioSetAt := rfl
@[simp] theorem State.drawn_eth (s : State) : (s.drawn).eth = s.eth := rfl
@[simp] theorem State.drawn_xsp (s : State) : (s.drawn).xsp = s.xsp := rfl
@[simp] theorem State.drawn_hw (s : State) : (s.drawn).hw = s.hw := rfl
@[simp] theorem State.drawn_alarms (s : State) : (s.drawn).alarms = s.alarms := rfl
@[simp] theorem State.drawn_pending (s : State) : (s.drawn).pending = s.pending := rfl
@[simp] theorem State.drawn_word (s : State) (x : Nat) : (s.drawn).word x = s.word x := rfl
@[simp] theorem State.drawn_get (s : State) (x : Fld) : (s.drawn).get x = s.get x := rfl
@[simp] theorem State.drawn_bit (s : State) (x : Fld) : (s.drawn).bit x = s.bit x := rfl
@[simp] theorem State.drawn_link (s : State) (x : Nat) : (s.drawn).link x = s.link x := rfl
@[simp] theorem State.drawn_comp (s : State) (x : Nat) : (s.drawn).comp x = s.comp x := rfl
@[simp] theorem State.drawn_round (s : State) (x : Nat) : (s.drawn).round x = s.round x := rfl
@[simp] theorem State.drawn_eng (s : State) (x : Nat) : (s.drawn).eng x = s.eng x := rfl

@[simp] theorem State.answer_regs (s : State) (who : Who) (w : Word) (e : Bool) : (s.answer who w e).regs = s.regs := rfl
@[simp] theorem State.answer_member (s : State) (who : Who) (w : Word) (e : Bool) : (s.answer who w e).member = s.member := rfl
@[simp] theorem State.answer_clk (s : State) (who : Who) (w : Word) (e : Bool) : (s.answer who w e).clk = s.clk := rfl
@[simp] theorem State.answer_mrg (s : State) (who : Who) (w : Word) (e : Bool) : (s.answer who w e).mrg = s.mrg := rfl
@[simp] theorem State.answer_fcu (s : State) (who : Who) (w : Word) (e : Bool) : (s.answer who w e).fcu = s.fcu := rfl
@[simp] theorem State.answer_ldg (s : State) (who : Who) (w : Word) (e : Bool) : (s.answer who w e).ldg = s.ldg := rfl
@[simp] theorem State.answer_cores (s : State) (who : Who) (w : Word) (e : Bool) : (s.answer who w e).cores = s.cores := rfl
@[simp] theorem State.answer_links (s : State) (who : Who) (w : Word) (e : Bool) : (s.answer who w e).links = s.links := rfl
@[simp] theorem State.answer_feeds (s : State) (who : Who) (w : Word) (e : Bool) : (s.answer who w e).feeds = s.feeds := rfl
@[simp] theorem State.answer_comps (s : State) (who : Who) (w : Word) (e : Bool) : (s.answer who w e).comps = s.comps := rfl
@[simp] theorem State.answer_rounds (s : State) (who : Who) (w : Word) (e : Bool) : (s.answer who w e).rounds = s.rounds := rfl
@[simp] theorem State.answer_engs (s : State) (who : Who) (w : Word) (e : Bool) : (s.answer who w e).engs = s.engs := rfl
@[simp] theorem State.answer_prog (s : State) (who : Who) (w : Word) (e : Bool) : (s.answer who w e).prog = s.prog := rfl
@[simp] theorem State.answer_ctx (s : State) (who : Who) (w : Word) (e : Bool) : (s.answer who w e).ctx = s.ctx := rfl
@[simp] theorem State.answer_scr (s : State) (who : Who) (w : Word) (e : Bool) : (s.answer who w e).scr = s.scr := rfl
@[simp] theorem State.answer_ents (s : State) (who : Who) (w : Word) (e : Bool) : (s.answer who w e).ents = s.ents := rfl
@[simp] theorem State.answer_binds (s : State) (who : Who) (w : Word) (e : Bool) : (s.answer who w e).binds = s.binds := rfl
@[simp] theorem State.answer_ecc (s : State) (who : Who) (w : Word) (e : Bool) : (s.answer who w e).ecc = s.ecc := rfl
@[simp] theorem State.answer_sch (s : State) (who : Who) (w : Word) (e : Bool) : (s.answer who w e).sch = s.sch := rfl
@[simp] theorem State.answer_fra (s : State) (who : Who) (w : Word) (e : Bool) : (s.answer who w e).fra = s.fra := rfl
@[simp] theorem State.answer_mint (s : State) (who : Who) (w : Word) (e : Bool) : (s.answer who w e).mint = s.mint := rfl
@[simp] theorem State.answer_bat (s : State) (who : Who) (w : Word) (e : Bool) : (s.answer who w e).bat = s.bat := rfl
@[simp] theorem State.answer_twn (s : State) (who : Who) (w : Word) (e : Bool) : (s.answer who w e).twn = s.twn := rfl
@[simp] theorem State.answer_ring (s : State) (who : Who) (w : Word) (e : Bool) : (s.answer who w e).ring = s.ring := rfl
@[simp] theorem State.answer_wave (s : State) (who : Who) (w : Word) (e : Bool) : (s.answer who w e).wave = s.wave := rfl
@[simp] theorem State.answer_itcm (s : State) (who : Who) (w : Word) (e : Bool) : (s.answer who w e).itcm = s.itcm := rfl
@[simp] theorem State.answer_dtcm (s : State) (who : Who) (w : Word) (e : Bool) : (s.answer who w e).dtcm = s.dtcm := rfl
@[simp] theorem State.answer_flash (s : State) (who : Who) (w : Word) (e : Bool) : (s.answer who w e).flash = s.flash := rfl
@[simp] theorem State.answer_mram (s : State) (who : Who) (w : Word) (e : Bool) : (s.answer who w e).mram = s.mram := rfl
@[simp] theorem State.answer_boot (s : State) (who : Who) (w : Word) (e : Bool) : (s.answer who w e).boot = s.boot := rfl
@[simp] theorem State.answer_vlt (s : State) (who : Who) (w : Word) (e : Bool) : (s.answer who w e).vlt = s.vlt := rfl
@[simp] theorem State.answer_twbs (s : State) (who : Who) (w : Word) (e : Bool) : (s.answer who w e).twbs = s.twbs := rfl
@[simp] theorem State.answer_twt (s : State) (who : Who) (w : Word) (e : Bool) : (s.answer who w e).twt = s.twt := rfl
@[simp] theorem State.answer_tmrs (s : State) (who : Who) (w : Word) (e : Bool) : (s.answer who w e).tmrs = s.tmrs := rfl
@[simp] theorem State.answer_hka (s : State) (who : Who) (w : Word) (e : Bool) : (s.answer who w e).hka = s.hka := rfl
@[simp] theorem State.answer_alerts (s : State) (who : Who) (w : Word) (e : Bool) : (s.answer who w e).alerts = s.alerts := rfl
@[simp] theorem State.answer_gpioBall (s : State) (who : Who) (w : Word) (e : Bool) : (s.answer who w e).gpioBall = s.gpioBall := rfl
@[simp] theorem State.answer_gpioFf1 (s : State) (who : Who) (w : Word) (e : Bool) : (s.answer who w e).gpioFf1 = s.gpioFf1 := rfl
@[simp] theorem State.answer_gpioFf2 (s : State) (who : Who) (w : Word) (e : Bool) : (s.answer who w e).gpioFf2 = s.gpioFf2 := rfl
@[simp] theorem State.answer_gpioRun (s : State) (who : Who) (w : Word) (e : Bool) : (s.answer who w e).gpioRun = s.gpioRun := rfl
@[simp] theorem State.answer_flashOpen (s : State) (who : Who) (w : Word) (e : Bool) : (s.answer who w e).flashOpen = s.flashOpen := rfl
@[simp] theorem State.answer_gpioSetAt (s : State) (who : Who) (w : Word) (e : Bool) : (s.answer who w e).gpioSetAt = s.gpioSetAt := rfl
@[simp] theorem State.answer_eth (s : State) (who : Who) (w : Word) (e : Bool) : (s.answer who w e).eth = s.eth := rfl
@[simp] theorem State.answer_xsp (s : State) (who : Who) (w : Word) (e : Bool) : (s.answer who w e).xsp = s.xsp := rfl
@[simp] theorem State.answer_hw (s : State) (who : Who) (w : Word) (e : Bool) : (s.answer who w e).hw = s.hw := rfl
@[simp] theorem State.answer_alarms (s : State) (who : Who) (w : Word) (e : Bool) : (s.answer who w e).alarms = s.alarms := rfl
@[simp] theorem State.answer_free (s : State) (who : Who) (w : Word) (e : Bool) : (s.answer who w e).free = s.free := rfl
@[simp] theorem State.answer_pending (s : State) (who : Who) (w : Word) (e : Bool) : (s.answer who w e).pending = s.pending := rfl
@[simp] theorem State.answer_word (s : State) (who : Who) (w : Word) (e : Bool) (x : Nat) : (s.answer who w e).word x = s.word x := rfl
@[simp] theorem State.answer_get (s : State) (who : Who) (w : Word) (e : Bool) (x : Fld) : (s.answer who w e).get x = s.get x := rfl
@[simp] theorem State.answer_bit (s : State) (who : Who) (w : Word) (e : Bool) (x : Fld) : (s.answer who w e).bit x = s.bit x := rfl
@[simp] theorem State.answer_link (s : State) (who : Who) (w : Word) (e : Bool) (x : Nat) : (s.answer who w e).link x = s.link x := rfl
@[simp] theorem State.answer_comp (s : State) (who : Who) (w : Word) (e : Bool) (x : Nat) : (s.answer who w e).comp x = s.comp x := rfl
@[simp] theorem State.answer_round (s : State) (who : Who) (w : Word) (e : Bool) (x : Nat) : (s.answer who w e).round x = s.round x := rfl
@[simp] theorem State.answer_eng (s : State) (who : Who) (w : Word) (e : Bool) (x : Nat) : (s.answer who w e).eng x = s.eng x := rfl

/-! ## Registers -/

theorem State.word_setWord (s : State) (a x : Nat) (w : Word) :
    (s.setWord a w).word x = if x = a then w else s.word x := by
  unfold State.word State.setWord
  split
  · subst_vars; exact SMap.get_set_same _ _ _ _
  · exact SMap.get_set_ne _ _ _ ‹_›

@[simp] theorem State.word_setWord_same (s : State) (a : Nat) (w : Word) : (s.setWord a w).word a = w := by
  simp [State.word_setWord]

theorem State.word_setWord_ne (s : State) {a x : Nat} (w : Word) (h : x ≠ a) : (s.setWord a w).word x = s.word x := by
  simp [State.word_setWord, h]

theorem State.word_put_ne (s : State) {x : Nat} (f : Fld) (v : Nat) (h : x ≠ f.addr) : (s.put f v).word x = s.word x :=
  State.word_setWord_ne s _ h

/-- A field reads back what was put there, cut to its width. -/
theorem State.get_put_same (s : State) (f : Fld) (v : Nat) (h : f.hi ≤ 31) :
    (s.put f v).get f = v % 2 ^ (f.hi + 1 - f.lo) := by
  simp only [State.get, State.put, State.word_setWord_same]
  exact bitsOf_setBits_same _ _ _ _ h

/-- A field of another register keeps its value. -/
theorem State.get_put_ne (s : State) (f g : Fld) (v : Nat) (h : g.addr ≠ f.addr) : (s.put f v).get g = s.get g := by
  simp only [State.get, State.word_put_ne s f v h]

/-- A field of the same register that shares no bit keeps its value. -/
theorem State.get_put_other (s : State) (f g : Fld) (v : Nat) (h : g.hi < f.lo ∨ f.hi < g.lo) :
    (s.put f v).get g = s.get g := by
  by_cases ha : g.addr = f.addr
  · simp only [State.get, State.put, ha, State.word_setWord_same]
    exact bitsOf_setBits_other _ _ _ _ _ _ h
  · exact State.get_put_ne s f g v ha

theorem State.get_putBit_same (s : State) (f : Fld) (b : Bool) (h : f.hi ≤ 31) (hb : f.hi = f.lo) :
    (s.putBit f b).bit f = b := by
  unfold State.bit State.putBit
  rw [State.get_put_same s f _ h, hb]
  cases b <;> simp

theorem State.get_putBit_ne (s : State) (f g : Fld) (b : Bool) (h : g.addr ≠ f.addr) : (s.putBit f b).get g = s.get g :=
  State.get_put_ne s f g _ h

theorem State.get_putBit_other (s : State) (f g : Fld) (b : Bool) (h : g.hi < f.lo ∨ f.hi < g.lo) :
    (s.putBit f b).get g = s.get g :=
  State.get_put_other s f g _ h

theorem State.word_putBit_ne (s : State) {x : Nat} (f : Fld) (b : Bool) (h : x ≠ f.addr) :
    (s.putBit f b).word x = s.word x :=
  State.word_put_ne s f _ h

/-- A counter counts up by one until it stands at its largest value. -/
theorem State.get_inc_same (s : State) (f : Fld) (h : f.hi ≤ 31) :
    (s.inc f).get f = min (s.get f + 1) f.max := by
  unfold State.inc State.incBy
  rw [State.get_put_same s f _ h]
  refine Nat.mod_eq_of_lt (Nat.lt_of_le_of_lt (Nat.min_le_right _ _) ?_)
  have : 0 < 2 ^ (f.hi + 1 - f.lo) := Nat.two_pow_pos _
  simp only [Fld.max]; omega

theorem State.word_inc_ne (s : State) {x : Nat} (f : Fld) (h : x ≠ f.addr) : (s.inc f).word x = s.word x :=
  State.word_put_ne s f _ h

/-! ## Records of the equal units -/

theorem State.link_setLink (s : State) (k j : Nat) (x : LinkSt) : (s.setLink k x).link j = if j = k then x else s.link j := by
  unfold State.link State.setLink
  split
  · subst_vars; exact SMap.get_set_same _ _ _ _
  · exact SMap.get_set_ne _ _ _ ‹_›

@[simp] theorem State.link_setLink_same (s : State) (k : Nat) (x : LinkSt) : (s.setLink k x).link k = x := by
  simp [State.link_setLink]

@[simp] theorem State.link_modLink_same (s : State) (k : Nat) (f : LinkSt → LinkSt) : (s.modLink k f).link k = f (s.link k) := by
  simp [State.modLink]

theorem State.link_modLink_ne (s : State) {k j : Nat} (f : LinkSt → LinkSt) (h : j ≠ k) : (s.modLink k f).link j = s.link j := by
  simp [State.modLink, State.link_setLink, h]

theorem State.comp_setComp (s : State) (k j : Nat) (x : Comp) : (s.setComp k x).comp j = if j = k then x else s.comp j := by
  unfold State.comp State.setComp
  split
  · subst_vars; exact SMap.get_set_same _ _ _ _
  · exact SMap.get_set_ne _ _ _ ‹_›

@[simp] theorem State.comp_setComp_same (s : State) (k : Nat) (x : Comp) : (s.setComp k x).comp k = x := by
  simp [State.comp_setComp]

@[simp] theorem State.comp_modComp_same (s : State) (k : Nat) (f : Comp → Comp) : (s.modComp k f).comp k = f (s.comp k) := by
  simp [State.modComp]

theorem State.comp_modComp_ne (s : State) {k j : Nat} (f : Comp → Comp) (h : j ≠ k) : (s.modComp k f).comp j = s.comp j := by
  simp [State.modComp, State.comp_setComp, h]

theorem State.round_setRound (s : State) (k j : Nat) (x : Round) : (s.setRound k x).round j = if j = k then x else s.round j := by
  unfold State.round State.setRound
  split
  · subst_vars; exact SMap.get_set_same _ _ _ _
  · exact SMap.get_set_ne _ _ _ ‹_›

@[simp] theorem State.round_setRound_same (s : State) (k : Nat) (x : Round) : (s.setRound k x).round k = x := by
  simp [State.round_setRound]

theorem State.eng_setEng (s : State) (k j : Nat) (x : Eng) : (s.setEng k x).eng j = if j = k then x else s.eng j := by
  unfold State.eng State.setEng
  split
  · subst_vars; exact SMap.get_set_same _ _ _ _
  · exact SMap.get_set_ne _ _ _ ‹_›

@[simp] theorem State.eng_setEng_same (s : State) (k : Nat) (x : Eng) : (s.setEng k x).eng k = x := by
  simp [State.eng_setEng]

@[simp] theorem State.eng_modEng_same (s : State) (k : Nat) (f : Eng → Eng) : (s.modEng k f).eng k = f (s.eng k) := by
  simp [State.modEng]

theorem State.eng_modEng_ne (s : State) {k j : Nat} (f : Eng → Eng) (h : j ≠ k) : (s.modEng k f).eng j = s.eng j := by
  simp [State.modEng, State.eng_setEng, h]

end Sys2Proof.Machine
end

