-- ==== Sys2Proof/Laws/Access.lean ====
section
/-! SUPPORT. Laws/Access.lean: the whole of what an access can do before its register's own operation, once for each
shared operation; and how the frames of Safety.lean compose. -/

namespace Sys2Proof.Machine

/-! ## Events and detections -/

/-- From `s` to `t` registers and the way to the merge changed, nothing else. -/
def State.onlyEvents (s t : State) : Prop := t = { s with regs := t.regs, mrg := t.mrg }

theorem State.onlyEvents_refl (s : State) : s.onlyEvents s := rfl

theorem State.onlyEvents_trans {s t u : State} (h : s.onlyEvents t) (h' : t.onlyEvents u) : s.onlyEvents u := by
  unfold State.onlyEvents at *
  rw [h'] ; rw [h]

theorem State.pushRaw_only (s : State) (e : Ev) : s.onlyEvents (s.pushRaw e) := by
  unfold State.onlyEvents State.pushRaw
  simp only
  split <;> rfl

theorem State.pushOne_only (s : State) (e : Ev) : s.onlyEvents (s.pushOne e) := by
  unfold State.pushOne
  simp only
  split
  · exact State.onlyEvents_trans (State.pushRaw_only s e) rfl
  · exact State.pushRaw_only s e

theorem State.pushEv_only (s : State) (e : Ev) : s.onlyEvents (s.pushEv e) := by
  unfold State.pushEv
  split
  · refine State.onlyEvents_trans ?_ (State.pushOne_only _ _)
    refine State.onlyEvents_trans ?_ (State.pushOne_only _ _)
    rfl
  · exact State.pushOne_only _ _

theorem State.raiseDrop_only (s : State) : s.onlyEvents s.raiseDrop := by
  unfold State.raiseDrop
  split
  · rfl
  · split
    · exact State.onlyEvents_trans (by rfl) (State.pushEv_only _ _)
    · rfl

/-- Raising an event changes the queue to the merge, and of the registers the drop counter and the injection arm alone. -/
theorem State.raiseEv_only (s : State) (e : Ev) : s.raiseEv e = { s with regs := (s.raiseEv e).regs, mrg := (s.raiseEv e).mrg } := by
  show s.onlyEvents (s.raiseEv e)
  unfold State.raiseEv
  simp only
  split
  · exact State.onlyEvents_trans (State.pushEv_only s e) (State.raiseDrop_only _)
  · exact State.pushEv_only _ _

theorem State.raiseN_only (s : State) (a b c : Nat) :
    s.raiseN a b c = { s with regs := (s.raiseN a b c).regs, mrg := (s.raiseN a b c).mrg } :=
  State.raiseEv_only s _

/-- A detection changes the collector's queue alone. -/
theorem State.detect_only (s : State) (i : Nat) : s.detect i = { s with fcu := (s.detect i).fcu } := by
  unfold State.detect; split <;> rfl

/-! ## Frames -/

theorem State.onlyRegs_refl (s : State) (as : List Nat) : s.onlyRegs s as := ⟨rfl, fun _ _ => rfl⟩

theorem State.onlyRegs_setWord {s t : State} {as : List Nat} (h : s.onlyRegs t as) (a : Nat) (w : Word) (ha : a ∈ as) :
    s.onlyRegs (t.setWord a w) as := by
  refine ⟨?_, fun x hx => ?_⟩
  · rw [h.1]; rfl
  · have hne : x ≠ a := by rintro rfl; exact hx ha
    rw [State.word_setWord_ne _ _ hne]; exact h.2 x hx

theorem State.onlyRegs_put {s t : State} {as : List Nat} (h : s.onlyRegs t as) (f : Fld) (v : Nat) (ha : f.addr ∈ as) :
    s.onlyRegs (t.put f v) as :=
  State.onlyRegs_setWord h _ _ ha

theorem State.onlyRegs_putBit {s t : State} {as : List Nat} (h : s.onlyRegs t as) (f : Fld) (b : Bool) (ha : f.addr ∈ as) :
    s.onlyRegs (t.putBit f b) as :=
  State.onlyRegs_setWord h _ _ ha

theorem State.onlyRegs_inc {s t : State} {as : List Nat} (h : s.onlyRegs t as) (f : Fld) (ha : f.addr ∈ as) :
    s.onlyRegs (t.inc f) as :=
  State.onlyRegs_setWord h _ _ ha

theorem State.onlyRegs_apply {s t : State} {as : List Nat} (h : s.onlyRegs t as) (a : Nat) (v : Word) (ha : a ∈ as) :
    s.onlyRegs (t.apply a v) as := by
  unfold State.apply
  split
  · exact h
  · exact State.onlyRegs_setWord h _ _ ha

theorem State.onlyRegs_mono {s t : State} {as bs : List Nat} (h : s.onlyRegs t as) (hb : ∀ a, a ∈ as → a ∈ bs) : s.onlyRegs t bs :=
  ⟨h.1, fun a ha => h.2 a (fun hc => ha (hb a hc))⟩

/-! ## The way to a register -/

/-- An access that passes the queue unharmed has been issued. -/
theorem State.issues_of_busQueue {s : State} {who : Who} (h : s.busQueue who = (s, false)) : s.issues who = true := by
  by_cases hi : s.issues who = true
  · exact hi
  · simp [State.busQueue, hi] at h

/-- An access that passes the queue unharmed is the access itself, on the bus and beside it. -/
theorem State.issued_of_busQueue {s : State} {who : Who} (a : Nat) (op : State → State) (h : s.busQueue who = (s, false)) :
    s.issued who a op = op s := by
  simp [State.issued, State.throughQueue, State.issues_of_busQueue h, h]

/-- An admitted write is the register's own operation. -/
theorem State.busWrite_admits {s u : State} {who : Who} {a : Nat} {v : Word} (h : s.admits who a v u) (op : State → State) :
    s.busWrite who a v op = op u := by
  obtain ⟨hq, need, hg, hu⟩ := h
  rw [State.busWrite, State.issued_of_busQueue a _ hq]
  simp only [State.busWriteGo, hg, State.recorded]
  rcases hu with ⟨ha, rfl⟩ | ⟨ha, hf, rfl⟩
  · simp [ha]
  · simp [ha, State.audited, hf]

/-- An admitted read is the register's own answer. -/
theorem State.busRead_admits {s : State} {who : Who} {a : Nat} (h : s.admitsRead who a) (op : State → State) :
    s.busRead who a op = op s := by
  obtain ⟨hq, need, hg⟩ := h
  rw [State.busRead, State.issued_of_busQueue a _ hq]
  simp [State.busReadGo, hg]

/-- A legal write under the register's own condition. -/
theorem State.regWrite_good (s : State) (a : Nat) (v : Word) (after : State → State) (h : legalAt a v = true) :
    s.regWrite a v true after = after (s.apply a v) := by
  simp [State.regWrite, h]

/-- A register that no write changes where no field of it takes it. -/
theorem State.apply_word_ne (s : State) (a : Nat) (v : Word) {x : Nat} (h : x ≠ a) : (s.apply a v).word x = s.word x := by
  unfold State.apply
  split
  · rfl
  · exact State.word_setWord_ne s _ h

/-! ## When an access reaches its register -/

/-- The state that the register's own operation starts from, where the write is admitted. -/
def State.admitted (s : State) (who : Who) (a : Nat) (v : Word) : State :=
  match s.gate who a true with
  | .pass need =>
    if auditedNeed need then (s.answer who 0 false).raiseEv (auditEv who 0x01 a (s.roleOf who) need v) else s.answer who 0 false
  | _ => s

/-- A word write by `who` at `a` reaches its register at once. -/
def State.mayWrite (s : State) (who : Who) (a : Nat) : Bool :=
  s.issues who && !s.bit (FCU_INJ_ARM 69) && (match s.gate who a true with | .pass need => !(auditedNeed need && s.auditWaits who) | _ => false)

/-- A word read by `who` at `a` reaches its register. -/
def State.mayRead (s : State) (who : Who) (a : Nat) : Bool :=
  s.issues who && !s.bit (FCU_INJ_ARM 69) && (match s.gate who a false with | .pass _ => true | _ => false)

theorem State.busQueue_quiet {s : State} {who : Who} (hi : s.issues who = true) (h : s.bit (FCU_INJ_ARM 69) = false) :
    s.busQueue who = (s, false) := by
  cases who <;> simp [State.busQueue, hi, h]

theorem State.admits_admitted {s : State} {who : Who} {a : Nat} {v : Word} (h : s.mayWrite who a = true) :
    s.admits who a v (s.admitted who a v) := by
  unfold State.mayWrite at h
  simp only [Bool.and_eq_true, Bool.not_eq_true'] at h
  refine ⟨State.busQueue_quiet h.1.1 h.1.2, ?_⟩
  have h2 := h.2
  unfold State.admitted
  split at h2
  · rename_i need hg
    refine ⟨need, hg, ?_⟩
    by_cases ha : auditedNeed need = true
    · refine .inr ⟨ha, by simpa [ha] using h2, by simp [ha]⟩
    · exact .inl ⟨by simpa using ha, by simp [ha]⟩
  · simp at h2

theorem State.admitsRead_of {s : State} {who : Who} {a : Nat} (h : s.mayRead who a = true) : s.admitsRead who a := by
  unfold State.mayRead at h
  simp only [Bool.and_eq_true, Bool.not_eq_true'] at h
  refine ⟨State.busQueue_quiet h.1.1 h.1.2, ?_⟩
  have h2 := h.2
  split at h2
  · rename_i need hg; exact ⟨need, hg⟩
  · simp at h2

/-- A state without a stored error reads every code word clean. -/
theorem State.eccRead_clean {s : State} (h : s.ecc = []) (c i : Nat) : s.eccRead c i = .clean := by
  unfold State.eccRead State.eccErr; rw [h]; exact (by decide : eccJudge 0 = .clean)

end Sys2Proof.Machine
end

