-- ==== Sys2Proof/Laws/Memory.lean ====
section
/-! SUPPORT. Laws/Memory.lean: bytes read back as they were written, a write leaves every other byte alone, and every
operation over a byte store keeps its canonical form. -/

namespace Sys2Proof.Machine

/-! ## Byte stores -/

@[simp] theorem readBytes_length (d : Nat → Byte) (m : SMap Byte) (a n : Nat) : (readBytes d m a n).length = n := by
  simp [readBytes]

/-- A write leaves every byte outside its range alone. -/
theorem get_writeBytes_other (d : Nat → Byte) (m : SMap Byte) (a k : Nat) (bs : List Byte)
    (h : k < a ∨ a + bs.length ≤ k) : SMap.get d (writeBytes d m a bs) k = SMap.get d m k := by
  induction bs generalizing m a with
  | nil => rfl
  | cons b t ih =>
    simp only [List.length_cons] at h
    rw [writeBytes, ih _ _ (by omega), SMap.get_set_ne _ _ _ (by omega)]

/-- Byte `i` of what was written reads back. -/
theorem get_writeBytes_same (d : Nat → Byte) (m : SMap Byte) (a i : Nat) (bs : List Byte) (h : i < bs.length) :
    SMap.get d (writeBytes d m a bs) (a + i) = bs[i] := by
  induction bs generalizing m a i with
  | nil => simp at h
  | cons b t ih =>
    rw [writeBytes]
    cases i with
    | zero => rw [get_writeBytes_other _ _ _ _ _ (by omega)]; exact SMap.get_set_same d m a b
    | succ i =>
      simp only [List.length_cons] at h
      rw [show a + (i + 1) = a + 1 + i by omega, ih _ _ _ (by omega)]
      rfl

/-- What was written reads back whole. -/
theorem readBytes_writeBytes (d : Nat → Byte) (m : SMap Byte) (a n : Nat) (bs : List Byte) (h : n = bs.length) :
    readBytes d (writeBytes d m a bs) a n = bs := by
  subst h
  refine List.ext_getElem (by simp) fun i _ h2 => ?_
  simp only [readBytes, List.getElem_map, List.getElem_range]
  exact get_writeBytes_same d m a i bs h2

/-- A part of what was written reads back. -/
theorem readBytes_writeBytes_part (d : Nat → Byte) (m : SMap Byte) (a i n : Nat) (bs : List Byte) (h : i + n ≤ bs.length) :
    readBytes d (writeBytes d m a bs) (a + i) n = (bs.drop i).take n := by
  refine List.ext_getElem (by simp; omega) fun j h1 h2 => ?_
  rw [readBytes_length] at h1
  simp only [readBytes, List.getElem_map, List.getElem_range, List.getElem_take, List.getElem_drop]
  rw [Nat.add_assoc]
  exact get_writeBytes_same d m a (i + j) bs (by omega)

theorem wf_writeBytes (d : Nat → Byte) (m : SMap Byte) (a : Nat) (bs : List Byte) (h : SMap.wf d m = true) :
    SMap.wf d (writeBytes d m a bs) = true := by
  induction bs generalizing m a with
  | nil => exact h
  | cons b t ih => exact ih _ _ (SMap.wf_set d m a b h)

/-- A part of what was written to the DTCM reads back at its address. -/
theorem State.dtcmBytes_part {s : State} {m : SMap Byte} {o i n a : Nat} {bs : List Byte} (hs : s.dtcm = writeBytes zeroByte m o bs)
    (he : s.ecc = []) (ha : a = 0x18000000 + (o + i)) (h : i + n ≤ bs.length) (hn : o + i + n ≤ 0x40000) :
    s.dtcmBytes a n = some ((bs.drop i).take n) := by
  have hi : inDtcm a n = true := by simp [inDtcm]; omega
  unfold State.dtcmBytes
  rw [if_pos (by simp [hi, State.tcmGood, he]), hs, ha, Nat.add_sub_cancel_left, readBytes_writeBytes_part _ _ _ _ _ _ h]

/-! ## Numbers as bytes -/

@[simp] theorem bytesLE_length (v n : Nat) : (bytesLE v n).length = n := by simp [bytesLE]

theorem bytesLE_succ (v n : Nat) : bytesLE v (n + 1) = byteOf v 0 :: bytesLE (v / 256) n := by
  simp only [bytesLE, List.range_succ_eq_map, List.map_cons, List.map_map]
  refine congrArg _ (List.map_congr_left fun i _ => ?_)
  have h : 8 * (i + 1) = 8 + 8 * i := by omega
  simp only [Function.comp_apply, byteOf, Nat.succ_eq_add_one, h, Nat.pow_add, Nat.div_div_eq_div_mul]

/-- Bytes spell the number they were taken from, cut to their width. -/
theorem natLE_bytesLE (v n : Nat) : natLE (bytesLE v n) = v % 256 ^ n := by
  induction n generalizing v with
  | zero => simp [bytesLE, natLE, Nat.mod_one]
  | succ n ih =>
    have h : natLE (bytesLE v (n + 1)) = (byteOf v 0).toNat + 256 * natLE (bytesLE (v / 256) n) := by
      rw [bytesLE_succ]; rfl
    rw [h, ih, Nat.pow_succ, Nat.mul_comm (256 ^ n) 256, Nat.mod_mul]
    simp [byteOf]

/-- A CRC-32 fits 32 bits. -/
theorem crc32_lt (bs : List Byte) : crc32 bs < 2 ^ 32 := by
  have step : ∀ (l : List Nat) (c : Nat), c < 2 ^ 32 →
      l.foldl (fun c _ => if c % 2 = 1 then (c / 2) ^^^ 0xEDB88320 else c / 2) c < 2 ^ 32 := by
    intro l
    induction l with
    | nil => exact fun c h => h
    | cons x t ih =>
      intro c h
      refine ih _ ?_
      dsimp only
      split
      · exact Nat.xor_lt_two_pow (by omega) (by decide)
      · omega
  have run : ∀ (l : List Byte) (c : Nat), c < 2 ^ 32 → l.foldl crc32Byte c < 2 ^ 32 := by
    intro l
    induction l with
    | nil => exact fun c h => h
    | cons b t ih => exact fun c h => ih _ (step _ _ (Nat.xor_lt_two_pow h (by have := b.isLt; omega)))
  exact Nat.xor_lt_two_pow (run bs _ (by decide)) (by decide)

/-! ## The operations of the block's stores -/

/-- A store of the Ledger, a TCM, the flash or the MRAM was written: each is in canonical form again. -/
theorem State.memoryWf_iff (s : State) : s.memoryWf = true ↔
    SMap.wf zeroByte s.ring = true ∧ SMap.wf zeroByte s.wave = true ∧ SMap.wf zeroByte s.itcm = true
      ∧ SMap.wf zeroByte s.dtcm = true ∧ SMap.wf erasedByte s.flash = true ∧ SMap.wf erasedByte s.mram = true := by
  simp only [State.memoryWf, Memory.wf, Bool.and_eq_true, and_assoc]

/-- The six byte stores are the same in both states. -/
def State.sameStores (s t : State) : Prop :=
  t.ring = s.ring ∧ t.wave = s.wave ∧ t.itcm = s.itcm ∧ t.dtcm = s.dtcm ∧ t.flash = s.flash ∧ t.mram = s.mram

theorem State.memoryWf_of_same {s t : State} (h : s.sameStores t) (hw : s.memoryWf = true) : t.memoryWf = true := by
  obtain ⟨h1, h2, h3, h4, h5, h6⟩ := h
  rw [State.memoryWf_iff] at hw ⊢
  rw [h1, h2, h3, h4, h5, h6]
  exact hw

theorem State.reset_memoryWf : State.reset.memoryWf = true := rfl

theorem State.sameStores_refl (s : State) : s.sameStores s := ⟨rfl, rfl, rfl, rfl, rfl, rfl⟩

theorem State.sameStores_trans {s t u : State} (h : s.sameStores t) (h' : t.sameStores u) : s.sameStores u := by
  obtain ⟨h1, h2, h3, h4, h5, h6⟩ := h
  obtain ⟨k1, k2, k3, k4, k5, k6⟩ := h'
  exact ⟨k1.trans h1, k2.trans h2, k3.trans h3, k4.trans h4, k5.trans h5, k6.trans h6⟩

theorem State.raiseEv_stores (s : State) (e : Ev) : s.sameStores (s.raiseEv e) := by
  rw [s.raiseEv_only e]; exact State.sameStores_refl s

theorem State.detect_stores (s : State) (i : Nat) : s.sameStores (s.detect i) := by
  rw [s.detect_only i]; exact State.sameStores_refl s

/-- Encoding a code word touches its check bits, the injection's register and the queue to the merge; no data. -/
theorem State.encode_stores (s : State) (c i : Nat) : s.sameStores (s.encode c i) := by
  unfold State.encode
  split
  · exact State.sameStores_trans (State.sameStores_refl s) (State.raiseEv_stores _ _)
  · exact State.sameStores_refl s

theorem State.overrun_stores (s : State) : s.sameStores s.overrun := by
  unfold State.overrun
  simp only
  split <;> split <;> exact State.sameStores_refl s

theorem State.put_stores (s : State) (f : Fld) (v : Nat) : s.sameStores (s.put f v) := ⟨rfl, rfl, rfl, rfl, rfl, rfl⟩

theorem State.putRecord_memoryWf (s : State) (e : Ev) (n slot : Nat) (h : s.memoryWf = true) : (s.putRecord e n slot).memoryWf = true := by
  rw [State.memoryWf_iff] at h ⊢
  exact ⟨wf_writeBytes _ _ _ _ h.1, h.2⟩

theorem State.writeRecord_memoryWf (s : State) (e : Ev) (h : s.memoryWf = true) : (s.writeRecord e).memoryWf = true :=
  State.memoryWf_of_same (State.put_stores _ _ _) (State.memoryWf_of_same (State.encode_stores _ _ _)
    (State.memoryWf_of_same (State.encode_stores _ _ _) (State.putRecord_memoryWf _ _ _ _
      (State.memoryWf_of_same (State.overrun_stores s) h))))

/-- A record of the waveform store goes there, or is discarded. -/
theorem State.waveStore_memoryWf (s : State) (o : Nat) (bs : List Byte) (h : s.memoryWf = true) : (s.waveStore o bs).memoryWf = true := by
  unfold State.waveStore
  split
  · exact State.memoryWf_of_same (State.detect_stores s 56) h
  · refine State.memoryWf_of_same (State.encode_stores _ _ _) ?_
    rw [State.memoryWf_iff] at h ⊢
    exact ⟨h.1, wf_writeBytes _ _ _ _ h.2.1, h.2.2⟩

theorem State.wavePut_memoryWf (s : State) (c : Nat) (bs : List Byte) (h : s.memoryWf = true) : (s.wavePut c bs).memoryWf = true := by
  unfold State.wavePut
  exact State.memoryWf_of_same (State.sameStores_trans (State.put_stores _ _ _) (State.put_stores _ _ _)) (State.waveStore_memoryWf s _ bs h)

/-- An entry of the XSP queue touches no byte store. -/
theorem State.xspQueue_stores (s : State) : s.sameStores s.xspQueue.1 := by
  unfold State.xspQueue
  split
  · dsimp only
    split
    · exact State.sameStores_trans (State.encode_stores s 70 0)
        (State.sameStores_trans (State.detect_stores _ 55) (State.sameStores_refl _))
    · exact State.sameStores_trans (State.encode_stores s 70 0) (State.sameStores_refl _)
  · exact State.sameStores_refl s

theorem State.mramPut_memoryWf (s : State) (a : Nat) (bs : List Byte) (h : s.memoryWf = true) : (s.mramPut a bs).memoryWf = true := by
  have hq := State.memoryWf_of_same (State.xspQueue_stores s) h
  unfold State.mramPut
  dsimp only
  split
  · exact hq
  · rw [State.memoryWf_iff] at h hq ⊢
    exact ⟨hq.1, hq.2.1, hq.2.2.1, hq.2.2.2.1, hq.2.2.2.2.1, wf_writeBytes _ _ _ _ h.2.2.2.2.2⟩

theorem State.flashProgram_memoryWf (s : State) (a : Nat) (bs : List Byte) (h : s.memoryWf = true) : (s.flashProgram a bs).memoryWf = true := by
  unfold State.flashProgram
  split
  · exact h
  · rw [State.memoryWf_iff] at h ⊢
    exact ⟨h.1, h.2.1, h.2.2.1, h.2.2.2.1, wf_writeBytes _ _ _ _ h.2.2.2.2.1, h.2.2.2.2.2⟩

theorem State.flashErase_memoryWf (s : State) (a n : Nat) (h : s.memoryWf = true) : (s.flashErase a n).memoryWf = true := by
  unfold State.flashErase
  split
  · exact h
  · rw [State.memoryWf_iff] at h ⊢
    exact ⟨h.1, h.2.1, h.2.2.1, h.2.2.2.1, SMap.wf_clear erasedByte s.flash (fun k => decide (a ≤ k) && decide (k < a + n)) h.2.2.2.2.1, h.2.2.2.2.2⟩

/-- The check of a read changes no byte store. -/
theorem State.tcmCheck_stores (s : State) (d : Bool) (w : Nat) : s.sameStores (s.tcmCheck d w) := by
  unfold State.tcmCheck
  split
  · exact State.detect_stores s 18
  · exact State.sameStores_trans (State.detect_stores s 19) (State.sameStores_refl _)
  · exact State.sameStores_refl s

theorem State.tcmWord_memoryWf (s : State) (d : Bool) (o : Nat) (bs : List Byte) (h : s.memoryWf = true) :
    (s.tcmWord d o bs).memoryWf = true := by
  have store : ∀ t : State, t.memoryWf = true →
      ((t.setTcm d (writeBytes zeroByte (t.tcm d) o bs)).encode (tcmChecker d) (o / 16)).memoryWf = true := by
    intro t ht
    refine State.memoryWf_of_same (State.encode_stores _ _ _) ?_
    rw [State.memoryWf_iff] at ht
    obtain ⟨h1, h2, h3, h4, h5, h6⟩ := ht
    cases d
    · exact (State.memoryWf_iff _).2 ⟨h1, h2, wf_writeBytes _ _ _ _ h3, h4, h5, h6⟩
    · exact (State.memoryWf_iff _).2 ⟨h1, h2, h3, wf_writeBytes _ _ _ _ h4, h5, h6⟩
  unfold State.tcmWord
  dsimp only
  split
  · exact store s h
  · split
    · exact State.memoryWf_of_same (State.detect_stores s 18) h
    · exact store _ (State.memoryWf_of_same (State.tcmCheck_stores s d _) h)

theorem State.tcmWords_memoryWf (s : State) (d : Bool) (o : Nat) (bs : List Byte) (n : Nat) (h : s.memoryWf = true) :
    (s.tcmWords d o bs n).memoryWf = true := by
  induction n generalizing s o bs with
  | zero => exact h
  | succ n ih =>
    unfold State.tcmWords
    simp only
    split
    · exact h
    · exact ih _ _ _ (State.tcmWord_memoryWf s d o _ h)

theorem State.tcmStore_memoryWf (s : State) (d : Bool) (o : Nat) (bs : List Byte) (h : s.memoryWf = true) :
    (s.tcmStore d o bs).memoryWf = true :=
  State.tcmWords_memoryWf s d o bs _ h

theorem State.dtcmPut_memoryWf (s : State) (a : Nat) (bs : List Byte) (h : s.memoryWf = true) : (s.dtcmPut a bs).memoryWf = true := by
  unfold State.dtcmPut
  split
  · exact State.tcmStore_memoryWf s true _ bs h
  · exact h

/-- A readout's record lies in the ring or a channel and changes neither. -/
theorem State.ldgCheck_stores (s : State) (c w : Nat) : s.sameStores (s.ldgCheck c w) := by
  unfold State.ldgCheck
  split
  · exact State.detect_stores s 56
  · exact State.sameStores_refl s

end Sys2Proof.Machine
end

