-- ==== Sys2Proof/Tests/Slice0.lean ====
section
/-! SUPPORT. Tests/Slice0.lean: the WellFormed smoke tests, worked examples of the spec, and for
every statement with hypotheses one theorem that shows concrete values meeting them. -/

-- One theorem after the other: each thread of a waiting theorem takes a stack of its own.
set_option Elab.async false

open Sys2Proof Sys2Proof.Machine

namespace Sys2Proof.Tests

/-- The next state of an outcome. -/
def outNext (o : Out) : State := match o with | .next t => t | _ => State.reset

end Sys2Proof.Tests

namespace Sys2Proof.Tests

/-! ## Well-formed commands -/

/-- 12 symbols, the length of R56. -/
def frame12 : UpFrame := { syms := List.replicate 12 (.d 0) }

theorem test_frame_of_12_is_wellFormed : (Instr.upstreamFrame 0 frame12).wellFormed = true := by decide

theorem test_frame_of_11_is_illFormed : (Instr.upstreamFrame 0 { syms := List.replicate 11 (.d 0) }).wellFormed = false := by decide

theorem test_frame_of_13_is_illFormed : (Instr.upstreamFrame 95 { syms := List.replicate 13 (.d 0) }).wellFormed = false := by decide

theorem test_illFormed_frame_is_refused :
    Machine.exec (.upstreamFrame 0 { syms := [] }) State.reset = .refused (.illFormed "UPSTREAM_FRAME") := rfl

/-- The table gives no row any bits. -/
theorem test_no_word_decodes : decodeTableWord 32 0 = none := rfl

/-! ## Worked examples of the spec -/

/-- 03, the frame to rectifier 3: the CRC after each byte. -/
theorem test_frame_crc : (List.range 10).map (fun i => crc8 ([0x67, 0x00, 0x00, 0x00, 0x19, 0x64, 0x1F, 0x40, 0xFF, 0x06].take (i + 1)))
    = [0x32, 0x9E, 0xD3, 0x37, 0xCA, 0x43, 0x93, 0x37, 0x76, 0x57] := by decide +kernel

/-- 06, under R163: P = 2 * 0x2000_0000 * (-400), stored shifted right by 32. -/
theorem test_rda : rdaInt (2 * (0x20000000 * (-400))) 32 false = -100 := by decide

/-- 06, under R171: 1200 toward 4000 in steps of 500. -/
theorem test_ramp : [1200, 1700, 2200, 2700, 3200, 3700].map (rampInt · 4000 500) = [1700, 2200, 2700, 3200, 3700, 4000] := by decide

/-- 06, under R172: 3000 by 8000 in mode 0b01 and in mode 0b00. -/
theorem test_div : divSat .q31 3000 8000 = (0x30000000, false) ∧ divSat .int32 3000 8000 = (0, false) := by decide +kernel

/-- 11, the rest window on string 3: the cell means at 90 s and extrapolated. -/
theorem test_cellMean : cellMean 1340211200 = 36517 ∧ cellMean 1341793380 = 36560 := by decide +kernel

/-- A bid of the worked epoch of chapter 10. -/
def bid (cls f w u : Nat) : Bid := { k := 0, cls := cls, w := w, f := f, n := u, ask := (u * 288 + 255) / 256 + 20, ceil := 614, g := 0 }

/-- 10, the worked epoch: 64 feeds, C = 19,200. -/
theorem test_epoch_grants :
    let x := allocate (List.replicate 8 (bid 0 250 16 320) ++ List.replicate 24 (bid 1 200 16 320) ++ List.replicate 24 (bid 2 150 8 320)
      ++ List.replicate 4 (bid 3 0 12 384) ++ List.replicate 4 (bid 3 0 4 384)) 19200
    x.1.1.map (·.g) = List.replicate 56 320 ++ List.replicate 4 240 ++ List.replicate 4 80 ∧ x.1.2 = 0 ∧ x.2 = false := by decide +kernel

/-- 10, the same table: K of a purse with U = 320 and of one with U = 384. -/
theorem test_epoch_asks : (bid 0 250 16 320).ask = 380 ∧ (bid 3 0 12 384).ask = 452 := by decide

/-- 02, the short on feed 5: the stamps of sources 3 and 40, raised at true times that end in 814 and 900. -/
theorem test_stamps :
    ({ State.reset with clk := { tBase := 13440000814 } } : State).stamp (domainOf 3) = 13440000800
      ∧ ({ State.reset with clk := { tBase := 13440000900 } } : State).stamp (domainOf 40) = 13439991808 := by decide +kernel

/-- The known answer of SHA-384 for "abc" (FIPS 180-4; log entry 16). -/
theorem test_sha384_abc : sha384 [0x61, 0x62, 0x63] =
    0xcb00753f45a35e8bb5a03d699ac65007272c32ab0eded1631a8b605a43ff5bed8086072ba1e7cc2358baeca134c825a7 := by decide +kernel

end Sys2Proof.Tests

namespace Sys2Proof.Tests.Block

def r12a : State := ((List.range 256).foldl (fun (s : State) e => s.setWord (RGT_PERM e) 0x33) {State.reset with member := .sc12}).put RGT_ROLE_SUP_ROLE 3

theorem witness_WellFormedCommandsComplete :
    (∃ (c : Instr), c.wellFormed = true)
    ∧ (∃ (c : Instr), c.wellFormed = false) :=
  ⟨⟨((Instr.heartbeat true false)), by decide +kernel⟩,
   ⟨(Instr.upstreamFrame 0 { syms := [] }), by decide +kernel⟩⟩

theorem witness_RegisterWriteByField :
    (∃ (who : Who) (a : Nat) (v : Word) (s : State) (u : State) (r : RegRow), a % 4 = 0 ∧ rowOf a = some r ∧ inFam (RGT_PERM 0) 4 256 a = false ∧ a ≠ RGT_SEAL ∧ a ≠ RGT_ROLE_SUP ∧ a ≠ RGT_ROLE_DBG ∧ s.admits who a v u ∧ State.wReg a v u = State.wPlain a v u ∧ legalAt a v = true)
    ∧ (∃ (who : Who) (a : Nat) (v : Word) (s : State) (u : State) (r : RegRow), a % 4 = 0 ∧ rowOf a = some r ∧ inFam (RGT_PERM 0) 4 256 a = false ∧ a ≠ RGT_SEAL ∧ a ≠ RGT_ROLE_SUP ∧ a ≠ RGT_ROLE_DBG ∧ s.admits who a v u ∧ State.wReg a v u = State.wPlain a v u ∧ legalAt a v = false) :=
  ⟨⟨(Who.sup true), 1074004000, 0#32, (State.reset), (((State.reset) : State).admitted ((Who.sup true) : Who) (1074004000 : Nat) (0#32 : Word)), (Option.get (rowOf 1074004000) (by decide +kernel)), by decide +kernel, by decide +kernel, by decide +kernel, by decide +kernel, by decide +kernel, by decide +kernel, State.admits_admitted (by decide +kernel), by decide +kernel⟩,
   ⟨(Who.sup true), 1090522128, 0#32, (State.reset), (((State.reset) : State).admitted ((Who.sup true) : Who) (1090522128 : Nat) (0#32 : Word)), (Option.get (rowOf 1090522128) (by decide +kernel)), by decide +kernel, by decide +kernel, by decide +kernel, by decide +kernel, by decide +kernel, by decide +kernel, State.admits_admitted (by decide +kernel), by decide +kernel⟩⟩

theorem witness_AbsentAndUnmappedAccesses :
    (∃ (who : Who) (a : Nat) (s : State) (need : Nat), a % 4 = 0 ∧ inFam (RGT_PERM 0) 4 256 a = false ∧ a ≠ RGT_SEAL ∧ a ≠ RGT_ROLE_SUP ∧ a ≠ RGT_ROLE_DBG ∧ s.busQueue who = (s, false) ∧ s.gate who a true = Gate.absent need ∧ auditedNeed need = false)
    ∧ (∃ (who : Who) (a : Nat) (s : State) (need : Nat), a % 4 = 0 ∧ inFam (RGT_PERM 0) 4 256 a = false ∧ a ≠ RGT_SEAL ∧ a ≠ RGT_ROLE_SUP ∧ a ≠ RGT_ROLE_DBG ∧ s.busQueue who = (s, false) ∧ s.gate who a true = Gate.absent need ∧ auditedNeed need = true ∧ s.auditWaits who = false)
    ∧ (∃ (who : Who) (a : Nat) (wr : Bool) (width : Nat) (s : State), s.busQueue who = (s, false) ∧ (regionOf a = Region.none ∨ wr = true ∧ (regionOf a).writable = false ∨ ∃ e, regionOf a = Region.checked e ∧ width < 4 ∧ e ≠ 195)) :=
  ⟨⟨(Who.sup true), 1090584576, ({State.reset with member := .sc12}), 4, by decide +kernel⟩,
   ⟨(Who.sup true), 1090584576, (r12a), 3, by decide +kernel⟩,
   ⟨(Who.sup true), 0, (true), 0, (State.reset), by decide +kernel, .inr (.inl (by decide +kernel))⟩⟩

end Sys2Proof.Tests.Block

namespace Sys2Proof.Tests.MoreW

def r : State := State.reset
/-- The last cycle of a major frame, at its last phase. -/
def lastCycle : State := { r with clk := { now := 2399, cyc := 2399, phase := phEnd, tBase := 0 }, alarms := [] }

theorem witness_StepRunsFrontCommand :
    ∃ (c : Instr) (rest : List Instr) (s : State), s.pending = c :: rest :=
  ⟨.heartbeat true false, [.swap], { r with pending := [.heartbeat true false, .swap] }, rfl⟩

theorem witness_IdleStepMovesClock :
    ∃ s : State, s.pending = [] ∧ s.clk.phase = phEnd ∧ s.ringing = [] ∧ s.inReset = false ∧ s.fcu.detq = [] ∧ s.entryDue = false
      ∧ s.releaseDue = false ∧ s.pfComplete = false ∧ s.flushDue = false ∧ s.lateRows = [] ∧ s.fcu.acts = [] ∧ (∀ n : Nat, (s.eng n).haltAt = none)
      ∧ s.xsp.late = none :=
  ⟨lastCycle, rfl, rfl, by decide +kernel, by decide +kernel, rfl, by decide +kernel, by decide +kernel, by decide +kernel, by decide +kernel, by decide +kernel,
    rfl, fun _ => rfl, rfl⟩

theorem witness_CommandsLeaveQueue :
    ∃ (c : Instr) (s t : State), exec c s = Host.Outcome.next t ∧ s.pending ≠ [] :=
  ⟨.heartbeat true false, { r with pending := [.swap] }, outNext (exec (.heartbeat true false) { r with pending := [.swap] }), rfl, List.cons_ne_nil _ _⟩

theorem witness_StepKeepsCanonical :
    ∃ (s t : State), s.wf = true ∧ step s = Host.Outcome.next t :=
  ⟨{ r with pending := [.heartbeat true false], flash := [(9, 1)] }, outNext (step { r with pending := [.heartbeat true false], flash := [(9, 1)] }), by decide +kernel, rfl⟩

theorem witness_ResetState : ∃ (a n : Nat), a ≠ SYS_RST_CAUSE ∧ n < 16 := ⟨SYS_STRAP, 15, by decide, by decide⟩

theorem witness_BlownFusesStayBlown :
    ∃ (s t : State) (w : Nat), step s = Host.Outcome.next t ∧ vget s.vlt.aN w ≠ 0 :=
  ⟨{ r with pending := [.heartbeat true false], vlt := { aN := [(3, 7)] } }, outNext (step { r with pending := [.heartbeat true false], vlt := { aN := [(3, 7)] } }), 3, rfl, by decide +kernel⟩

/-! VaultScansAndCommandsStart, the commands: one that starts and one that is refused. -/

def vctrl (n : Nat) (v : Word) : Word := setBits (withBit v 31) 27 24 n

def rs : State := r.putBit VLT_STAT_SCAN_DONE true

def rk : State := { rs with vlt := { rs.vlt with pkey := true } }

theorem witness_VaultCommandsStart :
    (∃ (who : Who) (v : Word) (s u : State), s.admits who VLT_CTRL (vctrl 7 v) u ∧ legalAt VLT_CTRL (vctrl 7 v) = true
      ∧ (u.apply VLT_CTRL (vctrl 7 v)).vltRefusal 7 = none)
    ∧ (∃ (who : Who) (v : Word) (s u : State), s.admits who VLT_CTRL (vctrl 1 v) u ∧ legalAt VLT_CTRL (vctrl 1 v) = true
      ∧ ((u.apply VLT_CTRL (vctrl 1 v)).vltRefusal 1).isSome = true) :=
  ⟨⟨.sup true, 0, rk, rk.admitted (.sup true) VLT_CTRL (vctrl 7 0), State.admits_admitted (by decide +kernel), by decide +kernel⟩,
   ⟨.sup true, 0, rs, rs.admitted (.sup true) VLT_CTRL (vctrl 1 0), State.admits_admitted (by decide +kernel), by decide +kernel⟩⟩

/-! SafeStateEnteredAndLeft: an action that SAFE collects, a SWITCHOVER whose limit has come. -/

theorem witness_SafeActions :
    (∃ (s : State) (m i n : Nat), s.safe = false ∧ s.fcu.acts = [(m, i)] ∧ m ≤ s.monCycle ∧ i < 192 ∧ s.srcAction i = 2 ∧ n < s.nEngines)
    ∧ (∃ (s : State) (c i : Nat) (l : List (Nat × Nat)), s.safe = false ∧ s.fcu.soPend = (c, i) :: l ∧ i < 192 ∧ s.holder = true
      ∧ s.bit FCU_CTRL_SO_FALLBACK = true) :=
  ⟨⟨{ r.put (FCU_SCFG_ACTION 5) 2 with fcu := { acts := [(0, 5)] } }, 0, 5, 15, by decide +kernel, rfl, Nat.zero_le _, by decide, by decide +kernel⟩,
   ⟨{ (r.putBit FCU_CTRL_SO_FALLBACK true).putBit LNK_EPOCH_HOLDER true with fcu := { soPend := [(4800, 191)] } }, 4800, 191, [], by decide +kernel, rfl, by decide,
    by decide +kernel, by decide +kernel⟩⟩

/-! FeedControl, the writes of FSM_CTRL. -/

/-- Link 95 has role FEED, its state machine runs. -/
def fd : State := r.putBit (FSM_CTRL_EN 95) true

theorem witness_FeedControlWrites :
    (∃ (who : Who) (k : Link) (v w : Word) (s u : State), k.val < s.nLinks ∧ w = withBit v 2 ∧ s.admits who (FSM_CTRL k) w u
      ∧ legalAt (FSM_CTRL k) w = true ∧ (tb w 2 && tb w 3) = false ∧ tb w 0 = true ∧ u.role k = rlFEED)
    ∧ (∃ (who : Who) (k : Link) (v w : Word) (s u : State), k.val < s.nLinks ∧ w = withBit v 3 ∧ s.admits who (FSM_CTRL k) w u
      ∧ legalAt (FSM_CTRL k) w = true ∧ (tb w 2 && tb w 3) = false ∧ tb w 0 = false ∧ u.bit (FSM_CTRL_EN k) = true) :=
  ⟨⟨.sup true, 95, 1, withBit 1 2, fd, fd.admitted (.sup true) (FSM_CTRL (95 : Link)) (withBit 1 2), by decide +kernel, rfl, State.admits_admitted (by decide +kernel), by decide +kernel⟩,
   ⟨.sup true, 95, 0, withBit 0 3, fd, fd.admitted (.sup true) (FSM_CTRL (95 : Link)) (withBit 0 3), by decide +kernel, rfl, State.admits_admitted (by decide +kernel), by decide +kernel⟩⟩

/-! The Tellers. -/

def tk : Task := { entry := 5, base := 100, len := 20, c0 := 990, slot := 15, binds := [] }
/-- Engine 1 issues; d[1] holds 5. -/
def run : State :=
  let s : State := { r.put (TEL_STATUS_STATE 1) esRUNNING with clk := { now := 1000, cyc := 1000, tBase := 5000 } }
  { s with engs := [(1, { d := [(1, 5)], task := some tk })] }

theorem witness_GuardsAndProducts :
    (∃ (n : Engine) (q : Guard) (s : State), s.issuing n = none ∨ s.guard n q = false)
    ∧ (∃ (n : Engine) (q : Guard) (s : State), s.issuing n = some tk ∧ s.guard n q = false)
    ∧ (∃ (n : Engine) (q : Guard) (s : State) (t : Machine.Task), s.issuing n = some t ∧ s.guard n q = true ∧ t.drops (s.clk.now + 2) = false) :=
  ⟨⟨1, ⟨0, false⟩, r, .inl (by decide +kernel)⟩,
   ⟨1, ⟨3, false⟩, run, by decide +kernel⟩,
   ⟨1, ⟨0, false⟩, run, tk, by decide +kernel⟩⟩

theorem witness_TellerLoadsInRange :
    ∃ (n : Engine) (q : Guard) (da : Reg) (i : BitVec 7) (s : State) (t : Machine.Task), s.issuing n = some t ∧ s.guard n q = true
      ∧ (∀ m w, s.eccRead (EMem.checker m n) w = .clean) ∧ t.slot < 16 ∧ t.drops (s.clk.now + 1) = false
      ∧ 0 ≤ s.dint n da + (i.toNat : Int) ∧ s.dint n da + (i.toNat : Int) = 127 :=
  ⟨1, ⟨0, false⟩, 1, 122#7, run, tk, by decide +kernel, by decide +kernel, by intros; exact State.eccRead_clean rfl _ _, by decide +kernel⟩

/-- Bank 0 of engine 1 is not empty. -/
def busyBank : State := r.put (TEL_SCH_STAT_BANK0 1) 3

theorem admitted_busy :
    let u := busyBank.admitted (.sup true) (engBase (1 : Engine) + 0x14000 + 8 * (0 : Fin 512)) 0
    busyBank.admits (.sup true) (engBase (1 : Engine) + 0x14000 + 8 * (0 : Fin 512)) 0 u ∧ u.ecc = busyBank.ecc ∧ u.bankState (1 : Engine) 0 ≠ 0 :=
  ⟨State.admits_admitted (by decide +kernel), by decide +kernel⟩

theorem witness_EngineMemoriesStageAndBank :
    (∃ (who : Who) (n : Engine) (v : Word) (s u : State) (a : BitVec 12) (w : Fin 3), (∀ m w, s.eccRead (EMem.checker m n) w = .clean) ∧ u.ecc = s.ecc
      ∧ s.admits who (engBase n + 16 * a.toNat + 4 * w) v u)
    ∧ (∃ (who : Who) (n : Engine) (v : Word) (s u : State) (e : Fin 512), (∀ m w, s.eccRead (EMem.checker m n) w = .clean) ∧ u.ecc = s.ecc
      ∧ s.admits who (engBase n + 0x14000 + 8 * e) v u ∧ u.bankState n 0 ≠ 0) :=
  ⟨⟨.sup true, 1, 5, r, r.admitted (.sup true) (engBase (1 : Engine) + 16 * (4095#12).toNat + 4 * (2 : Fin 3)) 5, 4095#12, 2, by intros; exact State.eccRead_clean rfl _ _, by decide +kernel, State.admits_admitted (by decide +kernel)⟩,
   ⟨.sup true, 1, 0, busyBank, _, 0, by intros; exact State.eccRead_clean rfl _ _, admitted_busy.2.1, admitted_busy.1, admitted_busy.2.2⟩⟩

/-! ChannelsReadoutMirror: a readout of three ring records, up to the end of the DTCM. -/

theorem witness_ReadoutEnds :
    ∃ (s : State) (d : Readout), s.ldg.rd = some d ∧ d.ring = true ∧ 0x18000000 ≤ d.dst ∧ d.dst + d.count * 32 ≤ 0x18040000 ∧ (∀ w, s.eccRead 72 w ≠ .bad)
      ∧ (∀ w, s.eccRead 75 w ≠ .bad) ∧ s.bit (FCU_INJ_ARM 75) = false :=
  ⟨{ r with ldg := { rd := some { ring := true, ch := 0, count := 3, start := 32766, dst := 0x1803FFA0 } } }, { ring := true, ch := 0, count := 3, start := 32766, dst := 0x1803FFA0 },
    rfl, rfl, by decide, by decide, by intro w; rw [State.eccRead_clean rfl]; decide, by intro w; rw [State.eccRead_clean rfl]; decide, by decide +kernel⟩

/-- A commit on the smaller member names engine 15, which it lacks. -/
def bad : State :=
  let s : State := { r.put SCH_STAT_STATE 1 with member := .sc12 }
  { s with sch := { mask := 0x8002 } }

theorem witness_AdmissionFails :
    ∃ (s : State) (code eng entry value : Nat), s.get SCH_STAT_STATE = 1 ∧ (∀ c i, s.eccRead c i = .clean) ∧ s.admission s.sch.mask = some (code, eng, entry, value) :=
  ⟨bad, 3, 15, 0, 15, by decide +kernel, by intros; exact State.eccRead_clean rfl _ _, by decide +kernel⟩

end Sys2Proof.Tests.MoreW

namespace Sys2Proof.Tests.FaultW

def r : State := State.reset
def aud : State := r.setWord (RGT_PERM 12) 0x30
def evq (s : State) (n src : Nat) : State := (List.range n).foldl (fun s _ => s.raiseN src 1 0) s
def ck : State := { r with fcu := { r.fcu with checked := true } }
def den (i react : Nat) (s : State) : State := ((s.put (FCU_SCFG_EN i) 1).put (FCU_SCFG_REACT i) react)
def en5 : State := den 5 1 ck
def fl1 : State := ((ck.setBm FCU_FLAG 1 true).setBm FCU_FLAG 4 true).arm 5 (.escExpired 4) |>.setBm FCU_ESCR 4 true
def safeS : State := { ck.putBit FCU_STAT_SAFE true with fcu := { ck.fcu with txRestart := true } }
def escA : State := ((ck.setBm FCU_ESCR 5 true).put (FCU_SCFG_ACTION 5) 2).put (TEL_STATUS_STATE 15) esARMED
def exA : State := ck.putBit FCU_STAT_SAFE true |>.putBit FCU_STAT_HOLDING true
def exB : State := exA.setBm FCU_FLAG 1 true

theorem witness_AuditedWritesWaitForRecord :
    (∃ (who : Who) (a : Nat) (s : State) (need : Nat), a % 4 = 0 ∧ inFam (RGT_PERM 0) 4 256 a = false ∧ a ≠ RGT_SEAL ∧ a ≠ RGT_ROLE_SUP ∧ a ≠ RGT_ROLE_DBG ∧ s.busQueue who = (s, false) ∧ (need = 2 ∨ need = 3) ∧ s.gate who a true = Gate.pass need ∧ s.auditWaits who = false)
    ∧ (∃ (who : Who) (a : Nat) (s : State) (need : Nat), a % 4 = 0 ∧ inFam (RGT_PERM 0) 4 256 a = false ∧ a ≠ RGT_SEAL ∧ a ≠ RGT_ROLE_SUP ∧ a ≠ RGT_ROLE_DBG ∧ s.busQueue who = (s, false) ∧ (need = 2 ∨ need = 3) ∧ (s.gate who a true = Gate.pass need ∨ s.gate who a true = Gate.absent need) ∧ s.auditWaits who = true) :=
  ⟨⟨(Who.sup true), 1074528256, (aud), 3, by decide +kernel⟩,
   ⟨(Who.sup true), 1074528256, (evq aud 9 42), 3, by decide +kernel⟩⟩

theorem witness_LinkedCounterReads :
    (∃ (who : Who) (c : Linked) (s : State), linkedPath who (Linked.norm c) = true ∧ s.isLinked (Linked.norm c) = true ∧ s.issues who = true ∧ (∀ (lo hi : Nat), Linked.addrs (Linked.norm c) = some (lo, hi) → s.admitsRead who lo))
    ∧ (∃ (who : Who) (who' : Who) (c : Linked) (c' : Linked) (s : State) (t : State), exec (Instr.linkedLowRead who c) s = Host.Outcome.next t ∧ (pathOf who' ≠ pathOf who ∨ c' ≠ Linked.norm c))
    ∧ (∃ (who : Who) (c : Linked) (s : State), linkedPath who (Linked.norm c) = true ∧ s.isLinked (Linked.norm c) = true ∧ s.held who (Linked.norm c) = none ∧ s.issues who = true ∧ (∀ (lo hi : Nat), Linked.addrs (Linked.norm c) = some (lo, hi) → s.admitsRead who hi)) :=
  ⟨⟨(Who.sup true), (Linked.time), (r), by decide +kernel, by decide +kernel, by decide +kernel, by intro lo hi h; cases h; exact State.admitsRead_of (by decide +kernel)⟩,
   ⟨(Who.sup true), (Who.sup true), (Linked.time), (Linked.csrTime), (r), (outNext (exec (Instr.linkedLowRead ((Who.sup true) : Who) ((Linked.time) : Linked)) ((r) : State))), rfl, by decide +kernel⟩,
   ⟨(Who.sup true), (Linked.time), (r), by decide +kernel, by decide +kernel, by decide +kernel, by decide +kernel, by intro lo hi h; cases h; exact State.admitsRead_of (by decide +kernel)⟩⟩

theorem witness_DetectionsFlagAndReport :
    (∃ (i : Fin 192) (s : State), s.fcu.checked = true ∧ s.srcAbsent ↑i = false ∧ s.bit (FCU_SCFG_EN ↑i) = true ∧ s.flagged ↑i = false ∧ s.srcReact ↑i ≤ 1)
    ∧ (∃ (i : Fin 192) (s : State), ↑i ≠ 13 ∧ s.fcu.checked = true ∧ s.srcAbsent ↑i = false ∧ s.bit (FCU_SCFG_EN ↑i) = true ∧ s.flagged ↑i = true)
    ∧ (∃ (i : Fin 192) (s : State), ↑i ≠ 13 ∧ s.fcu.checked = true ∧ s.srcAbsent ↑i = false ∧ s.bit (FCU_SCFG_EN ↑i) = false)
    ∧ (∃ (who : Who) (w : Fin 6) (v : Word) (s : State) (u : State), s.admits who (FCU_FLAG ↑w) v u ∧ u.fcu.checked = true) :=
  ⟨⟨5, (en5), by decide +kernel⟩,
   ⟨4, (fl1), by decide +kernel⟩,
   ⟨5, (en5.put (FCU_SCFG_EN 5) 0), by decide +kernel⟩,
   ⟨(Who.sup true), 0, 0#32, (en5), (((en5) : State).admitted ((Who.sup true) : Who) (FCU_FLAG ↑(0 : Fin 6)) (0#32 : Word)), State.admits_admitted (by decide +kernel), by decide +kernel⟩⟩

theorem witness_SafeStateEnteredAndLeft :
    (∃ (s : State) (who : Who) (v : Word) (u : State), s.safe = false ∧ s.admits who FCU_CTRL (withBit v 5) u ∧ u.fcu.checked = true ∧ legalAt FCU_CTRL (withBit v 5) = true ∧ tb v 4 = false)
    ∧ (∃ (s : State) (i : Fin 192), s.safe = false ∧ s.bmBit FCU_ESCR ↑i = true)
    ∧ (∃ (s : State), s.safe = true ∧ s.bit FCU_STAT_TX_OFF = false)
    ∧ (∃ (s : State), s.fcu.txRestart = true)
    ∧ (∃ (who : Who) (v : Word) (s : State) (u : State) (n : Nat), s.admits who FCU_SAFE v u ∧ u.fcu.checked = true ∧ legalAt FCU_SAFE v = true ∧ bitsOf v 15 0 = 42330 ∧ u.safe = true ∧ (u.apply FCU_SAFE v).exitRefusal = some n)
    ∧ (∃ (who : Who) (v : Word) (s : State) (u : State), s.admits who FCU_SAFE v u ∧ u.fcu.checked = true ∧ legalAt FCU_SAFE v = true ∧ bitsOf v 15 0 = 42330 ∧ u.safe = true ∧ (u.apply FCU_SAFE v).exitRefusal = none) :=
  ⟨⟨(ck), (Who.sup true), 0#32, (((ck) : State).admitted ((Who.sup true) : Who) FCU_CTRL (withBit (0#32 : Word) 5)), by decide +kernel, State.admits_admitted (by decide +kernel), by decide +kernel⟩,
   ⟨(escA), 5, by decide +kernel⟩,
   ⟨(exA), by decide +kernel⟩,
   ⟨(safeS), by decide +kernel⟩,
   ⟨(Who.sup true), 42330#32, (exB), (((exB) : State).admitted ((Who.sup true) : Who) FCU_SAFE (42330#32 : Word)), (Option.get ((((((exB) : State).admitted ((Who.sup true) : Who) FCU_SAFE (42330#32 : Word)) : State).apply FCU_SAFE (42330#32 : Word)).exitRefusal) (by decide +kernel)), State.admits_admitted (by decide +kernel), by decide +kernel⟩,
   ⟨(Who.sup true), 42330#32, (exA), (((exA) : State).admitted ((Who.sup true) : Who) FCU_SAFE (42330#32 : Word)), State.admits_admitted (by decide +kernel), by decide +kernel⟩⟩

theorem witness_CollectorServices :
    (∃ (s : State), s.fcu.checked = false ∧ s.bit (FCU_SCFG_EN 3) = true ∧ s.flagged 3 = false)
    ∧ (∃ (who : Who) (c : Fin 78) (v : Word) (s : State) (u : State), s.admits who (FCU_INJ ↑c) (withBit v 31) u ∧ u.fcu.checked = true ∧ legalAt (FCU_INJ ↑c) (withBit v 31) = true ∧ bitsOf v 16 0 ≠ 0 ∧ weight (bitsOf v 16 0) 17 ≤ 3 ∧ bitsOf v 29 23 = 0)
    ∧ (∃ (who : Who) (v : Word) (s : State) (u : State), s.admits who FCU_CTRL (withBit v 4) u ∧ u.fcu.checked = true ∧ legalAt FCU_CTRL (withBit v 4) = true ∧ tb v 5 = false)
    ∧ (∃ (who : Who) (v : Word) (s : State) (u : State), s.admits who FCU_WDOG (withBit v 31) u ∧ u.fcu.checked = true ∧ legalAt FCU_WDOG (withBit v 31) = true ∧ bitsOf v 15 0 ≠ 0)
    ∧ (∃ (s : State), s.get FCU_WDOG_TMO_MS ≠ 0 ∧ s.srcAbsent 17 = false) :=
  ⟨⟨(r), by decide +kernel⟩,
   ⟨(Who.sup true), 0, 1#32, (ck), (((ck) : State).admitted ((Who.sup true) : Who) (FCU_INJ ↑(0 : Fin 78)) (withBit (1#32 : Word) 31)), State.admits_admitted (by decide +kernel), by decide +kernel⟩,
   ⟨(Who.sup true), 0#32, (ck), (((ck) : State).admitted ((Who.sup true) : Who) FCU_CTRL (withBit (0#32 : Word) 4)), State.admits_admitted (by decide +kernel), by decide +kernel⟩,
   ⟨(Who.sup true), 1#32, (ck), (((ck) : State).admitted ((Who.sup true) : Who) FCU_WDOG (withBit (1#32 : Word) 31)), State.admits_admitted (by decide +kernel), by decide +kernel⟩,
   ⟨((ck.put FCU_WDOG_TMO_MS 65535).arm 7 .supWdog), by decide +kernel⟩⟩

end Sys2Proof.Tests.FaultW

namespace Sys2Proof.Tests.RightsW

def r : State := State.reset
def nx (o : Out) : State := match o with | .next t => t | _ => State.reset
def evq (s : State) (n src : Nat) : State := (List.range n).foldl (fun s _ => s.raiseN src 1 0) s
def evE : State := evq r 1 408
def evH : State := nx (execEventEntry evE)
def clm : State := (evH.setBm EVR_EN 408 true)
def clm2 : State := State.setWord (((nx (execEventEntry (clm.raiseN 2 1 9))).put RGT_ROLE_DBG_ROLE 3).put RGT_ROLE_SUP_ROLE 3) (RGT_PERM 2) 0
/-- A later cycle than that of the events. -/
def clm3 : State := { clm2 with clk := { clm2.clk with now := 9 } }
def credB (role req : Nat) : List Byte := [0x43, 0x52, 0x54, 0x31] ++ [BitVec.ofNat 8 role, BitVec.ofNat 8 req, 0, 0, 4] ++ List.replicate 195 0
def crd (s : State) (role req : Nat) : State := { s with dtcm := writeBytes zeroByte s.dtcm 0 (credB role req) }
def chv (s : State) : State := s.putBit RGT_STAT_CHAL_VALID true

theorem witness_EventsHeldReleasedClaimed :
    (∃ (s : State) (e : Ev) (rest : List Ev), s.mrg.inflight = e :: rest ∧ eccJudge e.ecc ≠ EccRead.bad ∧ e.late = false ∧ e.src < 512 ∧ e.routed = true ∧ s.T.toNat ≤ e.stamp.toNat + holdTicks ∧ s.bit LDG_STAT_PF_ACTIVE = false ∧ s.bit LDG_TRIG_EV_EN = false ∧ s.bus.waiting = [] ∧ s.mrg.dropDue = [])
    ∧ (∃ (s : State) (e : Ev) (rest : List Ev), s.mrg.held = e :: rest ∧ s.mrg.wroteAt = some s.clk.now)
    ∧ (∃ (s : State) (e : Ev) (rest : List Ev), s.mrg.held = e :: rest ∧ s.mrg.wroteAt ≠ some s.clk.now)
    ∧ (∃ (b : Bool) (s : State) (i : Nat), s.admitsRead (Who.sup b) EVR_CLAIM ∧ s.claimable = some i)
    ∧ (∃ (b : Bool) (s : State), s.admitsRead (Who.sup b) EVR_CLAIM ∧ s.claimable = none)
    ∧ (∃ (s : State), s.admitsRead Who.dbg EVR_CLAIM)
    ∧ (∃ (who : Who) (v : Word) (s : State) (u : State), s.admits who EVR_SWEV v u ∧ legalAt EVR_SWEV v = true) :=
  ⟨⟨(evE), evE.mrg.inflight.head (by decide +kernel), evE.mrg.inflight.tail, by decide +kernel⟩,
   ⟨{ evH with mrg := { evH.mrg with wroteAt := some evH.clk.now } }, evH.mrg.held.head (by decide +kernel), evH.mrg.held.tail, by decide +kernel⟩,
   ⟨(evH), evH.mrg.held.head (by decide +kernel), evH.mrg.held.tail, by decide +kernel⟩,
   ⟨(false), (clm3), 408, State.admitsRead_of (by decide +kernel), by decide +kernel⟩,
   ⟨(true), (r), State.admitsRead_of (by decide +kernel), by decide +kernel⟩,
   ⟨((r.put RGT_ROLE_DBG_ROLE 3).setWord (RGT_PERM 2) 0x33), State.admitsRead_of (by decide +kernel)⟩,
   ⟨(Who.sup true), 0#32, (r), (((r) : State).admitted ((Who.sup true) : Who) EVR_SWEV (0#32 : Word)), State.admits_admitted (by decide +kernel), by decide +kernel⟩⟩

theorem witness_PermissionTableSealed :
    (∃ (e : Fin 256) (v : Word) (s : State) (u : State), s.bit RGT_STAT_SEALED = false ∧ s.admits (Who.sup true) (RGT_PERM ↑e) v u ∧ ↑e ≠ 1 ∧ permNamesPage ↑e = true ∧ v &&& ~~~119 = 0 ∧ legalAt (RGT_PERM ↑e) v = true)
    ∧ (∃ (who : Who) (s : State), s.busQueue who = (s, false) ∧ (who ≠ Who.sup true ∨ s.bit RGT_STAT_SEALED = true))
    ∧ (∃ (v : Word) (s : State) (u : State), s.admits (Who.sup true) RGT_SEAL v u ∧ u.get RGT_SEAL_KEY = 0 ∧ bitsOf v 15 0 = 24225 ∧ u.bit RGT_STAT_SEALED = false)
    ∧ (∃ (s : State), s.cores.haltReq = false ∧ s.bit RGT_STAT_SEALED = true)
    ∧ (∃ (s : State), s.cores.haltReq = false ∧ s.bit RGT_STAT_SEALED = false)
    ∧ (∃ (s : State), s.cores.haltReq = true) :=
  ⟨⟨0, 0#32, (r), (((r) : State).admitted (Who.sup true) (RGT_PERM ↑(0 : Fin 256)) (0#32 : Word)), by decide +kernel, State.admits_admitted (by decide +kernel), by decide +kernel⟩,
   ⟨(Who.sup true), (r.putBit RGT_STAT_SEALED true), by decide +kernel⟩,
   ⟨24225#32, (r), (((r) : State).admitted (Who.sup true) RGT_SEAL (24225#32 : Word)), State.admits_admitted (by decide +kernel), by decide +kernel⟩,
   ⟨(r.putBit RGT_STAT_SEALED true), by decide +kernel⟩,
   ⟨r, by decide +kernel⟩,
   ⟨{ r with cores := { haltReq := true } }, by decide +kernel⟩⟩

/-- The cores run. -/
def up : State := { r with bus := { r.bus with coresHeld := false } }

theorem witness_RolesAndChallenge :
    (∃ (dbg : Bool) (v : Word) (s : State), legalAt (roleReg dbg) v = true ∧ s.busQueue (Who.sup true) = (s, false) ∧ s.auditWaits (Who.sup true) = false)
    ∧ (∃ (a1 : Word) (s : State) (c : List Byte), s.dtcmBytes (BitVec.toNat a1) 204 = some c ∧ credFormat c = true ∧ s.bit RGT_STAT_CHAL_VALID = true ∧ s.auditWaits (Who.sup true) = false ∧ s.issues (Who.sup true) = true ∧ s.dtcmSeen (BitVec.toNat a1) 204 = s ∧ (s.bit SYS_STRAP_RECOVERY = false ∨ c.getD 4 0 = 3))
    ∧ (∃ (a1 : Word) (s : State) (c : List Byte), (s.dtcmBytes (BitVec.toNat a1) 204).getD [] = c ∧ (s.credJudge c).snd ≠ 0 ∧ s.issues (Who.sup true) = true ∧ (s.bit SYS_STRAP_RECOVERY = false ∨ c.getD 4 0 = 3))
    ∧ (∃ (role : Word) (dbg : Bool) (s : State), BitVec.toNat role ≤ s.get { addr := roleReg dbg, hi := 2, lo := 0 } ∧ legalAt (roleReg dbg) role = true ∧ s.issues (Who.sup true) = true ∧ s.auditWaits (Who.sup true) = false)
    ∧ (∃ (role : Word) (dbg : Bool) (s : State), s.get { addr := roleReg dbg, hi := 2, lo := 0 } < BitVec.toNat role ∧ s.issues (Who.sup true) = true)
    ∧ (∃ (a1 : Word) (s : State) (c : List Byte), s.issues (Who.sup true) = true ∧ s.bit SYS_STRAP_RECOVERY = true ∧ (s.dtcmBytes (BitVec.toNat a1) 204).getD [] = c ∧ credFormat c = true ∧ c.getD 4 0 ≠ 3)
    ∧ (∃ (s : State), s.issues (Who.sup true) = false)
    ∧ (∃ (who : Who) (s : State), s.admitsRead who (RGT_CHAL 0)) :=
  ⟨⟨(false), 0#32, (r), by decide +kernel⟩,
   ⟨402653184#32, (chv (crd up 3 1)), (Option.get (((chv (crd up 3 1)) : State).dtcmBytes (BitVec.toNat (402653184#32 : Word)) 204) (by decide +kernel)), by decide +kernel⟩,
   ⟨0#32, up, [], by decide +kernel⟩,
   ⟨0#32, (false), up, by decide +kernel⟩,
   ⟨1#32, (false), up, by decide +kernel⟩,
   ⟨402653184#32, (crd up 1 1).putBit SYS_STRAP_RECOVERY true, credB 1 1, by decide +kernel⟩,
   ⟨{ up with boot := { up.boot with porst := true } }, by decide +kernel⟩,
   ⟨(Who.sup true), (r), State.admitsRead_of (by decide +kernel)⟩⟩

end Sys2Proof.Tests.RightsW

namespace Sys2Proof.Tests.VaultW

def r : State := State.reset
def nx (o : Out) : State := match o with | .next t => t | _ => State.reset
def vb : State := { r with vlt := { cmd := some { cmd := 1, region := 2, value := 0, addr := 80, data := 5, cells := [(80, 5, 5), (511, 1, 1)] }, aN := [(3,7)], aS := [(3,7)], bN := [(3,7)], bS := [(3,7)] } }
def fz (l : List (Nat × Word)) : Vlt := { aN := l, aS := l, bN := l, bS := l }
def fldw : List (Nat × Word) := (List.range 12).map (fun i => (112 + i, 0xFFFFFFFF))
def hold0 : State := { r with vlt := fz (fldw ++ [(512, 4)]) }
def held : State := nx (execVaultScan hold0)
def heldOk : State := { held with vlt := { held.vlt with aN := [], aS := [], bN := [], bS := [] } }
def ovr : State := r.put VLT_LC_LC lcMAKERTEST
def rlk : State := { r with vlt := fz [(513, 0xFF)] }

theorem witness_VaultScansAndCommandsStart :
    (∃ (s : State), s.inReset = false ∧ s.bit VLT_STAT_SCAN_DONE = false ∧ s.vltHolds = false)
    ∧ (∃ (s : State), s.inReset = false ∧ s.bit VLT_STAT_SCAN_DONE = false ∧ s.vltHolds = true)
    ∧ (∃ (s : State), s.vlt.hold.isSome = true ∧ s.vltHolds = false ∧ s.boot.porst = false ∧ s.boot.rail = false) :=
  ⟨⟨(r), by decide +kernel⟩,
   ⟨(hold0), by decide +kernel⟩,
   ⟨(heldOk), by decide +kernel⟩⟩

theorem witness_VaultCommandsEndAndServices :
    (∃ (s : State) (c : VltCmd), s.vlt.cmd = some c ∧ c.cells ≠ [])
    ∧ (∃ (s : State), s.vlt.cmd = none)
    ∧ (∃ (who : Who) (v : Word) (s : State) (u : State), s.admits who VLT_PKEY v u ∧ legalAt VLT_PKEY v = true ∧ bitsOf v 15 0 = 2846)
    ∧ (∃ (who : Who) (v : Word) (s : State) (u : State), s.admits who VLT_SHDAT v u ∧ u.mayOverride (vltRegion (u.get VLT_SHADR_ADDR)) = true)
    ∧ (∃ (who : Who) (v : Word) (s : State) (u : State), s.admits who VLT_OVR v u ∧ legalAt VLT_OVR v = true ∧ (∀ (r : Nat), r < 8 → tb v r = true → u.mayOverride r = true))
    ∧ (∃ (who : Who) (w : Fin 512) (s : State), s.admitsRead who (1074464768 + 4 * ↑w) ∧ s.lc = lcSCRAPPED ∧ (vltRegion ↑w = 4 ∨ vltRegion ↑w = 6 ∨ vltRegion ↑w = 7))
    ∧ (∃ (who : Who) (w : Fin 512) (s : State), s.admitsRead who (1074464768 + 4 * ↑w) ∧ (s.lc ≠ lcSCRAPPED ∨ ¬(vltRegion ↑w = 4 ∨ vltRegion ↑w = 6 ∨ vltRegion ↑w = 7)) ∧ (s.vlt.rlock (vltRegion ↑w) = false ∨ who = Who.sup true))
    ∧ (∃ (who : Who) (w : Fin 512) (s : State), s.admitsRead who (1074464768 + 4 * ↑w) ∧ (s.lc ≠ lcSCRAPPED ∨ ¬(vltRegion ↑w = 4 ∨ vltRegion ↑w = 6 ∨ vltRegion ↑w = 7)) ∧ s.vlt.rlock (vltRegion ↑w) = true ∧ who ≠ Who.sup true) :=
  ⟨⟨(vb), (Option.get (((vb) : State).vlt.cmd) (by decide +kernel)), by decide +kernel⟩,
   ⟨(r), by decide +kernel⟩,
   ⟨(Who.sup true), 2846#32, (r), (((r) : State).admitted ((Who.sup true) : Who) VLT_PKEY (2846#32 : Word)), State.admits_admitted (by decide +kernel), by decide +kernel⟩,
   ⟨(Who.sup true), 0#32, (ovr.put VLT_SHADR_ADDR 511), (((ovr.put VLT_SHADR_ADDR 511) : State).admitted ((Who.sup true) : Who) VLT_SHDAT (0#32 : Word)), State.admits_admitted (by decide +kernel), by decide +kernel⟩,
   ⟨(Who.sup true), 0#32, (r), (((r) : State).admitted ((Who.sup true) : Who) VLT_OVR (0#32 : Word)), State.admits_admitted (by decide +kernel), by decide +kernel⟩,
   ⟨(Who.sup true), 130, (((r.put VLT_LC_LC lcSCRAPPED).setWord (RGT_PERM 11) 0)), State.admitsRead_of (by decide +kernel), by decide +kernel⟩,
   ⟨(Who.sup true), 0, (r), State.admitsRead_of (by decide +kernel), by decide +kernel⟩,
   ⟨(Who.sup false), 0, (rlk.setWord (RGT_PERM 11) 0), State.admitsRead_of (by decide +kernel), by decide +kernel⟩⟩

end Sys2Proof.Tests.VaultW

namespace Sys2Proof.Tests.TimeW
def r : State := { State.reset with clk := { now := 1000, cyc := 1200, tBase := 5000 } }
def nx (o : Out) : State := match o with | .next t => t | _ => State.reset
def ld : State := (((r.putBit TBS_STATUS_LOAD_PEND true).setWord TBS_LOAD_HI 1).setWord TBS_LOAD_LO 0xFFFFFFFF)
def al (p : Int) (w : Bool) (mf : Nat) : State := let s : State := (r.put TBS_SYNC_CTRL_MODE 3).put TBS_MFN_MFN mf; { s with clk := { s.clk with align := some (p, w) } }
def sy (m good bad : Nat) : State := let s : State := (r.put TBS_SYNC_CTRL_MODE m).put TBS_SYNC_CTRL_DLY 5; { s with clk := { s.clk with syncGood := good, syncBad := bad } }
theorem witness_FramesAndTimeLoads :
    (∃ (s : State), s.inReset = false)
    ∧ (∃ (who : Who) (v : Word) (s : State) (u : State), s.admits who TBS_CTRL (withBit v 0) u ∧ u.loadAllowed = true)
    ∧ (∃ (who : Who) (v : Word) (s : State) (u : State), s.admits who TBS_CTRL (withBit v 0) u ∧ u.loadAllowed = false)
    ∧ (∃ (s : State), s.bit TBS_STATUS_LOAD_PEND = true)
    ∧ (∃ (s : State), s.bit TBS_STATUS_LOAD_PEND = false) :=
  ⟨⟨(r), by decide +kernel⟩,
   ⟨(Who.sup true), 0#32, (r.put TBS_SYNC_CTRL_MODE 3), (((r.put TBS_SYNC_CTRL_MODE 3) : State).admitted ((Who.sup true) : Who) TBS_CTRL (withBit (0#32 : Word) 0)), State.admits_admitted (by decide +kernel), by decide +kernel⟩,
   ⟨(Who.sup true), 0#32, (r), (((r) : State).admitted ((Who.sup true) : Who) TBS_CTRL (withBit (0#32 : Word) 0)), State.admits_admitted (by decide +kernel), by decide +kernel⟩,
   ⟨(ld), by decide +kernel⟩,
   ⟨(r), by decide +kernel⟩⟩

theorem witness_SyncPulsesAlignGrid :
    (∃ (s : State), s.get TBS_SYNC_CTRL_MODE = 3)
    ∧ (∃ (err : Int) (s : State), s.get TBS_SYNC_CTRL_MODE = 2 ∧ 2 < (fromGrid (err - ↑(s.get TBS_SYNC_CTRL_DLY))).natAbs ∧ s.clk.syncBad = 3)
    ∧ (∃ (s : State), s.get TBS_SYNC_CTRL_MODE < 2)
    ∧ (∃ (s : State), s.get TBS_SYNC_CTRL_MODE = 2 ∧ s.clk.missing = false)
    ∧ (∃ (s : State) (tp : Int) (wide : Bool), s.clk.align = some (tp, wide) ∧ s.get TBS_SYNC_CTRL_MODE = 3) :=
  ⟨⟨(al 5100 false 3), by decide +kernel⟩,
   ⟨0, (sy 2 0 3), by decide +kernel⟩,
   ⟨(r), by decide +kernel⟩,
   ⟨(sy 2 0 3), by decide +kernel⟩,
   ⟨(al 5100 false 3), (Option.get (((al 5100 false 3) : State).clk.align) (by decide +kernel)).1, (Option.get (((al 5100 false 3) : State).clk.align) (by decide +kernel)).2, by decide +kernel⟩⟩

theorem witness_ClockAndSupplyFaults :
    (∃ (p : Pll) (s : State), s.pllLocked p = true)
    ∧ (∃ (p : Pll) (s : State), s.pllLocked p = false)
    ∧ (∃ (bits : List Bool), bits.length = scanPins.length) :=
  ⟨⟨(.frame), (nx (execPllLock .frame r)), by decide +kernel⟩,
   ⟨(.frame), (r), by decide +kernel⟩,
   ⟨(List.replicate scanPins.length true), by decide +kernel⟩⟩

end Sys2Proof.Tests.TimeW

namespace Sys2Proof.Tests.LinksW

def r : State := { State.reset with clk := { now := 1000, cyc := 20, tBase := 5000 } }
def ls (s : State) (k st : Nat) : State := (s.put (LNK_STATUS_STATE k) st).putBit (LNK_CTRL_EN k) true
def md (s : State) (k : Nat) (f : LinkSt → LinkSt) : State := s.modLink k f
def cto : Cmd := { owner := .training, op := 1, arg := 0, frames := 100000 }
def cand : State := ((ls r 3 lsTRAINED).putBit (LNK_BOOT_EN 3) true).put (LNK_BOOT_DESC 3) 2
def candR : State := { cand with rounds := [(2, { step := .requested })] }

theorem witness_LinkControl :
    (∃ (who : Who) (k : Link) (v : Word) (s : State) (u : State), ↑k < s.nLinks ∧ s.admits who (LNK_CTRL ↑k) (withBit v 1) u ∧ legalAt (LNK_CTRL ↑k) (withBit v 1) = true ∧ tb v 0 = true ∧ (u.link ↑k).offPend = false ∧ (u.lstate ↑k = lsOFF ∨ u.lstate ↑k = lsFAILED) ∧ u.scrapped = false)
    ∧ (∃ (who : Who) (k : Link) (v : Word) (s : State) (u : State), ↑k < s.nLinks ∧ s.admits who (LNK_CTRL ↑k) (withBit v 1) u ∧ legalAt (LNK_CTRL ↑k) (withBit v 1) = true ∧ tb v 0 = true ∧ (u.link ↑k).offPend = false ∧ (u.lstate ↑k = lsOFF ∨ u.lstate ↑k = lsFAILED) ∧ u.scrapped = true)
    ∧ (∃ (who : Who) (k : Link) (v : Word) (s : State) (u : State), ↑k < s.nLinks ∧ s.admits who (LNK_CTRL ↑k) (v &&& ~~~1) u ∧ legalAt (LNK_CTRL ↑k) (v &&& ~~~1) = true ∧ bitsOf v 13 12 = u.role ↑k ∧ u.bit (LNK_CTRL_EN ↑k) = true ∧ u.lstate ↑k ≠ lsOFF)
    ∧ (∃ (who : Who) (k : Link) (v : Word) (s : State) (u : State), ↑k < s.nLinks ∧ s.admits who (LNK_CTRL ↑k) (withBit v 15) u ∧ legalAt (LNK_CTRL ↑k) (withBit v 15) = true ∧ bitsOf v 13 12 = u.role ↑k ∧ tb v 0 = u.bit (LNK_CTRL_EN ↑k) ∧ tb v 1 = false) :=
  ⟨⟨(Who.sup true), 0, 1#32, (r), (((r) : State).admitted ((Who.sup true) : Who) (LNK_CTRL ↑(0 : Link)) (withBit (1#32 : Word) 1)), by decide +kernel, State.admits_admitted (by decide +kernel), by decide +kernel⟩,
   ⟨.sup true, 0, 1#32, r.put VLT_LC_LC 4, (r.put VLT_LC_LC 4).admitted (.sup true) (LNK_CTRL (0 : Link)) (withBit (1#32 : Word) 1), by decide +kernel, State.admits_admitted (by decide +kernel), by decide +kernel⟩,
   ⟨(Who.sup true), 3, 0#32, ((ls r 3 lsFAILED)), ((((ls r 3 lsFAILED)) : State).admitted ((Who.sup true) : Who) (LNK_CTRL ↑(3 : Link)) ((0#32 : Word) &&& ~~~1)), by decide +kernel, State.admits_admitted (by decide +kernel), by decide +kernel⟩,
   ⟨(Who.sup true), 0, 0#32, (r), (((r) : State).admitted ((Who.sup true) : Who) (LNK_CTRL ↑(0 : Link)) (withBit (0#32 : Word) 15)), by decide +kernel, State.admits_admitted (by decide +kernel), by decide +kernel⟩⟩

theorem witness_TrainingSteps :
    (∃ (k : Link) (s : State), s.lstate ↑k = lsLOCK ∧ 1024 ≤ (s.link ↑k).lockFrames)
    ∧ (∃ (k : Link) (s : State) (mean : Nat), s.lstate ↑k = lsMEASURE ∧ mean ≤ 800)
    ∧ (∃ (k : Link) (s : State) (mean : Nat), s.lstate ↑k = lsMEASURE ∧ 800 < mean)
    ∧ (∃ (k : Link) (s : State) (mean : Int), s.lstate ↑k = lsVERIFY ∧ -2 ≤ mean ∧ mean ≤ 2)
    ∧ (∃ (k : Link) (s : State) (mean : Int), s.lstate ↑k = lsVERIFY ∧ 2 < mean.natAbs ∧ (s.link ↑k).verified = false)
    ∧ (∃ (k : Link) (s : State) (mean : Int), s.lstate ↑k = lsVERIFY ∧ 2 < mean.natAbs ∧ (s.link ↑k).verified = true)
    ∧ (∃ (k : Link) (s : State) (mean : Int), (s.link ↑k).remeasOn = true ∧ (s.link ↑k).remeasOk = true ∧ s.trained ↑k = true ∧ mean.natAbs ≤ 100) :=
  ⟨⟨3, (md (ls r 3 lsLOCK) 3 fun l => { l with lockFrames := 1024 }), by decide +kernel⟩,
   ⟨3, (ls r 3 lsMEASURE), 0, by decide +kernel⟩,
   ⟨3, (ls r 3 lsMEASURE), 801, by decide +kernel⟩,
   ⟨3, (ls r 3 lsVERIFY), 0, by decide +kernel⟩,
   ⟨3, (ls r 3 lsVERIFY), 3, by decide +kernel⟩,
   ⟨3, (md (ls r 3 lsVERIFY) 3 fun l => { l with verified := true }), 3, by decide +kernel⟩,
   ⟨3, (md ((ls r 3 lsTRAINED).put (LNK_TIMING_ADV 3) 395) 3 fun l => { l with remeasOn := true, remeasOk := true }), 0, by decide +kernel⟩⟩

theorem witness_LinkLossWatchdogTimeouts :
    (∃ (k : Link) (s : State), ↑k < s.nLinks ∧ s.trained ↑k = true ∧ 4 ≤ (s.link ↑k).missed)
    ∧ (∃ (k : Link) (s : State), ↑k < s.nLinks ∧ s.trained ↑k = true ∧ s.get (LNK_WDOG_LIMIT ↑k) ≠ 0 ∧ s.get (LNK_WDOG_LIMIT ↑k) ≤ s.get (LNK_STATUS_STALE_CNT ↑k) ∧ (s.link ↑k).wdogEp = false)
    ∧ (∃ (who : Who) (k : Link) (v : Word) (s : State) (u : State), s.admits who (LNK_ACT ↑k) v u ∧ u.bit (LNK_CTRL_ACT_SRC ↑k) = true ∧ u.safe = false)
    ∧ (∃ (who : Who) (k : Link) (v : Word) (s : State) (u : State), s.admits who (LNK_ACT ↑k) v u ∧ (u.bit (LNK_CTRL_ACT_SRC ↑k) = false ∨ u.safe = true))
    ∧ (∃ (k : Link) (s : State) (c : Cmd), (s.link ↑k).cmd = some c ∧ c.acked = false ∧ s.cmdLimit (↑k) c ≤ c.frames ∧ (c.owner = CmdOwner.training → s.trained ↑k = false)) :=
  ⟨⟨3, (md (ls r 3 lsTRAINED) 3 fun l => { l with missed := 4, seize := some {} }), by decide +kernel⟩,
   ⟨3, ((ls r 3 lsTRAINED |>.put (LNK_WDOG_LIMIT 3) 255).put (LNK_STATUS_STALE_CNT 3) 255), by decide +kernel⟩,
   ⟨(Who.sup true), 3, 0#32, ((ls r 3 lsTRAINED).putBit (LNK_CTRL_ACT_SRC 3) true), ((((ls r 3 lsTRAINED).putBit (LNK_CTRL_ACT_SRC 3) true) : State).admitted ((Who.sup true) : Who) (LNK_ACT ↑(3 : Link)) (0#32 : Word)), State.admits_admitted (by decide +kernel), by decide +kernel⟩,
   ⟨(Who.sup true), 0, 0#32, (md (ls r 3 lsTRAINED) 3 fun l => { l with missed := 4, seize := some {} }), (((md (ls r 3 lsTRAINED) 3 fun l => { l with missed := 4, seize := some {} }) : State).admitted ((Who.sup true) : Who) (LNK_ACT ↑(0 : Link)) (0#32 : Word)), State.admits_admitted (by decide +kernel), by decide +kernel⟩,
   ⟨3, md (ls r 3 lsLOCK) 3 (fun l => { l with cmd := some cto }), cto, by decide +kernel⟩⟩

def ud (sq : BitVec 8) : UpData := { st := 0xC8, v := 800, i := 1000, t := 7, x := 0x9123, sq := sq }
/-- Link 3 of a role, its queue, an enabled purse, string 0 and LINK channel 2 on it. -/
def mbs (role : Nat) (q : List (Entry UpData)) : State :=
  let s : State := md ((((ls r 3 lsTRAINED).put (LNK_CTRL_ROLE 3) role).put (LDG_WCH_SRC 2) 1).put (LDG_WCH_LINK 2) 3) 3 fun l => { l with queue := q }
  { s with
    mint := { s.mint with run := true, purses := [(3, { on := true, bal := 100 })] }
    bat := { s.bat with act := SMap.set resetWord (SMap.set resetWord s.bat.act BAT_CTRL 0xFFFFFFFF) (BAT_SCFG 0) (setBits 0 (BAT_SCFG_LINK 0).hi (BAT_SCFG_LINK 0).lo 3) } }
def vc (ov uv : Bool) (role : Nat) : State :=
  md ((((((ls r 3 lsTRAINED).put (LNK_CTRL_ROLE 3) role).put (LNK_PROT_VLIM_OV_CEIL 3) 1000).put (LNK_PROT_VLIM_UV_FLOOR 3) 500).putBit (LNK_PROT_CTRL_OV_ACT 3) ov).putBit (LNK_PROT_CTRL_UV_ACT 3) uv) 3
    fun l => { l with protBase := { uv := true, ramp := false } }
def fed (st : Nat) (on : Bool) : State := (((mbs 0 []).putBit (FSM_CTRL_EN 3) on).put (FSM_STATUS_STATE 3) st)

theorem witness_UpstreamFramesAndMailboxes :
    (∃ (k : Link) (f : UpFrame) (s : State), f.wellFormed = true ∧ s.lstate ↑k = lsOFF)
    ∧ (∃ (k : Link) (f : UpFrame) (s : State), f.wellFormed = true ∧ ↑k < s.nLinks ∧ s.trained ↑k = true)
    ∧ (∃ (k : Nat) (s : State) (u : UpData), s.inReset = false ∧ k < s.nLinks ∧ s.arrives k u ∧ (s.role k = rlFEED ∧ s.mint.run = true ∧ s.safe = false
      ∧ (s.purse k).on = true ∧ s.eccRead 76 (mintWordOf (MNT_PCFG k)) ≠ .bad ∧ s.bit (FCU_INJ_ARM 76) = false
      ∧ s.get (LDG_WCH_SRC 2) = 1 ∧ s.get (LDG_WCH_LINK 2) = k ∧ s.bit (LDG_WST_FROZEN 2) = false ∧ (s.wch 2).left ≠ some 0
      ∧ s.eccRead 73 ((2 * 0x10000 + 8 * s.get (LDG_WST_WIDX 2)) / 16) ≠ .bad))
    ∧ (∃ (k : Nat) (s : State), s.inReset = false ∧ k < s.nLinks ∧ s.missing k ∧ (s.role k = rlFEED ∧ s.mint.run = true ∧ s.safe = false
      ∧ (s.purse k).on = true ∧ s.strOn 0 = true ∧ s.bget (BAT_SCFG_LINK 0) = k))
    ∧ (∃ (k : Nat) (s : State) (u : UpData), s.inReset = false ∧ k < s.nLinks ∧ s.arrives k u ∧ (s.role k = rlBATT ∧ s.strOn 0 = true ∧ s.bget (BAT_SCFG_LINK 0) = k)) :=
  ⟨⟨0, { syms := [LSym.k 0xbc#8, LSym.d 0xc8#8, LSym.d 0x01#8, LSym.d 0x02#8, LSym.d 0x03#8, LSym.d 0x04#8, LSym.d 0x05#8, LSym.d 0x06#8, LSym.d 0x07#8, LSym.d 0x08#8, LSym.d 0x00#8, LSym.d 0x39#8] }, (ls r 3 lsTRAINED), by decide +kernel⟩,
   ⟨3, { syms := [LSym.k 0xbc#8, LSym.d 0xc8#8, LSym.d 0x01#8, LSym.d 0x02#8, LSym.d 0x03#8, LSym.d 0x04#8, LSym.d 0x05#8, LSym.d 0x06#8, LSym.d 0x07#8, LSym.d 0x08#8, LSym.d 0xf0#8, LSym.bad] }, (ls r 3 lsTRAINED), by decide +kernel⟩,
   ⟨3, mbs 0 [{ val := ud 0xF4 }], ud 0xF4, by decide +kernel, by decide +kernel, ⟨by decide +kernel, by decide +kernel⟩, by decide +kernel⟩,
   ⟨3, mbs 0 [{ val := ud 0xE4 }], by decide +kernel, by decide +kernel, by unfold State.missing; decide +kernel, by decide +kernel⟩,
   ⟨3, mbs 2 [{ val := ud 0xF4 }], ud 0xF4, by decide +kernel, by decide +kernel, ⟨by decide +kernel, by decide +kernel⟩, by decide +kernel⟩⟩

theorem witness_ComparisonsPreempt :
    (∃ (k : Link) (x : BitVec 16) (s : State), s.trained ↑k = true ∧ s.bit FCU_STAT_TX_OFF = false ∧ (↑(s.ftEff ↑k) < x.toInt ∨ x.toInt < -↑(s.ftEff ↑k)) ∧ (s.link ↑k).tripPos = none)
    ∧ (∃ (k : Link) (x : BitVec 16) (s : State), s.trained ↑k = true ∧ s.bit FCU_STAT_TX_OFF = false ∧ -↑(s.ftEff ↑k) ≤ x.toInt ∧ x.toInt ≤ ↑(s.ftEff ↑k))
    ∧ (∃ (k : Link) (s : State) (bad : Bool), s.trained ↑k = true ∧ s.bit FCU_STAT_TX_OFF = false ∧ (bad = true ∨ (s.link ↑k).noCmp = true))
    ∧ (∃ (k : Link) (x : BitVec 16) (s : State), s.trained k = true ∧ s.bit FCU_STAT_TX_OFF = false ∧ (s.link k).noCmp = false
      ∧ (s.ovEff k : Int) < x.toInt ∧ s.bit (LNK_PROT_CTRL_OV_ACT k) = true ∧ (s.link k).tripPos = none)
    ∧ (∃ (k : Link) (x : BitVec 16) (s : State), s.trained k = true ∧ s.bit FCU_STAT_TX_OFF = false ∧ (s.link k).noCmp = false
      ∧ x.toInt < (s.uvEff k : Int) ∧ s.uvActive k = true ∧ s.bit (LNK_PROT_CTRL_UV_ACT k) = true ∧ (s.link k).tripPos = none)
    ∧ (∃ (k : Link) (x : BitVec 16) (s : State), s.trained k = true ∧ s.bit FCU_STAT_TX_OFF = false ∧ (s.link k).noCmp = false
      ∧ (s.ovEff k : Int) < x.toInt ∧ s.bit (LNK_PROT_CTRL_OV_ACT k) = false ∧ x.toInt < (s.uvEff k : Int) ∧ s.uvActive k = true ∧ s.bit (LNK_PROT_CTRL_UV_ACT k) = false)
    ∧ (∃ (k : Link) (x : BitVec 16) (s : State), s.trained k = true ∧ s.bit FCU_STAT_TX_OFF = false ∧ (s.link k).noCmp = false
      ∧ (s.ovEff k : Int) < x.toInt ∧ s.bit (LNK_PROT_CTRL_OV_ACT k) = false ∧ ¬ (x.toInt < (s.uvEff k : Int) ∧ s.uvActive k = true)
      ∧ s.role k = rlRECT ∧ (s.link k).ovEp = false ∧ s.otherRect k (fun l => l.ovEp) = false ∧ s.srcAbsent 74 = false)
    ∧ (∃ (k : Link) (x : BitVec 16) (s : State), s.trained k = true ∧ s.bit FCU_STAT_TX_OFF = false ∧ (s.link k).noCmp = false
      ∧ ¬ (s.ovEff k : Int) < x.toInt ∧ x.toInt < (s.uvEff k : Int) ∧ s.uvActive k = true ∧ s.bit (LNK_PROT_CTRL_UV_ACT k) = false
      ∧ s.role k = rlFEED ∧ (s.link k).uvRaised = false)
    ∧ (∃ (k : Link) (x : BitVec 16) (s : State), s.trained k = true ∧ s.bit FCU_STAT_TX_OFF = false ∧ (s.link k).noCmp = false
      ∧ ¬ (s.ovEff k : Int) < x.toInt ∧ ¬ (x.toInt < (s.uvEff k : Int) ∧ s.uvActive k = true)) :=
  ⟨⟨3, 1001#16, ((ls r 3 lsTRAINED).put (LNK_PROT_ILIM_FT_CEIL 3) 1000), by decide +kernel⟩,
   ⟨3, 3#16, ((ls r 3 lsTRAINED).put (LNK_PROT_ILIM_FT_CEIL 3) 1000), by decide +kernel⟩,
   ⟨3, ((ls r 3 lsTRAINED).put (LNK_PROT_ILIM_FT_CEIL 3) 1000), (true), by decide +kernel⟩,
   ⟨3, 1001#16, vc true true 0, by decide +kernel⟩,
   ⟨3, 499#16, vc true true 0, by decide +kernel⟩,
   ⟨3, 1001#16, (vc false false 0).put (LNK_PROT_VLIM_UV_FLOOR 3) 1002, by decide +kernel⟩,
   ⟨3, 1001#16, vc false false 1, by decide +kernel⟩,
   ⟨3, 0x8000#16, vc false false 0, by decide +kernel⟩,
   ⟨3, 1000#16, vc false false 0, by decide +kernel⟩⟩

theorem witness_DownstreamFramesAndCopies :
    (∃ (s : State) (k : Nat), s.inReset = false ∧ k < s.nLinks ∧ s.sending k = true)
    ∧ (∃ (k : Nat) (s : State), s.inReset = false ∧ k < s.nLinks ∧ s.feedOn k = true ∧ (s.feed k).adopt = none ∧ s.fstate k = fsFETFAULT
      ∧ s.safe = false ∧ s.mint.run = true ∧ (s.purse k).on = true ∧ s.role k = rlFEED)
    ∧ (∃ (k : Nat) (s : State), s.inReset = false ∧ k < s.nLinks ∧ s.feedOn k = true ∧ (s.feed k).adopt = none ∧ s.fstate k = fsTRANSFER
      ∧ s.bit (FSM_STATUS_PHASE k) = false)
    ∧ (∃ (k : Nat) (s : State), s.inReset = false ∧ k < s.nLinks ∧ s.feedOn k = false ∧ s.safe = true) :=
  ⟨⟨ls r 3 lsTRAINED, 3, by decide +kernel⟩, ⟨3, fed 8 true, by decide +kernel⟩, ⟨3, fed 9 true, by decide +kernel⟩,
   ⟨3, (fed 9 false).putBit FCU_STAT_SAFE true, by decide +kernel⟩⟩

theorem witness_BootstrapRounds :
    (∃ (who : Who) (v : Word) (s : State) (u : State), s.admits who LNK_BGO v u)
    ∧ (∃ (n : Fin 4) (s : State) (k : Nat), (s.round ↑n).step = RoundStep.requested ∧ s.safe = false ∧ k ∈ s.candidates ↑n ∧ (s.link k).ramKib = none ∧ (s.get { addr := LNK_BIMG_LEN ↑n, hi := 15, lo := 0 } = 0 ∨ imageInside (s.get { addr := LNK_BIMG_ADDR ↑n, hi := 31, lo := 3 } * 8) (8 * s.get { addr := LNK_BIMG_LEN ↑n, hi := 15, lo := 0 }) = true))
    ∧ (∃ (k : Link) (s : State) (m : BootMember), (s.link ↑k).boot = some m ∧ m.done = true ∧ 16 ≤ m.outcome) :=
  ⟨⟨(Who.sup true), 0#32, (r), (((r) : State).admitted ((Who.sup true) : Who) LNK_BGO (0#32 : Word)), State.admits_admitted (by decide +kernel)⟩,
   ⟨2, (candR), 3, by decide +kernel⟩,
   ⟨3, (md (ls r 3 lsTRAINED) 3 fun l => { l with boot := some { round := 1, done := true, outcome := 16 } }), (Option.get ((((md (ls r 3 lsTRAINED) 3 fun l => { l with boot := some { round := 1, done := true, outcome := 16 } }) : State).link ↑(3 : Link)).boot) (by decide +kernel)), by decide +kernel⟩⟩

theorem witness_SeizesAndAudits :
    (∃ (who : Who) (w : Fin 3) (v : Word) (s : State) (u : State), s.admits who (LNK_RESEIZE ↑w) v u ∧ u.holder = true ∧ u.safe = false)
    ∧ (∃ (k : Link) (s : State) (z : Seize), (s.link ↑k).seize = some z ∧ 4 ≤ z.sent)
    ∧ (∃ (s : State), s.holder = false) :=
  ⟨⟨(Who.sup true), 2, 2147483648#32, ((ls (r.putBit LNK_EPOCH_HOLDER true) 95 lsTRAINED)), ((((ls (r.putBit LNK_EPOCH_HOLDER true) 95 lsTRAINED)) : State).admitted ((Who.sup true) : Who) (LNK_RESEIZE ↑(2 : Fin 3)) (2147483648#32 : Word)), State.admits_admitted (by decide +kernel), by decide +kernel⟩,
   ⟨95, ((md (ls r 95 lsTRAINED) 95 fun l => { l with seize := some { sent := 4 } }).setBm LNK_RESEIZE 95 true), (Option.get (((((md (ls r 95 lsTRAINED) 95 fun l => { l with seize := some { sent := 4 } }).setBm LNK_RESEIZE 95 true) : State).link ↑(95 : Link)).seize) (by decide +kernel)), by decide +kernel⟩,
   ⟨(r), by decide +kernel⟩⟩

end Sys2Proof.Tests.LinksW

namespace Sys2Proof.Tests.CompanionW

def r : State := { State.reset with clk := { now := 1000, cyc := 20, tBase := 5000 } }
def cm (k : Nat) (c : Comp) : State := { r with comps := [(k, c)] }
def pt : CompPort := { nopSeen := true }

theorem witness_CompanionObeys :
    (∃ (k : Link) (p : Port) (s : State) (e : BitVec 16), (s.comp ↑k).accepts p e = true)
    ∧ (∃ (k : Link) (p : Port) (s : State) (e : BitVec 16), (s.comp ↑k).accepts p e = false)
    ∧ (∃ (k : Link) (s : State), (s.comp ↑k).role.isSome = true ∧ (s.comp ↑k).hold = false ∧ (s.comp ↑k).autonomous = false)
    ∧ (∃ (k : Link) (s : State), (s.comp ↑k).hold = true)
    ∧ (∃ (arg : BitVec 16), arg = 0)
    ∧ (∃ (arg : BitVec 16), arg.toNat ≤ 400)
    ∧ (∃ (k : Link) (p : Port) (arg : BitVec 16) (s : State), (s.comp ↑k).hears p = true ∧ 1 ≤ arg.toNat ∧ arg.toNat ≤ 10000)
    ∧ (∃ (k : Link) (p : Port) (arg : BitVec 16) (s : State), (s.comp ↑k).hears p = true ∧ arg.toNat < 4 ∧ (s.comp ↑k).bootCheck ≠ 0)
    ∧ (∃ (k : Link) (p : Port) (arg : BitVec 16) (s : State), (s.comp ↑k).hears p = true ∧ arg.toNat < 4 ∧ (s.comp ↑k).bootCheck = 0)
    ∧ (∃ (k : Link) (p : Port) (arg : BitVec 16) (s : State), arg = 23130 ∧ ((s.comp ↑k).role = none ∨ (s.comp ↑k).underAuthority p = true))
    ∧ (∃ (k : Link) (p : Port) (arg : BitVec 16) (s : State), (s.comp ↑k).feedCmd p = true ∧ (s.comp ↑k).acta.toInt ≤ 0 ∧ arg.toNat < 2)
    ∧ (∃ (k : Link) (p : Port) (arg : BitVec 16) (s : State), (s.comp ↑k).feedCmd p = true ∧ (s.comp ↑k).acta.toInt ≤ 0 ∧ arg = 0)
    ∧ (∃ (k : Link) (p : Port) (arg : BitVec 16) (s : State), (s.comp ↑k).feedCmd p = true ∧ 1000 ≤ arg.toNat) :=
  ⟨⟨3, (.own), (cm 3 { role := some .feed, own := { pt with ep := some 4, age := 0 }, obeyed := some .own, acta := 0, imageValid := true, localTrip := true, side := true }), 95#16, by decide +kernel⟩,
   ⟨3, (.own), (r), 3#16, by decide +kernel⟩,
   ⟨3, (cm 3 { role := some .feed, own := { pt with ep := some 4, age := 0 }, obeyed := some .own, acta := 0, imageValid := true, localTrip := true, side := true }), by decide +kernel⟩,
   ⟨3, (cm 3 { role := some .feed, own := { pt with ep := some 4, age := 0 }, twin := { pt with ep := some 3, age := 0 }, obeyed := some .own, acta := 100, hold := true }), by decide +kernel⟩,
   ⟨0#16, by decide +kernel⟩,
   ⟨3#16, by decide +kernel⟩,
   ⟨3, (.own), 3#16, (r), by decide +kernel⟩,
   ⟨3, (.own), 3#16, (r), by decide +kernel⟩,
   ⟨3, (.own), 3#16, (cm 3 { own := pt, twin := pt, bootPort := some .own, bootLen := 0, bootGot := 0, imageValid := true }), by decide +kernel⟩,
   ⟨3, (.own), 23130#16, (r), by decide +kernel⟩,
   ⟨3, (.own), 0#16, (cm 3 { role := some .feed, own := { pt with ep := some 4, age := 0 }, obeyed := some .own, acta := 0, imageValid := true, localTrip := true, side := true }), by decide +kernel⟩,
   ⟨3, (.own), 0#16, (cm 3 { role := some .feed, own := { pt with ep := some 4, age := 0 }, obeyed := some .own, acta := 0, imageValid := true, localTrip := true, side := true }), by decide +kernel⟩,
   ⟨3, (.own), 23130#16, (cm 3 { role := some .feed, own := { pt with ep := some 4, age := 0 }, obeyed := some .own, acta := 0, imageValid := true, localTrip := true, side := true }), by decide +kernel⟩⟩

end Sys2Proof.Tests.CompanionW

namespace Sys2Proof.Tests.FeedW

def r : State := { State.reset with clk := { now := 1000, cyc := 20, tBase := 5000 } }
def mkF (st : Nat) (stale : Bool) (sb : Nat) (v i : Int) (a0 a1 a4 a10 : Nat) (phase pres side : Bool) (f : Feed) : State :=
  let s : State := (r.putBit (FSM_CTRL_EN 3) true).put (LNK_STATUS_STATE 3) lsTRAINED
  let s : State := (s.put (FSM_STATUS_STATE 3) st).putBit (FSM_STATUS_PHASE 3) phase
  let s : State := (s.putBit (FSM_STATUS_PRES 3) pres).putBit (FSM_STATUS_SIDE 3) side
  let s : State := ((s.put (FSM_INWIN_IN_MIN 3) 100).put (FSM_INWIN_IN_MAX 3) 1000).put (FSM_FSHORT_FS_T 3) 5
  let s : State := ((s.put (FSM_RAMPCK_DONE_DV 3) 1).put (FSM_RAMPCK_RS_V 3) 10).put (FSM_SHORT_RS_I 3) 1
  let s : State := ((s.put (FSM_FSHORT_FS_V 3) 1).put (FSM_RAMPCK_SOA 3) 100).put (FSM_CFG_RMAX 3) 2
  let s : State := s.modLink 3 fun l => { l with mb := { l.mb with stale := stale, data := { st := BitVec.ofNat 8 sb, v := BitVec.ofInt 16 v, i := BitVec.ofInt 16 i }, aux := SMap.set (fun _ => 0) (SMap.set (fun _ => 0) (SMap.set (fun _ => 0) (SMap.set (fun _ => 0) [] 0 (BitVec.ofNat 32 a0)) 1 (BitVec.ofNat 32 a1)) 4 (BitVec.ofNat 32 a4)) 10 (BitVec.ofNat 32 a10) } }
  s.modFeed 3 fun _ => f
def fz : List Feed := [{}, { preT := some 1, rampT := some 1, limT := some 1, retryT := some 1, deadT := some 1, clrLim := some 1, sideLim := some 5, sideReq := some false }, { preT := some 1, rampT := some 1, shortT := some 1, limT := some 1, retryT := some 1, deadT := some 1, sideReq := some true, limExit := 7, fsCnt := 100000, dbT := some 1, autoPend := true, picked := some false, reqs := [.on, .off], episode := true, sideCnt := some 100000000, retCnt := some 100000000000, stable := 10000000000 }, { rampT := some 1, limT := some 1, deadT := some 0, reqs := [.off, .clear] , kSent := true, absent := some 100000000000000, dbT := some 1}, {reqs := [.clear, .on], adopt := some 1}]
def mk (st : Nat) (stale : Bool) (sb : Nat) (v i : Int) (pp : Bool) (fi : Nat) : State :=
  ((mkF st stale sb v i (if pp then 300 else 50) (if fi % 2 = 0 then 300 else 2000) (if stale then 32767 else i.toNat) (if pp then 0x8000 else 0) pp (st % 2 == 0 || pp) (fi == 2) (fz.getD fi {})).putBit (FSM_CFG_AUTO 3) pp).putBit (FSM_CFG_RET_EN 3) true

theorem witness_FeedTransitions :
    (∃ (s : State) (k : Link) (c : Instr), s.fstate ↑k ≤ 9 ∧ c ∈ [Instr.preMsExpiry k, Instr.fsmCmdLimit k, Instr.rampTmo k, Instr.shortRamp k, Instr.limitTmo k, Instr.retryTimer k, Instr.deadTime k, Instr.fetshort k, Instr.presenceDebounce k, Instr.episodeEnd k, Instr.sideLoss k, Instr.returnToPref k]) :=
  ⟨mk 0 true 216 0 0 true 0, 3, (Instr.preMsExpiry 3), by decide +kernel⟩

theorem witness_FeedTimerEnds :
    (∃ (k : Link) (s : State), s.feedOn ↑k = true ∧ (s.feed ↑k).adopt = none ∧ s.bit (FSM_STATUS_FROZEN ↑k) = false ∧ (s.feed ↑k).dbT = none ∧ (s.feedMb ↑k).stale = true ∧ s.fstate ↑k = fsPRECHECK ∧ (s.feed ↑k).clrLim = none ∧ (s.feed ↑k).sideLim = none)
    ∧ (∃ (k : Link) (s : State), s.feedOn ↑k = true ∧ (s.feed ↑k).adopt = none ∧ s.bit (FSM_STATUS_FROZEN ↑k) = false ∧ (s.feed ↑k).dbT = none ∧ (s.feedMb ↑k).stale = true ∧ s.fstate ↑k = fsPRECHECK ∧ (s.feed ↑k).clrLim.isSome = true ∧ stTrip (s.feedSt ↑k) = true)
    ∧ (∃ (k : Link) (s : State), s.feedOn ↑k = true ∧ (s.feed ↑k).adopt = none ∧ s.bit (FSM_STATUS_FROZEN ↑k) = false ∧ (s.feed ↑k).dbT = none ∧ (s.feedMb ↑k).stale = true ∧ s.fstate ↑k = fsRAMP ∧ (s.feed ↑k).shortT = none ∧ s.feedVin (↑k) (s.feedSideSeen ↑k) - 40 * ↑(s.get (FSM_RAMPCK_DONE_DV ↑k)) > s.feedV ↑k)
    ∧ (∃ (k : Link) (s : State), s.feedOn ↑k = true ∧ (s.feed ↑k).adopt = none ∧ s.bit (FSM_STATUS_FROZEN ↑k) = false ∧ (s.feed ↑k).dbT = none ∧ (s.feedMb ↑k).stale = true ∧ s.fstate ↑k = fsLIMIT ∧ (s.feed ↑k).limExit < 4)
    ∧ (∃ (k : Link) (s : State), s.feedOn ↑k = true ∧ (s.feed ↑k).adopt = none ∧ s.bit (FSM_STATUS_FROZEN ↑k) = false ∧ (s.feed ↑k).dbT = none ∧ (s.feedMb ↑k).stale = true ∧ s.fstate ↑k = fsRETRY ∧ (s.feed ↑k).reqs = [] ∧ (s.feed ↑k).fsCnt < evals (1000000 * s.get (FSM_FSHORT_FS_T ↑k)))
    ∧ (∃ (k : Link) (s : State), s.feedOn ↑k = true ∧ (s.feed ↑k).adopt = none ∧ s.bit (FSM_STATUS_FROZEN ↑k) = false ∧ (s.feed ↑k).dbT = none ∧ (s.feedMb ↑k).stale = true ∧ s.fstate ↑k = fsTRANSFER ∧ s.bit (FSM_STATUS_PHASE ↑k) = false ∧ (s.feed ↑k).reqs = [] ∧ (s.feed ↑k).sideReq = some (s.feedSideSeen ↑k))
    ∧ (∃ (k : Link) (s : State), s.feedOn ↑k = true ∧ (s.feed ↑k).adopt = none ∧ s.bit (FSM_STATUS_FROZEN ↑k) = false ∧ (s.feed ↑k).dbT = none ∧ (s.feedMb ↑k).stale = true ∧ s.fstate ↑k = fsON ∧ s.bit FSM_GSTAT_ACTIVE = false ∧ (s.vinOk ↑k !s.feedSideSeen ↑k) = true ∧ s.bit (FSM_STATUS_SIDE ↑k) = s.feedSideSeen ↑k)
    ∧ (∃ (k : Link) (s : State), s.feedOn ↑k = true ∧ (s.feed ↑k).adopt = none ∧ s.bit (FSM_STATUS_FROZEN ↑k) = false ∧ (s.feed ↑k).dbT = none ∧ (s.feedMb ↑k).stale = true ∧ s.fstate ↑k = fsON ∧ s.bit FSM_GSTAT_ACTIVE = false ∧ s.bit (FSM_CFG_RET_EN ↑k) = true ∧ s.feedSideSeen ↑k ≠ s.bit (FSM_CFG_PREF ↑k))
    ∧ (∃ (k : Link) (s : State), s.feedOn ↑k = true ∧ (s.feed ↑k).adopt = none ∧ s.bit (FSM_STATUS_FROZEN ↑k) = false ∧ (s.feed ↑k).dbT = none ∧ (s.feedMb ↑k).stale = false ∧ stTrip (s.feedSt ↑k) = false ∧ s.fstate ↑k = fsRAMP ∧ s.feedShort ↑k = true)
    ∧ (∃ (k : Link) (s : State), s.feedOn ↑k = true ∧ (s.feed ↑k).adopt = none ∧ s.bit (FSM_STATUS_FROZEN ↑k) = false ∧ (s.feed ↑k).dbT = none ∧ (s.feedMb ↑k).stale = false ∧ stTrip (s.feedSt ↑k) = false ∧ s.fstate ↑k = fsOFF ∧ s.feedLive ↑k = true)
    ∧ (∃ (k : Link) (s : State), s.feedOn ↑k = true ∧ (s.feed ↑k).adopt = none ∧ s.bit (FSM_STATUS_FROZEN ↑k) = false ∧ (s.feed ↑k).dbT = none ∧ (s.feedMb ↑k).stale = false ∧ stTrip (s.feedSt ↑k) = false ∧ s.fstate ↑k = fsON ∧ s.bit (FSM_STATUS_PRES ↑k) = true ∧ stPresent (s.feedSt ↑k) = false) :=
  ⟨⟨3, mk 1 true 216 0 0 true 0, by decide +kernel⟩,
   ⟨3, mk 1 true 216 0 0 true 1, by decide +kernel⟩,
   ⟨3, mk 2 true 216 0 0 true 0, by decide +kernel⟩,
   ⟨3, mk 4 true 216 0 0 true 0, by decide +kernel⟩,
   ⟨3, mk 6 true 216 0 0 true 0, by decide +kernel⟩,
   ⟨3, mk 9 true 216 0 0 false 1, by decide +kernel⟩,
   ⟨3, (mk 3 true 216 0 0 true 0).putBit (FSM_STATUS_SIDE 3) true, by decide +kernel⟩,
   ⟨3, mk 3 true 216 0 0 true 0, by decide +kernel⟩,
   ⟨3, mk 2 false 200 300 200 true 0, by decide +kernel⟩,
   ⟨3, mk 0 false 200 300 200 true 0, by decide +kernel⟩,
   ⟨3, mk 3 false 192 0 0 true 0, by decide +kernel⟩⟩

theorem witness_FeedControl :
    (∃ (k : Link) (s : State), s.feedOn ↑k = true ∧ (s.feed ↑k).adopt.isSome = true ∧ s.adoptWaits ↑k = false)
    ∧ (∃ (k : Link) (s : State), s.feedOn ↑k = true ∧ (s.feed ↑k).adopt.isSome = true ∧ s.adoptWaits ↑k = true)
    ∧ (∃ (who : Who) (v : Word) (s : State) (u : State), s.admits who FSM_GCTRL (withBit v 8) u ∧ legalAt FSM_GCTRL (withBit v 8) = true ∧ (u.apply FSM_GCTRL (withBit v 8)).get FSM_GCTRL_BLANK_T ≠ 0) :=
  ⟨⟨3, ((mkF 3 false 0xC8 0 0 0 0 5 0 false true false { adopt := some 1 })), by decide +kernel⟩,
   ⟨3, ((mkF 3 false 0xC8 0 0 0 0 5 0 false true false { adopt := some 1 }).putBit FCU_STAT_SAFE true), by decide +kernel⟩,
   ⟨(Who.sup true), 1#32, (r), (((r) : State).admitted ((Who.sup true) : Who) FSM_GCTRL (withBit (1#32 : Word) 8)), State.admits_admitted (by decide +kernel), by decide +kernel⟩⟩

end Sys2Proof.Tests.FeedW

namespace Sys2Proof.Tests.TellerW

def r : State := { State.reset with clk := { now := 1000, cyc := 1000, tBase := 5000 } }
def tk : Task := { entry := 5, base := 100, len := 11, c0 := 990, slot := 15, binds := [0xFFFFFFFFFFFFFFFF, 0x07E1F80000000000] }
def en0 : State := let s : State := r.put (TEL_STATUS_STATE 1) esRUNNING; { s with engs := [(1, { d := [(1, 1), (2, 2), (31, 3)], a := [(1, 0x0123456789ABCDEF), (2, 0x8EDCBA9876543210)], p := 255, task := some tk })] }

theorem witness_DataResultsSetOut :
    (∃ (n : Engine) (q : Guard) (s : State) (t : Machine.Task), s.issuing ↑n = some t ∧ s.guard (↑n) q = true ∧ t.drops (s.clk.now + 17) = false)
    ∧ (∃ (n : Engine) (q : Guard) (s : State) (t : Machine.Task), s.issuing ↑n = some t ∧ s.guard (↑n) q = true ∧ t.drops (s.clk.now + 1) = false) :=
  ⟨⟨(1), (⟨0,false⟩), (en0), (Option.get (((en0) : State).issuing ↑((1) : Engine)) (by decide +kernel)), by decide +kernel⟩,
   ⟨(1), (⟨0,false⟩), (en0), (Option.get (((en0) : State).issuing ↑((1) : Engine)) (by decide +kernel)), by decide +kernel⟩⟩

end Sys2Proof.Tests.TellerW

namespace Sys2Proof.Tests.PredW

def r : State := { State.reset with clk := { now := 1000, cyc := 1000, tBase := 5000 } }
def tk : Task := { entry := 5, base := 100, len := 11, c0 := 990, slot := 15, binds := [0xFFFFFFFFFFFFFFFF, 0x07E1F80000000000] }
def en0 : State := let s : State := r.put (TEL_STATUS_STATE 1) esRUNNING; { s with engs := [(1, { d := [(1, 1), (2, 2), (31, 3)], a := [(1, 0x0123456789ABCDEF), (2, 0x8EDCBA9876543210)], p := 255, task := some tk })] }

theorem witness_PredicateResults :
    (∃ (n : Engine) (q : Guard) (pd : Pred) (s : State) (t : Machine.Task), s.issuing ↑n = some t ∧ s.guard (↑n) q = true ∧ pd = 0)
    ∧ (∃ (n : Engine) (q : Guard) (pd : Pred) (s : State) (t : Machine.Task), s.issuing ↑n = some t ∧ s.guard (↑n) q = true ∧ pd ≠ 0) :=
  ⟨⟨(1), (⟨0,false⟩), 0, (en0), (Option.get (((en0) : State).issuing ↑((1) : Engine)) (by decide +kernel)), by decide +kernel⟩,
   ⟨(1), (⟨0,false⟩), 2, (en0), (Option.get (((en0) : State).issuing ↑((1) : Engine)) (by decide +kernel)), by decide +kernel⟩⟩

end Sys2Proof.Tests.PredW

namespace Sys2Proof.Tests.MemW

def r : State := { State.reset with clk := { now := 1000, cyc := 1000, tBase := 5000 } }
def tk : Task := { entry := 5, base := 100, len := 20, c0 := 990, slot := 15, binds := [0xFFFFFFFFFFFFFFFF, 0x07E1F80000000000] }
def en (d1 d2 d31 : Word) (p : BitVec 8) : State := let s : State := r.put (TEL_STATUS_STATE 1) esRUNNING; { s with engs := [(1, { d := [(1, d1), (2, d2), (31, d31)], a := [(1, 0x0123456789ABCDEF), (2, 0xFEDCBA9876543210)], p := p, task := some tk })] }
def mem : State := { en 5 0xFFFFFFFF 2040 0xFF with ctx := [(2048 + 128*15 + 5, 77)], scr := [(2048 + 7, 9)] }

theorem witness_TellerLoadsAndStores :
    (∃ (n : Engine) (q : Guard) (da : Reg) (i : BitVec 7) (s : State) (t : Machine.Task), s.issuing ↑n = some t ∧ s.guard (↑n) q = true ∧ (∀ (m : EMem) (w : Nat), s.eccRead (m.checker ↑n) w = EccRead.clean) ∧ t.slot < 16 ∧ (s.dint (↑n) da + ↑i.toNat < 0 ∨ 2048 ≤ s.dint (↑n) da + ↑i.toNat)) :=
  ⟨(1), (⟨0,false⟩), (2), 0#7, (mem), (Option.get (((mem) : State).issuing ↑((1) : Engine)) (by decide +kernel)), by decide +kernel, by decide +kernel, by intros; exact State.eccRead_clean rfl _ _, by decide +kernel⟩

end Sys2Proof.Tests.MemW

namespace Sys2Proof.Tests.BoundW

def r : State := { State.reset with clk := { now := 1000, cyc := 1000, tBase := 5000 } }
def tk : Task := { entry := 5, base := 100, len := 20, c0 := 990, slot := 15, binds := [0xFFFFFFFFFFFFFFFF, 0x07E1F80000000000] }
def en (d1 d2 d31 : Word) (p : BitVec 8) : State := let s : State := r.put (TEL_STATUS_STATE 1) esRUNNING; { s with engs := [(1, { d := [(1, d1), (2, d2), (31, d31)], a := [(1, 0x0123456789ABCDEF), (2, 0xFEDCBA9876543210)], p := p, task := some tk })] }
def m0 : State := let s : State := en 5 0xFFFFFFFF 2040 0xFF; { s with clk := { s.clk with cyc := 2300 } }
def dsc (link perm wf rs : Nat) : BitVec 64 := BitVec.ofNat 64 (link * 2^57 + perm * 2^48 + rs * 2^43 + wf * 2^38)
def tk2 : Task := { tk with binds := [dsc 3 0x7F 0 5, dsc 95 0x7F 1 5, dsc 3 0 0 0, dsc 4 0x7F 0 31] }
def wt (s : State) : State := s.modEng 1 fun e => { e with task := some tk2 }

theorem witness_BoundAccesses :
    (∃ (n : Engine) (q : Guard) (b : Binding) (s : State) (t : Machine.Task) (k : Nat), s.issuing ↑n = some t ∧ s.guard (↑n) q = true ∧ s.bindCheck t b BindAcc.ldm = Sum.inr k ∧ t.drops (s.clk.now + 1) = false)
    ∧ (∃ (n : Engine) (q : Guard) (b : Binding) (s : State) (t : Machine.Task) (k : Nat) (sel : Bool), s.issuing ↑n = some t ∧ s.guard (↑n) q = true ∧ s.bindCheck t b (BindAcc.sta sel) = Sum.inr k)
    ∧ (∃ (n : Engine) (q : Guard) (b : Binding) (s : State) (t : Machine.Task) (k : Nat), s.issuing ↑n = some t ∧ s.guard (↑n) q = true ∧ s.bindCheck t b (BindAcc.trip Thresh.fastTrip) = Sum.inr k)
    ∧ (∃ (n : Engine) (q : Guard) (b : Binding) (s : State) (t : Machine.Task) (cause : Nat), s.issuing ↑n = some t ∧ s.guard (↑n) q = true ∧ s.bindCheck t b (BindAcc.sta false) = Sum.inl cause ∧ s.bit (TEL_CV_INFO_VALID ↑n) = false ∧ cause < 5)
    ∧ (∃ (n : Engine) (q : Guard) (b : Binding) (s : State) (t : Machine.Task) (cause : Nat), s.issuing ↑n = some t ∧ s.guard (↑n) q = true ∧ s.bindCheck t b BindAcc.ldm = Sum.inl cause ∧ t.drops (s.clk.now + 1) = false) :=
  ⟨⟨(1), (⟨0,false⟩), 0, (wt m0), (Option.get (((wt m0) : State).issuing ↑((1) : Engine)) (by decide +kernel)), 3, by decide +kernel⟩,
   ⟨(1), (⟨0,false⟩), 0, (wt m0), (Option.get (((wt m0) : State).issuing ↑((1) : Engine)) (by decide +kernel)), 3, (false), by decide +kernel⟩,
   ⟨(1), (⟨0,false⟩), 0, (wt m0), (Option.get (((wt m0) : State).issuing ↑((1) : Engine)) (by decide +kernel)), 3, by decide +kernel⟩,
   ⟨(1), (⟨0,false⟩), 0, ((wt m0).putBit (LNK_CTRL_ACT_SRC 3) true), (Option.get ((((wt m0).putBit (LNK_CTRL_ACT_SRC 3) true) : State).issuing ↑((1) : Engine)) (by decide +kernel)), 4, by decide +kernel⟩,
   ⟨(1), (⟨0,false⟩), 0, (wt { m0 with clk := { m0.clk with cyc := 10 } }), (Option.get (((wt { m0 with clk := { m0.clk with cyc := 10 } }) : State).issuing ↑((1) : Engine)) (by decide +kernel)), 2, by decide +kernel⟩⟩

end Sys2Proof.Tests.BoundW

namespace Sys2Proof.Tests.TaskW

def r : State := { State.reset with clk := { now := 1000, cyc := 1000, tBase := 5000 } }
def tk : Task := { entry := 5, base := 100, len := 11, c0 := 990, slot := 15, binds := [0xFFFFFFFFFFFFFFFF, 0x07E1F80000000000] }
def en (d1 d2 d31 : Word) (p : BitVec 8) : State := let s : State := r.put (TEL_STATUS_STATE 1) esRUNNING; { s with engs := [(1, { d := [(1, d1), (2, d2), (31, d31)], a := [(1, 0x0123456789ABCDEF), (2, 0x8EDCBA9876543210)], p := p, task := some tk })] }
def b0 : State := en 1 2 3 255
def ent (en start code len slot rdiv phase : Nat) : BitVec 64 := BitVec.ofNat 64 (en * 2^63 + start * 2^51 + code * 2^39 + len * 2^27 + slot * 2^23 + rdiv * 2^20 + phase * 2^13 + 0 * 2^5 + 2 * 2)
def segh (len : Nat) : BitVec 128 := BitVec.ofNat 128 ((0x3F * 2^26 + len * 2^14) * 2^96)
def stt : State := let s : State := b0.put (TEL_SCH_STAT_BANK1 1) 3; let s : State := s.modEng 1 fun e => { e with task := none }; { s with ents := [(1024 + 512 + 5, ent 1 1000 77 20 15 0 0), (1024 + 512 + 511, ent 1 1000 77 20 0 0 0)], prog := [(4096 + 77, segh 20)] }
def arm1 : State := r.put (TEL_STATUS_STATE 1) esARMED
def cmt : State := r.put (TEL_SCH_STAT_BANK0 1) 2

theorem witness_TasksAndEngineStates :
    (∃ (n : Engine) (s : State) (e : Fin 512) (x : Nat), s.active ↑n = some x ∧ s.startsNow ↑n ↑e = true ∧ (∀ (m : EMem) (w : Nat), s.eccRead (m.checker ↑n) w = EccRead.clean) ∧ segLen (s.bundle (↑n) (enCODE (s.entry (↑n) x ↑e))) = some (enLEN (s.entry (↑n) x ↑e)))
    ∧ (∃ (n : Engine) (s : State) (e : Fin 512), s.startsNow ↑n ↑e = false)
    ∧ (∃ (n : Engine) (s : State) (k : Machine.Task), (s.eng ↑n).task = some k ∧ k.c0 + k.len ≤ s.clk.now + 1)
    ∧ (∃ (n : Engine) (s : State) (who : Who) (v : Word) (u : State), s.admits who (TEL_CTRL ↑n) (withBit v 0) u ∧ tb v 1 = false ∧ legalAt (TEL_CTRL ↑n) (withBit v 0) = true ∧ u.estate ↑n = esSTOPPED ∧ u.safe = true)
    ∧ (∃ (n : Engine) (s : State) (who : Who) (v : Word) (u : State), s.admits who (TEL_CTRL ↑n) (withBit v 0) u ∧ tb v 1 = false ∧ legalAt (TEL_CTRL ↑n) (withBit v 0) = true ∧ u.estate ↑n = esSTOPPED ∧ u.safe = false ∧ u.scrapped = true)
    ∧ (∃ (n : Engine) (s : State) (who : Who) (v : Word) (u : State), s.admits who (TEL_CTRL ↑n) (withBit v 0) u ∧ tb v 1 = false ∧ legalAt (TEL_CTRL ↑n) (withBit v 0) = true ∧ u.estate ↑n = esSTOPPED ∧ u.safe = false ∧ u.scrapped = false ∧ u.committed ↑n = true)
    ∧ (∃ (n : Engine) (s : State) (who : Who) (v : Word) (u : State), s.admits who (TEL_CTRL ↑n) (withBit v 0) u ∧ tb v 1 = false ∧ legalAt (TEL_CTRL ↑n) (withBit v 0) = true ∧ u.estate ↑n = esSTOPPED ∧ u.safe = false ∧ u.scrapped = false ∧ u.committed ↑n = false)
    ∧ (∃ (n : Engine) (s : State) (who : Who) (v : Word) (u : State), s.admits who (TEL_CTRL ↑n) (withBit v 1) u ∧ tb v 0 = false ∧ legalAt (TEL_CTRL ↑n) (withBit v 1) = true)
    ∧ (∃ (n : Engine) (s : State) (who : Who) (v : Word) (u : State), s.admits who (TEL_CTRL ↑n) (withBit v 5) u ∧ tb v 0 = false ∧ tb v 1 = false ∧ legalAt (TEL_CTRL ↑n) (withBit v 5) = true)
    ∧ (∃ (n : Engine) (s : State), s.estate ↑n = esARMED)
    ∧ (∃ (n : Engine) (s : State), s.estate ↑n = esSTOPPING) :=
  ⟨⟨(1), (stt), 5, (Option.get (((stt) : State).active ↑((1) : Engine)) (by decide +kernel)), by decide +kernel, by decide +kernel, by intros; exact State.eccRead_clean rfl _ _, by decide +kernel⟩,
   ⟨(1), (b0), 5, by decide +kernel⟩,
   ⟨(1), (b0), (Option.get ((((b0) : State).eng ↑((1) : Engine)).task) (by decide +kernel)), by decide +kernel⟩,
   ⟨(1), ((r.put (TEL_STATUS_STATE 1) esSTOPPED).putBit FCU_STAT_SAFE true), (Who.sup true), 0#32, ((((r.put (TEL_STATUS_STATE 1) esSTOPPED).putBit FCU_STAT_SAFE true) : State).admitted ((Who.sup true) : Who) (TEL_CTRL ↑((1) : Engine)) (withBit (0#32 : Word) 0)), State.admits_admitted (by decide +kernel), by decide +kernel⟩,
   ⟨1, (r.put (TEL_STATUS_STATE 1) esSTOPPED).put VLT_LC_LC 4, .sup true, 0#32, ((r.put (TEL_STATUS_STATE 1) esSTOPPED).put VLT_LC_LC 4).admitted (.sup true) (TEL_CTRL (1 : Engine)) (withBit (0#32 : Word) 0), State.admits_admitted (by decide +kernel), by decide +kernel⟩,
   ⟨(1), (cmt), (Who.sup true), 0#32, (((cmt) : State).admitted ((Who.sup true) : Who) (TEL_CTRL ↑((1) : Engine)) (withBit (0#32 : Word) 0)), State.admits_admitted (by decide +kernel), by decide +kernel⟩,
   ⟨(1), (r.put (TEL_STATUS_STATE 1) esSTOPPED), (Who.sup true), 0#32, (((r.put (TEL_STATUS_STATE 1) esSTOPPED) : State).admitted ((Who.sup true) : Who) (TEL_CTRL ↑((1) : Engine)) (withBit (0#32 : Word) 0)), State.admits_admitted (by decide +kernel), by decide +kernel⟩,
   ⟨(1), (b0), (Who.sup true), 0#32, (((b0) : State).admitted ((Who.sup true) : Who) (TEL_CTRL ↑((1) : Engine)) (withBit (0#32 : Word) 1)), State.admits_admitted (by decide +kernel), by decide +kernel⟩,
   ⟨(1), (b0), (Who.sup true), 0#32, (((b0) : State).admitted ((Who.sup true) : Who) (TEL_CTRL ↑((1) : Engine)) (withBit (0#32 : Word) 5)), State.admits_admitted (by decide +kernel), by decide +kernel⟩,
   ⟨(1), (arm1), by decide +kernel⟩,
   ⟨(1), (r.put (TEL_STATUS_STATE 1) esSTOPPING), by decide +kernel⟩⟩

end Sys2Proof.Tests.TaskW

namespace Sys2Proof.Tests.LandW

def r : State := { State.reset with clk := { now := 1000, cyc := 1000, tBase := 5000 } }
def tk : Task := { entry := 5, base := 100, len := 11, c0 := 990, slot := 15, binds := [0xFFFFFFFFFFFFFFFF, 0x07E1F80000000000] }
def en (d1 d2 d31 : Word) (p : BitVec 8) : State := let s : State := r.put (TEL_STATUS_STATE 1) esRUNNING; { s with engs := [(1, { d := [(1, d1), (2, d2), (31, d31)], a := [(1, 0x0123456789ABCDEF), (2, 0x8EDCBA9876543210)], p := p, task := some tk })] }
def mE (s : State) (f : Eng → Eng) : State := s.modEng 1 f
def re (due : Nat) (sl : SlotPos) (d : Dest) (v : Word) (sat : Bool) : Result := { due := due, slot := sl, dest := d, val := v, sat := sat, issued := 999 }
def b0 : State := en 1 2 3 255

theorem witness_ResultsLand :
    (∃ (n : Engine) (s : State) (r : Result) (d : Reg), (s.eng ↑n).results = [r] ∧ r.due ≤ s.clk.now ∧ r.dest = Dest.reg d)
    ∧ (∃ (n : Engine) (s : State) (r : Result) (r' : Result) (d : Reg), (s.eng ↑n).results = [r, r'] ∧ r.due = r'.due ∧ r.due ≤ s.clk.now ∧ r.dest = Dest.reg d ∧ r'.dest = Dest.reg d ∧ r.slot = SlotPos.l ∧ r'.slot = SlotPos.x)
    ∧ (∃ (n : Engine) (s : State) (o : AccOp) (p : AccOp), (s.eng ↑n).accs = [o, p] ∧ o.due = p.due ∧ o.due ≤ s.clk.now ∧ o.acc = p.acc)
    ∧ (∃ (n : Engine) (s : State), (s.eng ↑n).results = [])
    ∧ (∃ (n : Engine) (s : State), (s.eng ↑n).accs = []) :=
  ⟨⟨(1), (mE b0 fun e => { e with results := [re 1000 .x (.reg 2) 0 true] }), re 1000 .x (.reg 2) 0 true, 2, by decide +kernel⟩,
   ⟨(1), (mE b0 fun e => { e with results := [re 1000 .l (.reg 2) 5 true, re 1000 .x (.reg 2) 6 true] }), re 1000 .l (.reg 2) 5 true, re 1000 .x (.reg 2) 6 true, 2, by decide +kernel⟩,
   ⟨(1), (mE b0 fun e => { e with accs := [{due := 1000, slot := .m0, acc := 1, clear := false, add := 5}, {due := 1000, slot := .m0, acc := 1, clear := false, add := -7}] }), {due := 1000, slot := .m0, acc := 1, clear := false, add := 5}, {due := 1000, slot := .m0, acc := 1, clear := false, add := -7}, by decide +kernel⟩,
   ⟨(1), (b0), by decide +kernel⟩,
   ⟨(1), (b0), by decide +kernel⟩⟩

end Sys2Proof.Tests.LandW

namespace Sys2Proof.Tests.WindowW

def r : State := { State.reset with clk := { now := 1000, cyc := 1000, tBase := 5000 } }
def tk : Task := { entry := 5, base := 100, len := 11, c0 := 990, slot := 15, binds := [0xFFFFFFFFFFFFFFFF, 0x07E1F80000000000] }
def en (d1 d2 d31 : Word) (p : BitVec 8) : State := let s : State := r.put (TEL_STATUS_STATE 1) esRUNNING; { s with engs := [(1, { d := [(1, d1), (2, d2), (31, d31)], a := [(1, 0x0123456789ABCDEF), (2, 0x8EDCBA9876543210)], p := p, task := some tk })] }
def b0 : State := en 1 2 3 255
def ent (en start code len slot rdiv phase : Nat) : BitVec 64 := BitVec.ofNat 64 (en * 2^63 + start * 2^51 + code * 2^39 + len * 2^27 + slot * 2^23 + rdiv * 2^20 + phase * 2^13 + 0 * 2^5 + 2 * 2)
def segh (len : Nat) : BitVec 128 := BitVec.ofNat 128 ((0x3F * 2^26 + len * 2^14) * 2^96)
def stt : State := let s : State := b0.put (TEL_SCH_STAT_BANK1 1) 3; let s : State := s.modEng 1 fun e => { e with task := none }; { s with ents := [(1024 + 512 + 5, ent 1 1000 77 20 15 0 0), (1024 + 512 + 511, ent 1 1000 77 20 0 0 0)], prog := [(4096 + 77, segh 20)] }
def em : State := { stt with ctx := [(2048 + 2047, 5)], scr := [(2048, 7)], binds := [(512 + 255, 0x0123456789ABCDEF)] }

theorem admitted_bank :
    let u := em.admitted (.sup true) (engBase (1 : Engine) + 81920 + 8 * (511 : Fin 512)) 0#32
    em.admits (.sup true) (engBase (1 : Engine) + 81920 + 8 * (511 : Fin 512)) 0#32 u ∧ u.ecc = em.ecc ∧ u.bankState (1 : Engine) 0 = 0 :=
  ⟨State.admits_admitted (by decide +kernel), by decide +kernel⟩

theorem witness_EngineMemories :
    (∃ (who : Who) (n : Engine) (s : State) (u : State) (o : Nat), (∀ (m : EMem) (w : Nat), s.eccRead (m.checker ↑n) w = EccRead.clean) ∧ u.ecc = s.ecc ∧ o < 94208 ∧ o % 4 = 0 ∧ s.admitsRead who (engBase ↑n + o))
    ∧ (∃ (who : Who) (n : Engine) (v : Word) (s : State) (u : State) (a : BitVec 12) (w0 : Word) (w1 : Word) (w2 : Word), (∀ (m : EMem) (w : Nat), s.eccRead (m.checker ↑n) w = EccRead.clean) ∧ u.ecc = s.ecc ∧ s.admits who (engBase ↑n + 16 * a.toNat + 12) v u ∧ SMap.get (fun _ => 0) (u.eng ↑n).stage 0 = w0 ∧ SMap.get (fun _ => 0) (u.eng ↑n).stage 1 = w1 ∧ SMap.get (fun _ => 0) (u.eng ↑n).stage 2 = w2 ∧ bundleLegal (v ++ w2 ++ w1 ++ w0) = true ∧ u.codeUsed (↑n) a.toNat = false)
    ∧ (∃ (who : Who) (n : Engine) (v : Word) (s : State) (u : State) (i : BitVec 11), (∀ (m : EMem) (w : Nat), s.eccRead (m.checker ↑n) w = EccRead.clean) ∧ u.ecc = s.ecc ∧ s.admits who (engBase ↑n + 73728 + 4 * i.toNat) v u ∧ (u.eng ↑n).lastStore = none)
    ∧ (∃ (who : Who) (n : Engine) (v : Word) (s : State) (u : State) (i : BitVec 11), (∀ (m : EMem) (w : Nat), s.eccRead (m.checker ↑n) w = EccRead.clean) ∧ u.ecc = s.ecc ∧ s.admits who (engBase ↑n + 65536 + 4 * i.toNat) v u ∧ (u.eng ↑n).lastStore = none)
    ∧ (∃ (who : Who) (n : Engine) (v : Word) (s : State) (u : State) (e : Fin 512), (∀ (m : EMem) (w : Nat), s.eccRead (m.checker ↑n) w = EccRead.clean) ∧ u.ecc = s.ecc ∧ s.admits who (engBase ↑n + 81920 + 8 * ↑e) v u ∧ u.bankState (↑n) 0 = 0)
    ∧ (∃ (n : Engine) (s : State) (u : State), (∀ (m : EMem) (w : Nat), s.eccRead (m.checker ↑n) w = EccRead.clean) ∧ u.ecc = s.ecc ∧ s.bit (TEL_CTRL_SCRUB_EN ↑n) = true ∧ s.inUse (↑n) EMem.prog = false) :=
  ⟨⟨(Who.sup true), (1), (em), (em), 0, by intros; exact State.eccRead_clean rfl _ _, by decide +kernel, by decide +kernel, by decide +kernel, State.admitsRead_of (by decide +kernel)⟩,
   ⟨(Who.sup true), (1), 0#32, (em), (((em) : State).admitted ((Who.sup true) : Who) (engBase ↑((1) : Engine) + 16 * (2047#12 : BitVec 12).toNat + 12) (0#32 : Word)), 2047#12, 0#32, 0#32, 0#32, by intros; exact State.eccRead_clean rfl _ _, by decide +kernel, State.admits_admitted (by decide +kernel), by decide +kernel⟩,
   ⟨(Who.sup true), (1), 0#32, (em), (((em) : State).admitted ((Who.sup true) : Who) (engBase ↑((1) : Engine) + 73728 + 4 * (77#11 : BitVec 11).toNat) (0#32 : Word)), 77#11, by intros; exact State.eccRead_clean rfl _ _, by decide +kernel, State.admits_admitted (by decide +kernel), by decide +kernel⟩,
   ⟨(Who.sup true), (1), 0#32, (em), (((em) : State).admitted ((Who.sup true) : Who) (engBase ↑((1) : Engine) + 65536 + 4 * (77#11 : BitVec 11).toNat) (0#32 : Word)), 77#11, by intros; exact State.eccRead_clean rfl _ _, by decide +kernel, State.admits_admitted (by decide +kernel), by decide +kernel⟩,
   ⟨.sup true, 1, 0#32, em, _, 511, by intros; exact State.eccRead_clean rfl _ _, admitted_bank.2.1, admitted_bank.1, admitted_bank.2.2⟩,
   ⟨(1), (em), (em), by intros; exact State.eccRead_clean rfl _ _, by decide +kernel⟩⟩

end Sys2Proof.Tests.WindowW

namespace Sys2Proof.Tests.SchedW

def r : State := { State.reset with clk := { now := 1000, cyc := 1000, tBase := 5000 } }
def mE (s : State) (f : Eng → Eng) : State := s.modEng 1 f
def adm : State := let s : State := (r.put SCH_STAT_STATE 1).put (TEL_SCH_STAT_NEXT 15) 1; { s with sch := { mask := 0x8002 } }
def wt : State := let s : State := r.put SCH_STAT_STATE 2; { s with sch := { mask := 0x8003 } }
def dec (s : State) : State := { s with sch := { s.sch with decided := true } }
def actv : State :=
  let s : State := mE ((r.put (TEL_SCH_STAT_BANK1 1) 3)) fun e => { e with admitted := [(1023, true)] }
  { s with sch := { s.sch with enReqs := [(1, true, 511)] } }
def cu : State := (mE (((r.put (TEL_CUPD_CTRL_BASE 1) 120).put (TEL_CUPD_CTRL_LAST 1) 7).put (TEL_CUPD_CTRL_SLOT 1) 15 |>.setWord (TEL_CUPD_BUF 1 7) 77 |>.setWord (TEL_CUPD_BUF 1 0) 5 |>.putBit (TEL_CUPD_STAT_PEND 1) true) fun e => { e with cupdAt := some 1 })
def rel (n d i : Nat) (v : Word) : State := r.modEng n fun e => { e with relay := [(d, i, v)] }

theorem rel_lastStore (m : Nat) : ((rel 1 1000 2047 77).eng m).lastStore = none := by
  by_cases h : m = 1
  · subst h; decide +kernel
  · simp [rel, State.modEng, State.setEng, State.eng, SMap.get_set_ne _ _ _ h, r, State.reset]

theorem witness_SchedulesCommitAndEnable :
    (∃ (who : Who) (v : Word) (w : Word) (s : State) (u : State), w = withBit v 16 ∧ s.admits who SCH_CTRL w u ∧ legalAt SCH_CTRL w = true ∧ tb v 17 = false ∧ u.get SCH_STAT_STATE = 0 ∧ BitVec.extractLsb' 0 16 w ≠ 0 ∧ (tb v 18 = false ∨ u.decisionPassed (u.get SCH_SWAP_MFN_MFN) = false))
    ∧ (∃ (s : State), s.get SCH_STAT_STATE = 1 ∧ (∀ (c i : Nat), s.eccRead c i = EccRead.clean) ∧ s.admission s.sch.mask = none)
    ∧ (∃ (s : State), s.swapDue = true)
    ∧ (∃ (s : State), s.sch.decided = true ∧ s.get SCH_STAT_STATE = 2)
    ∧ (∃ (who : Who) (v : Word) (s : State) (u : State), s.admits who SCH_CTRL (withBit v 17) u ∧ legalAt SCH_CTRL (withBit v 17) = true ∧ tb v 16 = false ∧ u.get SCH_STAT_STATE ≠ 0 ∧ u.sch.decided = false ∧ u.clk.cyc ≠ 2399)
    ∧ (∃ (who : Who) (n : Engine) (v : Word) (s : State) (u : State), s.admits who (TEL_SCH_ENSET ↑n) v u)
    ∧ (∃ (who : Who) (n : Engine) (v : Word) (s : State) (u : State), s.admits who (TEL_SCH_ENCLR ↑n) v u)
    ∧ (∃ (n : Engine) (s : State) (x : Nat) (b : Bool) (e : Fin 512), ↑n < s.nEngines ∧ s.active ↑n = some x ∧ s.sch.enReqs = [(↑n, b, ↑e)] ∧ s.sch.huReqs = [] ∧ (∀ (c w : Nat), s.eccRead c w = EccRead.clean) ∧ SMap.get (fun _ => false) (s.eng ↑n).admitted (512 * x + ↑e) = true) :=
  ⟨⟨(Who.sup true), 98305#32, 98305#32, (r), (((r) : State).admitted ((Who.sup true) : Who) SCH_CTRL (98305#32 : Word)), by decide +kernel, State.admits_admitted (by decide +kernel), by decide +kernel⟩,
   ⟨(adm), by decide +kernel, by intros; exact State.eccRead_clean rfl _ _, by decide +kernel⟩,
   ⟨(wt), by decide +kernel⟩,
   ⟨(dec wt), by decide +kernel⟩,
   ⟨(Who.sup true), 0#32, (adm), (((adm) : State).admitted ((Who.sup true) : Who) SCH_CTRL (withBit (0#32 : Word) 17)), State.admits_admitted (by decide +kernel), by decide +kernel⟩,
   ⟨(Who.sup true), (1), 0#32, (r), (((r) : State).admitted ((Who.sup true) : Who) (TEL_SCH_ENSET ↑((1) : Engine)) (0#32 : Word)), State.admits_admitted (by decide +kernel)⟩,
   ⟨(Who.sup true), (1), 0#32, (r), (((r) : State).admitted ((Who.sup true) : Who) (TEL_SCH_ENCLR ↑((1) : Engine)) (0#32 : Word)), State.admits_admitted (by decide +kernel)⟩,
   ⟨(1), (actv), 1, (true), 511, by decide +kernel, by decide +kernel, by decide +kernel, by decide +kernel, by intros; exact State.eccRead_clean rfl _ _, by decide +kernel⟩⟩

theorem witness_CoefficientsUpdatesRelay :
    (∃ (who : Who) (n : Engine) (sl : Fin 16) (v : Word) (s : State) (u : State), s.admits who (TEL_CPROT ↑n ↑sl) v u ∧ bitsOf v 6 0 + bitsOf v 15 8 ≤ 128 ∧ u.bit (TEL_CPROT_LOCK ↑n ↑sl) = false)
    ∧ (∃ (who : Who) (n : Engine) (sl : Fin 16) (v : Word) (s : State) (u : State), s.admits who (TEL_CPROT ↑n ↑sl) v u ∧ bitsOf v 6 0 + bitsOf v 15 8 ≤ 128 ∧ u.bit (TEL_CPROT_LOCK ↑n ↑sl) = true)
    ∧ (∃ (who : Who) (n : Engine) (v : Word) (s : State) (u : State), bitsOf v 6 0 + bitsOf v 11 8 ≤ 127 ∧ s.admits who (TEL_CUPD_CTRL ↑n) (withBit v 31) u ∧ u.bit (TEL_CUPD_STAT_PEND ↑n) = false ∧ tb v 30 = false ∧ tb v 29 = false)
    ∧ (∃ (who : Who) (n : Engine) (v : Word) (s : State) (u : State), bitsOf v 6 0 + bitsOf v 11 8 ≤ 127 ∧ s.admits who (TEL_CUPD_CTRL ↑n) (withBit v 30) u ∧ u.bit (TEL_CUPD_STAT_PEND ↑n) = true ∧ tb v 31 = false ∧ (u.eng ↑n).cupdAt.isSome = true ∧ u.clk.cyc ≠ 2399)
    ∧ (∃ (n : Engine) (s : State) (f : BitVec 32), (s.eng ↑n).cupdAt = some f ∧ (s.mfn + 1) % 2 ^ 32 = f.toNat ∧ (s.eng ↑n).lastStore = none ∧ (∀ (w : Nat), s.eccRead (16 + ↑n) w = EccRead.clean) ∧ s.bit (FCU_INJ_ARM (16 + ↑n)) = false ∧ s.get (TEL_CUPD_CTRL_BASE ↑n) + s.get (TEL_CUPD_CTRL_LAST ↑n) ≤ 127)
    ∧ (∃ (n : Engine) (s : State) (due : Nat) (i : Nat) (v : Word), (s.eng ↑n).relay = [(due, i, v)] ∧ due ≤ s.clk.now ∧ i < 2048 ∧ (∀ (m : Nat), (s.eng m).lastStore = none) ∧ (∀ (c w : Nat), s.eccRead c w = EccRead.clean)) :=
  ⟨⟨(Who.sup true), (1), (1), 0#32, (r), (((r) : State).admitted ((Who.sup true) : Who) (TEL_CPROT ↑((1) : Engine) ↑((1) : Fin 16)) (0#32 : Word)), State.admits_admitted (by decide +kernel), by decide +kernel⟩,
   ⟨(Who.sup true), (1), (15), 0#32, (r.putBit (TEL_CPROT_LOCK 1 15) true), (((r.putBit (TEL_CPROT_LOCK 1 15) true) : State).admitted ((Who.sup true) : Who) (TEL_CPROT ↑((1) : Engine) ↑((15) : Fin 16)) (0#32 : Word)), State.admits_admitted (by decide +kernel), by decide +kernel⟩,
   ⟨(Who.sup true), (1), 0#32, (r), (((r) : State).admitted ((Who.sup true) : Who) (TEL_CUPD_CTRL ↑((1) : Engine)) (withBit (0#32 : Word) 31)), by decide +kernel, State.admits_admitted (by decide +kernel), by decide +kernel⟩,
   ⟨(Who.sup true), (1), 0#32, (cu), (((cu) : State).admitted ((Who.sup true) : Who) (TEL_CUPD_CTRL ↑((1) : Engine)) (withBit (0#32 : Word) 30)), by decide +kernel, State.admits_admitted (by decide +kernel), by decide +kernel⟩,
   ⟨(1), (cu), (Option.get ((((cu) : State).eng ↑((1) : Engine)).cupdAt) (by decide +kernel)), by decide +kernel, by decide +kernel, by decide +kernel, by intros; exact State.eccRead_clean rfl _ _, by decide +kernel⟩,
   ⟨(1), (rel 1 1000 2047 77), 1000, 2047, 77#32, by decide +kernel, by decide +kernel, by decide +kernel, rel_lastStore, by intros; exact State.eccRead_clean rfl _ _⟩⟩

end Sys2Proof.Tests.SchedW

namespace Sys2Proof.Tests.AnalyserW

def r : State := { State.reset with clk := { now := 1000, cyc := 1000, tBase := 5000 } }
def run (m : Nat) (f : Fra) : State := let s : State := (((((r.putBit FRA_STAT_RUN true).put FRA_CTRL_MODE m).put FRA_TIMING_INTEG 4).put FRA_TIMING_SETTLE 2).put FRA_PINC_PINC 0x40000000).put FRA_AMP_AMP 100 |>.put (FRA_STEP_PINC 0) 0x40000000 |>.put FRA_TIMING_PERIOD 32 |>.put FRA_CTRL_LAST 3; { s with fra := f }

theorem witness_AnalyserRuns :
    (∃ (who : Who) (v : Word) (w : Word) (s : State) (u : State), w = withBit v 31 ∧ s.admits who FRA_CTRL w u ∧ legalAt FRA_CTRL w = true ∧ tb v 30 = false ∧ tb v 29 = false ∧ bitsOf v 15 12 < u.nEngines ∧ u.bit FRA_STAT_RUN = false ∧ u.bit FRA_STAT_ARMED = false ∧ u.get FRA_AMP_AMP ≤ u.get FRA_AMP_LIM_LIM ∧ u.bit FRA_WORDS_CAP_EN = false)
    ∧ (∃ (who : Who) (v : Word) (s : State) (u : State), s.admits who FRA_CTRL (withBit v 30) u ∧ legalAt FRA_CTRL (withBit v 30) = true ∧ tb v 31 = false ∧ bitsOf v 15 12 < u.nEngines ∧ u.bit FRA_STAT_RUN = true ∧ u.fra.stop = none)
    ∧ (∃ (who : Who) (v : Word) (s : State) (u : State), s.admits who FRA_CTRL (withBit v 30) u ∧ legalAt FRA_CTRL (withBit v 30) = true ∧ tb v 31 = false ∧ bitsOf v 15 12 < u.nEngines ∧ u.bit FRA_STAT_RUN = false ∧ u.bit FRA_STAT_ARMED = true)
    ∧ (∃ (s : State), s.fraDue = true)
    ∧ (∃ (s : State), s.bit FRA_STAT_RUN = true ∧ s.bit FRA_WORDS_CAP_EN = false ∧ s.fra.k = 0 ∧ s.fra.n = 0 ∧ s.fra.stop = none ∧ s.fraMode = 2 ∧ s.get FRA_TIMING_SETTLE + s.get FRA_TIMING_INTEG ≠ 0)
    ∧ (∃ (s : State) (code : Nat), s.bit FRA_STAT_RUN = true ∧ s.bit FRA_WORDS_CAP_EN = false ∧ s.fra.stop = some code ∧ code < 16)
    ∧ (∃ (s : State) (i : Nat), s.bit FRA_STAT_RUN = true ∧ s.fraMode ≠ 2 ∧ s.fraInteg = some i ∧ s.fra.n = s.fraSettle + i)
    ∧ (∃ (s : State), s.bit FRA_STAT_RUN = true ∧ s.fra.ended = true) :=
  ⟨⟨(Who.sup true), 0#32, 2147483648#32, (r), (((r) : State).admitted ((Who.sup true) : Who) FRA_CTRL (2147483648#32 : Word)), by decide +kernel, State.admits_admitted (by decide +kernel), by decide +kernel⟩,
   ⟨(Who.sup true), 0#32, (run 2 {}), (((run 2 {}) : State).admitted ((Who.sup true) : Who) FRA_CTRL (withBit (0#32 : Word) 30)), State.admits_admitted (by decide +kernel), by decide +kernel⟩,
   ⟨(Who.sup true), 0#32, (r.putBit FRA_STAT_ARMED true), (((r.putBit FRA_STAT_ARMED true) : State).admitted ((Who.sup true) : Who) FRA_CTRL (withBit (0#32 : Word) 30)), State.admits_admitted (by decide +kernel), by decide +kernel⟩,
   ⟨{ r.putBit FRA_STAT_ARMED true with fra := { goMfn := 7 } }, by decide +kernel⟩,
   ⟨(run 2 {}), by decide +kernel⟩,
   ⟨(run 2 { stop := some 15, k := 3 }), (Option.get (((run 2 { stop := some 15, k := 3 }) : State).fra.stop) (by decide +kernel)), by decide +kernel⟩,
   ⟨(run 0 { n := 24, k := 25, sums := (100, -200, 3, 4) }), 16, by decide +kernel⟩,
   ⟨(run 0 { ended := true }), by decide +kernel⟩⟩

end Sys2Proof.Tests.AnalyserW

namespace Sys2Proof.Tests.MintW

def r : State := { State.reset with clk := { now := 1000, cyc := 1000, tBase := 5000 } }
def act (s : State) : State := { s with mint := { s.mint with act := s.regs.filter (fun e => mintCfg e.1) } }
def pc (s : State) (k en cls w fl ce : Nat) : State := (((((s.put (MNT_PCFG_EN k) en).put (MNT_PCFG_CLASS k) cls).put (MNT_PCFG_WEIGHT k) w).put (MNT_PLIM_FLOOR k) fl).put (MNT_PLIM_CEIL k) ce)
def base (cap : Nat) : State := ((r.putBit MNT_CTRL_EN true).put MNT_CAP_CAP cap).put MNT_RECT_RECT_W 1000 |>.put BAT_ALLOW_W 50000 |>.put MNT_BSHARE_BSH_AC 256 |>.put MNT_DEBT_CARRY_MAX 5 |>.put MNT_DEBT_DEBT_MAX 100
def P (s : State) (k : Nat) (used : Nat) : State := s.setPurse k { on := true, used := used, bal := 100000000 * 3, u := 7 }
def al (k g rem : Nat) (sh : Bool) : State := let s := P (act (pc (base 100) k 1 0 1 0 100)) k 5; { s with mint := { s.mint with alloc := some { grants := [(k, g)], rem := rem, short := sh, coins := g + rem } } }
def hu (s : State) : State := s.putBit MNT_STAT_HOLDUP true
def hsw (b : Bool) : State := let s := act (((((r.put (MNT_HUSW_EN 3) 1).put (MNT_HUSW_SET 3) 1).put (MNT_HUSW_ENGINE 3) 15).put (MNT_HUSW_ENTRY 3) 511).put (MNT_HUSW_EN 7) 1); { s with mint := { s.mint with huSw := some b } }
def bact (s : State) : State := { s with bat := { s.bat with act := s.regs.filter (fun e => batCfg e.1) } }
def lk8 (s : State) : State := s.forN 8 fun i t => (t.put (BAT_SCFG_LINK i) (10 + i)).put (LNK_CTRL_ROLE (10 + i)) 2
def ben (m : Nat) : State := bact ((((((lk8 r).put BAT_CTRL_STR_EN m).put BAT_SUB_SUB_LIM 5).put BAT_REST_EXT_S 2).put BAT_REST_DIR_S 3).put BAT_CUT_CUT_N 2 |>.put (BAT_SCAP_CAP_MAH 3) 50000)
def bst (st : Nat) (b : BStr) (s : State) : State := { s with bat := { s.bat with strs := SMap.set (fun _ => {}) s.bat.strs st b } }
def rw (s : State) (str ms : Nat) : State := { s with bat := { s.bat with ann := [{ str := str, ms := ms, w := 2 }] } }

theorem witness_MintGrantsWhatItHas :
    (∃ (s : State), s.mintDue = false ∧ s.mbit MNT_CTRL_EN = true ∧ s.safe = false) :=
  ⟨{ act (pc (base 10) 3 1 1 1 1 1) with clk := { now := 1000, cyc := 1000, tBase := 5000 } }, by decide +kernel⟩

theorem witness_MintCreditsAndHoldup :
    (∃ (s : State) (al : Alloc) (k : Link) (g : Nat), s.mint.alloc = some al ∧ s.safe = false ∧ al.grants = [(↑k, g)] ∧ (s.purse ↑k).on = true ∧ g < 65536 ∧ al.rem < 2 ^ 32)
    ∧ (∃ (who : Who) (v : Word) (s : State) (u : State), s.admits who MNT_APPLY (withBit v 31) u ∧ u.mint.go = none ∧ tb v 30 = false)
    ∧ (∃ (s : State), s.mintDue = true ∧ (∀ (w : Nat), s.eccRead 76 w = EccRead.clean))
    ∧ (∃ (s : State), s.bit MNT_STAT_HOLDUP = true ∧ (s.mget MNT_AC_AC_N = 0 ∨ s.acCount < s.mget MNT_AC_AC_N))
    ∧ (∃ (s : State) (on : Bool), s.mint.huSw = some on)
    ∧ (∃ (c : Fin 4) (s : State), s.bit MNT_STAT_HOLDUP = true ∧ (s.mget MNT_SHED_SHED_EN).testBit ↑c = true ∧ (s.get MNT_STAT_SHED).testBit ↑c = false) :=
  ⟨⟨(al 3 65535 7 false), { grants := [(3, 65535)], rem := 7, short := false, coins := 65542 }, 3, 65535, by decide +kernel⟩,
   ⟨(Who.sup true), 0#32, (r), (((r) : State).admitted ((Who.sup true) : Who) MNT_APPLY (withBit (0#32 : Word) 31)), State.admits_admitted (by decide +kernel), by decide +kernel⟩,
   ⟨({ pc (base 5) 3 1 1 1 1 1 with mint := { go := some none } }), by decide +kernel, by intros; exact State.eccRead_clean rfl _ _⟩,
   ⟨(hu r), by decide +kernel⟩,
   ⟨(hsw true), (Option.get (((hsw true) : State).mint.huSw) (by decide +kernel)), by decide +kernel⟩,
   ⟨0, (act ((hu r).put MNT_SHED_SHED_EN 15)), by decide +kernel⟩⟩

theorem sums_replicate (n : Nat) (x a : Int × Int) :
    (List.replicate n x).foldl (fun a y => (a.1 + y.1, a.2 + y.2)) a = (a.1 + n * x.1, a.2 + n * x.2) := by
  induction n generalizing a with
  | zero => simp
  | succ n ih => rw [List.replicate_succ, List.foldl_cons, ih]; ext <;> simp only [Int.natCast_add, Int.natCast_one, Int.add_mul, Int.one_mul] <;> omega

/-- Samples that are all alike sum to the sample times their count. -/
theorem restSums_replicate (x : Int × Int) : restSums (List.replicate 65536 x) = some (65536 * x.1, 65536 * x.2) := by
  simp only [restSums, avgLen, List.take_replicate, List.length_replicate, sums_replicate]
  simp

theorem bst_bstr (st : Nat) (b : BStr) (s : State) : (bst st b s).bstr st = b := by
  simp [bst, State.bstr, SMap.get_set_same]

theorem witness_BatteryCommands :
    (∃ (st : Str) (s : State), s.strOn ↑st = true ∧ (s.bstr ↑st).slot = 15)
    ∧ (∃ (st : Str) (s : State), s.strOn ↑st = true ∧ s.bget BAT_SUB_SUB_LIM ≤ s.get (BAT_SUBST_CONSEC ↑st) ∧ s.bit (BAT_SFLAG_LINK ↑st) = false)
    ∧ (∃ (st : Str) (s : State) (v : Int) (sumT : Int), s.strOn ↑st = true ∧ (s.bstr ↑st).rest = restIntervals (s.bget BAT_REST_DIR_S) ∧ restSums (s.bstr ↑st).hist = some (v, sumT))
    ∧ (∃ (st : Str) (s : State) (v : Int) (sumT : Int), s.strOn ↑st = true ∧ (s.bstr ↑st).rest = restIntervals (s.bget BAT_REST_EXT_S) ∧ (s.bstr ↑st).s1 = some (restIntervals (s.bget BAT_REST_EXT_S) / 2, v) ∧ restSums (s.bstr ↑st).hist = some (v, sumT))
    ∧ (∃ (s : State) (w : RestWin) (later : List RestWin), s.bat.ann = w :: later ∧ w.ms = s.mfn ∧ s.bit MNT_STAT_HOLDUP = false ∧ s.bit (BAT_SFLAG_CUTOFF w.str) = false ∧ s.bit (BAT_SFLAG_LINK w.str) = false)
    ∧ (∃ (s : State), s.rotOver = true)
    ∧ (∃ (s : State) (ms : Nat), s.rotDue = some ms ∧ (∃ st, st < 8 ∧ s.eligible st = true))
    ∧ (∃ (s : State) (ms : Nat), s.rotDue = some ms ∧ (∀ (st : Nat), st < 8 → s.eligible st = false))
    ∧ (∃ (who : Who) (v : Word) (s : State) (u : State), s.admits who BAT_APPLY (withBit v 31) u ∧ u.bat.go = none ∧ tb v 30 = false)
    ∧ (∃ (s : State), s.batDue = true) :=
  ⟨⟨0, (ben 0xFF), by decide +kernel⟩,
   ⟨3, ((ben 8).put (BAT_SUBST_CONSEC 3) 5), by decide +kernel⟩,
   ⟨3, (bst 3 { rest := restIntervals 3, hist := List.replicate 65536 (4000, 10) } (ben 8)), 262144000, 655360, by decide +kernel, by decide +kernel, by rw [show ((3 : Str) : Nat) = 3 from rfl, bst_bstr 3]; exact restSums_replicate _⟩,
   ⟨3, (bst 3 { rest := restIntervals 2, s1 := some (restIntervals 2 / 2, 262144000), hist := List.replicate 65536 (4000, 10) } (ben 8)), 262144000, 655360, by decide +kernel, by decide +kernel, by decide +kernel, by rw [show ((3 : Str) : Nat) = 3 from rfl, bst_bstr 3]; exact restSums_replicate _⟩,
   ⟨rw (ben 8) 3 0, { str := 3, ms := 0, w := 2 }, [], rfl, by decide +kernel⟩,
   ⟨({ (ben 8) with bat := { (ben 8).bat with run := some { str := 3, ms := 4294967294, w := 2 } } }), by decide +kernel⟩,
   ⟨(let s : State := bact ((ben 0xFF).put BAT_SMOOTH_P_SMOOTH 0); { s with bat := { s.bat with plan := .next } }), (Option.get (((let s : State := bact ((ben 0xFF).put BAT_SMOOTH_P_SMOOTH 0); { s with bat := { s.bat with plan := .next } }) : State).rotDue) (by decide +kernel)), by decide +kernel⟩,
   ⟨({ (ben 0x18) with bat := { (ben 0x18).bat with plan := .window 5 } }), (Option.get ((({ (ben 0x18) with bat := { (ben 0x18).bat with plan := .window 5 } }) : State).rotDue) (by decide +kernel)), by decide +kernel⟩,
   ⟨(Who.sup true), 0#32, (r), (((r) : State).admitted ((Who.sup true) : Who) BAT_APPLY (withBit (0#32 : Word) 31)), State.admits_admitted (by decide +kernel), by decide +kernel⟩,
   ⟨({ lk8 r with bat := { go := some none } }), by decide +kernel⟩⟩

end Sys2Proof.Tests.MintW

namespace Sys2Proof.Tests.TwinW

def r : State := { State.reset with clk := { now := 1000, cyc := 1000, tBase := 5000 } }
def lanes (s : State) : State := ((((s.putBit TWN_CTRL_LANE_EN true).putBit TWN_CTRL_EN true).setLane 0 { commas := 4, good := 20 }).setLane 1 { commas := 3, good := 20, bad := 0 }).lanesPut 3
def l1 : State := lanes r
def hold (e : Nat) (s : State) : State := (s.setAuthority true e 2).putBit TWN_STAT_HOLDER true
def hf (m cp : Nat) (s : State) : State := (s.putBit TWN_CTRL_EN true).put TWN_CFG_MISS_N 3 |>.put TWN_CFG_TAKEOVER 2 |>.put TWN_STAT_MISS m |>.modTwn fun t => { t with cPeer := cp }
def hb (s : State) : State := s.putBit TWN_CTRL_HB_EN true
def ha (a : Option Nat) (s : State) : State := s.modTwn fun t => { t with ho := some { mfn := 5, frame := 3, ack := a } }

theorem witness_TwinCells :
    (∃ (s : State), s.bit TWN_CTRL_LANE_EN = false)
    ∧ (∃ (lane : Fin 2) (c : Cell) (w : BitVec 128) (s : State), s.takesCell (↑lane) c w 2)
    ∧ (∃ (lane : Fin 2) (c : Cell) (w : BitVec 128) (s : State), s.takesCell (↑lane) c w 3)
    ∧ (∃ (lane : Fin 2) (c : Cell) (w : BitVec 128) (s : State), s.takesCell (↑lane) c w 4)
    ∧ (∃ (lane : Fin 2) (c : Cell) (w : BitVec 128) (s : State), s.takesCell (↑lane) c w (idleType w))
    ∧ (∃ (lane : Fin 2) (c : Cell) (w : BitVec 128) (s : State), s.takesCell (↑lane) c w 1 ∧ slice (slice w.toNat 111 0) 2 2 = s.unitBit)
    ∧ (∃ (lane : Fin 2) (c : Cell) (w : BitVec 128) (s : State), s.takesCell (↑lane) c w 1 ∧ slice (slice w.toNat 111 0) 2 2 ≠ s.unitBit)
    ∧ (∃ (lane : Fin 2) (s : State), s.laneUp ↑lane = true)
    ∧ (∃ (s : State), s.bit TWN_CTRL_LANE_EN = true ∧ s.twn.authDue = true ∧ s.bit (FCU_INJ_ARM 68) = false) :=
  ⟨⟨(r), by decide +kernel⟩,
   ⟨0, { syms := cellSyms 0x0200ffffffffffffffc0000000000000#128 0 0 }, 0x0200ffffffffffffffc0000000000000#128, (l1), by unfold State.takesCell; decide +kernel⟩,
   ⟨0, { syms := cellSyms 0x0200ffffffffffffffc0000000000000#128 0 0 }, 0x0200ffffffffffffffc0000000000000#128, (l1), by unfold State.takesCell; decide +kernel⟩,
   ⟨0, { syms := cellSyms 0x0200ffffffffffffffc0000000000000#128 0 0 }, 0x0200ffffffffffffffc0000000000000#128, (l1), by unfold State.takesCell; decide +kernel⟩,
   ⟨0, { syms := cellSyms 0x03000000000000000000000000000000#128 0 0 }, 0x03000000000000000000000000000000#128, (l1), by unfold State.takesCell; decide +kernel⟩,
   ⟨0, { syms := cellSyms 0x0200ffffffffffffffc0000000000000#128 0 0 }, 0x0200ffffffffffffffc0000000000000#128, (l1), by unfold State.takesCell; decide +kernel, by decide +kernel⟩,
   ⟨0, { syms := cellSyms 0x01000005000900098000000000000004#128 0 0 }, 0x01000005000900098000000000000004#128, (l1), by unfold State.takesCell; decide +kernel, by decide +kernel⟩,
   ⟨0, (l1), by decide +kernel⟩,
   ⟨(l1.modTwn fun t => { t with authDue := true }), by decide +kernel⟩⟩

theorem witness_AuthorityMoves :
    (∃ (s : State), s.bit TWN_CTRL_HB_EN = true)
    ∧ (∃ (s : State), s.bit TWN_CTRL_HB_EN = false ∧ s.holder = false ∧ s.bit TWN_CTRL_EN = true ∧ s.takeoverBlock = 0 ∧ (s.twn.peerReleased = true ∨ s.get TWN_CFG_MISS_N ≤ s.get TWN_STAT_MISS))
    ∧ (∃ (s : State), s.bit TWN_CTRL_CLAIM = true ∧ s.bit TWN_CTRL_EN = true ∧ s.holder = true)
    ∧ (∃ (s : State), s.bit TWN_CTRL_CLAIM = true ∧ s.bit TWN_CTRL_EN = true ∧ s.holder = false ∧ s.bit TWN_STAT_NO_CLAIM = false ∧ s.twn.clashed = false ∧ s.bit TWN_STAT_AUTH_IN = false ∧ s.twn.peerHeld = none ∧ s.twn.peerClaim = none ∧ s.cKnown < 32767)
    ∧ (∃ (s : State) (h : HoReq) (e : Nat), s.twn.ho = some h ∧ s.holder = true ∧ h.ack = some e ∧ e < 65536)
    ∧ (∃ (s : State) (h : HoReq), s.twn.ho = some h ∧ s.holder = true ∧ h.ack = none)
    ∧ (∃ (s : State) (m : Nat) (j : Nat) (e : Nat), s.twn.ho = none ∧ s.twn.hoAck = some (m, j, e) ∧ s.holder = false ∧ e < 65536)
    ∧ (∃ (who : Who) (v : Word) (w : Word) (s : State) (u : State), s.admits who TWN_CTRL w u ∧ legalAt TWN_CTRL w = true ∧ tb w 1 = true ∧ tb w 2 = true ∧ w = withBit v 31 ∧ tb w 30 = false ∧ tb w 29 = false ∧ tb w 4 = false)
    ∧ (∃ (who : Who) (v : Word) (w : Word) (s : State) (u : State), s.admits who TWN_CTRL w u ∧ legalAt TWN_CTRL w = true ∧ tb w 1 = true ∧ tb w 2 = true ∧ w = withBit v 30 ∧ tb w 31 = false ∧ tb w 29 = false ∧ tb w 4 = false ∧ u.twn.ho = none ∧ u.holder = true)
    ∧ (∃ (who : Who) (v : Word) (w : Word) (s : State) (u : State), s.admits who TWN_CTRL w u ∧ legalAt TWN_CTRL w = true ∧ tb w 1 = true ∧ tb w 2 = true ∧ w = withBit v 30 ∧ tb w 31 = false ∧ tb w 29 = false ∧ tb w 4 = false ∧ u.twn.ho = none ∧ u.holder = false)
    ∧ (∃ (who : Who) (v : Word) (w : Word) (s : State) (u : State), s.admits who TWN_CTRL w u ∧ legalAt TWN_CTRL w = true ∧ tb w 1 = true ∧ tb w 2 = true ∧ w = withBit v 29 ∧ tb w 31 = false ∧ tb w 30 = false ∧ tb w 4 = false ∧ u.loadAllowed = true)
    ∧ (∃ (who : Who) (v : Word) (w : Word) (s : State) (u : State), s.admits who TWN_CTRL w u ∧ legalAt TWN_CTRL w = true ∧ tb w 1 = true ∧ tb w 2 = true ∧ w = withBit v 29 ∧ tb w 31 = false ∧ tb w 30 = false ∧ tb w 4 = false ∧ u.loadAllowed = false)
    ∧ (∃ (who : Who) (v : Word) (w : Word) (s : State) (u : State), s.admits who TWN_CTRL w u ∧ legalAt TWN_CTRL w = true ∧ tb w 1 = true ∧ tb w 2 = true ∧ w = withBit v 4 ∧ tb w 31 = false ∧ tb w 30 = false ∧ tb w 29 = false) :=
  ⟨⟨((hb (hf 2 5 r)).modTwn fun t => { t with hbSeen := true, lost := true }), by decide +kernel⟩,
   ⟨((hf 3 100 r).modTwn fun t => { t with missAuth := true }), by decide +kernel⟩,
   ⟨(hold 4 ((hf 0 7 r).putBit TWN_CTRL_CLAIM true)), by decide +kernel⟩,
   ⟨((hf 0 7 r).putBit TWN_CTRL_CLAIM true), by decide +kernel⟩,
   ⟨(ha (some 77) (hold 4 l1)), (Option.get (((ha (some 77) (hold 4 l1)) : State).twn.ho) (by decide +kernel)), (Option.get (((Option.get (((ha (some 77) (hold 4 l1)) : State).twn.ho) (by decide +kernel)) : HoReq).ack) (by decide +kernel)), by decide +kernel⟩,
   ⟨(ha none (hold 4 l1)), (Option.get (((ha none (hold 4 l1)) : State).twn.ho) (by decide +kernel)), by decide +kernel⟩,
   ⟨(l1.modTwn fun t => { t with hoAck := some (0,3,77) }), 0, 3, 77, by decide +kernel⟩,
   ⟨(Who.sup true), 6#32, 2147483654#32, (r), (((r) : State).admitted ((Who.sup true) : Who) TWN_CTRL (2147483654#32 : Word)), State.admits_admitted (by decide +kernel), by decide +kernel⟩,
   ⟨(Who.sup true), 6#32, 1073741830#32, (hb (hf 15 5 (hold 3 r))), (((hb (hf 15 5 (hold 3 r))) : State).admitted ((Who.sup true) : Who) TWN_CTRL (1073741830#32 : Word)), State.admits_admitted (by decide +kernel), by decide +kernel⟩,
   ⟨(Who.sup true), 6#32, 1073741830#32, (r), (((r) : State).admitted ((Who.sup true) : Who) TWN_CTRL (1073741830#32 : Word)), State.admits_admitted (by decide +kernel), by decide +kernel⟩,
   ⟨(Who.sup true), 6#32, 536870918#32, (hold 9 (r.put TBS_SYNC_CTRL_MODE 3)), (((hold 9 (r.put TBS_SYNC_CTRL_MODE 3)) : State).admitted ((Who.sup true) : Who) TWN_CTRL (536870918#32 : Word)), State.admits_admitted (by decide +kernel), by decide +kernel⟩,
   ⟨(Who.sup true), 6#32, 536870918#32, (r), (((r) : State).admitted ((Who.sup true) : Who) TWN_CTRL (536870918#32 : Word)), State.admits_admitted (by decide +kernel), by decide +kernel⟩,
   ⟨(Who.sup true), 6#32, 22#32, (r), (((r) : State).admitted ((Who.sup true) : Who) TWN_CTRL (22#32 : Word)), State.admits_admitted (by decide +kernel), by decide +kernel⟩⟩

end Sys2Proof.Tests.TwinW

namespace Sys2Proof.Tests.TransferW

def r : State := { State.reset with clk := { now := 1000, cyc := 1000, tBase := 5000 } }
def lanes (s : State) : State := ((((s.putBit TWN_CTRL_LANE_EN true).putBit TWN_CTRL_EN true).setLane 0 { commas := 4, good := 20 }).setLane 1 { commas := 3, good := 20, bad := 0 }).lanesPut 3
def l1 : State := lanes r
def hold (e : Nat) (s : State) : State := (s.setAuthority true e 2).putBit TWN_STAT_HOLDER true
theorem witness_TransfersApplyWhole :
    (∃ (who : Who) (v : Word) (w : Word) (s : State) (u : State), w = withBit v 31 ∧ s.admits who TWN_XFER_CTRL w u ∧ legalAt TWN_XFER_CTRL w = true ∧ u.twn.xfer = none ∧ u.holder = false ∧ (bitsOf w 4 0 < u.nEngines ∨ 16 ≤ bitsOf w 4 0))
    ∧ (∃ (who : Who) (v : Word) (w : Word) (s : State) (u : State), w = withBit v 31 ∧ s.admits who TWN_XFER_CTRL w u ∧ legalAt TWN_XFER_CTRL w = true ∧ u.twn.xfer = none ∧ u.holder = true) :=
  ⟨⟨(Who.sup true), 983043#32, 2148466691#32, (r), (((r) : State).admitted ((Who.sup true) : Who) TWN_XFER_CTRL (2148466691#32 : Word)), by decide +kernel, State.admits_admitted (by decide +kernel), by decide +kernel⟩,
   ⟨(Who.sup true), 983043#32, 2148466691#32, (hold 9 (l1.putBit TWN_CFG_XFER_SERVE true)), (((hold 9 (l1.putBit TWN_CFG_XFER_SERVE true)) : State).admitted ((Who.sup true) : Who) TWN_XFER_CTRL (2148466691#32 : Word)), by decide +kernel, State.admits_admitted (by decide +kernel), by decide +kernel⟩⟩

end Sys2Proof.Tests.TransferW

namespace Sys2Proof.Tests.CompareW

def r : State := { State.reset with clk := { now := 1000, cyc := 1000, tBase := 5000 } }
def lanes (s : State) : State := ((((s.putBit TWN_CTRL_LANE_EN true).putBit TWN_CTRL_EN true).setLane 0 { commas := 4, good := 20 }).setLane 1 { commas := 3, good := 20, bad := 0 }).lanesPut 3
def l1 : State := lanes r
def hold (e : Nat) (s : State) : State := (s.setAuthority true e 2).putBit TWN_STAT_HOLDER true
def dg (s : State) : State := s.modTwn fun t => { t with dig := (List.range 90).map (fun i => (i, 0xFFFF000000000000000000000000)), peerHealth := some (payload [(s.mfn % 65536, 96), (0xFFFF,48)], 990) , ownRun := 0xFFFF, digRun := 3 }
def cmp (s : State) : State := (s.putBit TWN_CTRL_CMP_EN true).put TWN_CFG_DIG_OK_N 4
def busy (s : State) : State := ((s.putBit TWN_FWD_TXS_BUSY true).put TWN_FWD_TX_TAG 0xBEEF).putBit TWN_FWD_TX_SEND true |>.modTwn fun t => { t with fwd := [5,6], fwdLane := some 0 }
def fr (len tg ep : Nat) (s : State) : State := s.modTwn fun t => { t with fwdRx := some { target := tg, len := len, tag := 77, epoch := ep } }
def same : State := (dg (cmp r)).modTwn fun t => { t with compared := some 0 }
def xf (sel : Nat) (acc : Bool) (s : State) : State := s.modTwn fun t => { t with xfer := some { sel := sel, xw := 4, m := 2, accepted := acc }, xcells := [7] }
def fullx (sel m : Nat) : Xfer := { sel := sel, xw := 1, m := m, accepted := true, snap := (List.range 4096).map fun i => (i, BitVec.ofNat 32 (i * 77 + 5)), lastAt := 12 }
def late (s : State) : State := { s.put TBS_MFN_MFN 40 with clk := { s.clk with now := 2400*40, cyc := 2399 } }
def wx (x : Xfer) : State := (late l1).modTwn fun t => { t with xfer := some x }
theorem witness_ComparisonAndForwarding :
    (∃ (s : State), s.bit TWN_CTRL_CMP_EN = true ∧ s.twn.compared ≠ some s.mfn ∧ s.digComplete = true ∧ (∀ (n : Nat), n < s.nEngines → s.engDiff n = none) ∧ slice (s.peerDig 89) 95 64 = slice (s.digestPay 89).toNat 95 64 ∧ slice (s.peerDig 89) 47 16 = slice (s.digestPay 89).toNat 47 16)
    ∧ (∃ (s : State), s.bit TWN_CTRL_CMP_EN = true ∧ s.twn.compared ≠ some s.mfn ∧ s.digComplete = false)
    ∧ (∃ (s : State), (s.bit TWN_CTRL_CMP_EN = false ∨ s.twn.compared = some s.mfn))
    ∧ (∃ (who : Who) (v : Word) (s : State) (u : State), s.admits who TWN_FWD_TX (withBit v 31) u ∧ legalAt TWN_FWD_TX (withBit v 31) = true ∧ u.bit TWN_FWD_TXS_BUSY = false ∧ bitsOf v 21 16 ≤ 32)
    ∧ (∃ (who : Who) (v : Word) (s : State) (u : State), s.admits who TWN_FWD_TX (withBit v 31) u ∧ legalAt TWN_FWD_TX (withBit v 31) = true ∧ u.bit TWN_FWD_TXS_BUSY = false ∧ 32 < bitsOf v 21 16)
    ∧ (∃ (s : State), s.bit TWN_FWD_TXS_BUSY = true)
    ∧ (∃ (lane : Fin 2) (c : Cell) (w : BitVec 128) (s : State), s.takesCell (↑lane) c w 7 ∧ s.bit TWN_FWD_TXS_BUSY = true ∧ slice (slice w.toNat 111 0) 111 96 = s.get TWN_FWD_TX_TAG)
    ∧ (∃ (lane : Fin 2) (c : Cell) (w : BitVec 128) (s : State), s.takesCell (↑lane) c w 5 ∧ slice (slice w.toNat 111 0) 109 104 ≠ 0)
    ∧ (∃ (lane : Fin 2) (c : Cell) (w : BitVec 128) (s : State) (r : FwdRx), s.takesCell (↑lane) c w 6 ∧ s.twn.fwdRx = some r ∧ r.cells = [] ∧ 1 ≤ r.len ∧ r.len ≤ 3 ∧ slice w.toNat 119 112 = 0 ∧ slice (slice w.toNat 111 0) 111 96 = r.tag ∧ r.target = 2 ∧ r.epoch = s.epoch ∧ s.holder = true ∧ s.bit TWN_FWD_RXS_FULL = false) :=
  ⟨⟨(dg (cmp { r with member := .sc12 })), by decide +kernel⟩,
   ⟨(r), by decide +kernel⟩,
   ⟨(same), by decide +kernel⟩,
   ⟨(Who.sup true), 0#32, (r), (((r) : State).admitted ((Who.sup true) : Who) TWN_FWD_TX (withBit (0#32 : Word) 31)), State.admits_admitted (by decide +kernel), by decide +kernel⟩,
   ⟨(Who.sup true), 2162693#32, (r), (((r) : State).admitted ((Who.sup true) : Who) TWN_FWD_TX (withBit (2162693#32 : Word) 31)), State.admits_admitted (by decide +kernel), by decide +kernel⟩,
   ⟨(busy l1), by decide +kernel⟩,
   ⟨0, { syms := cellSyms 0x0700beef100000000000000000000000#128 0 0 }, 0x0700beef100000000000000000000000#128, (busy l1), by unfold State.takesCell; decide +kernel, by decide +kernel⟩,
   ⟨0, { syms := cellSyms 0x0700beef100000000000000000000000#128 0 0 }, 0x0700beef100000000000000000000000#128, (busy l1), by unfold State.takesCell; decide +kernel, by decide +kernel⟩,
   ⟨0, { syms := cellSyms 0x0600004d8000000000000001ffffffff#128 0 0 }, 0x0600004d8000000000000001ffffffff#128, (hold 9 (fr 3 2 9 l1)), { target := 2, len := 3, tag := 77, epoch := 9 }, by unfold State.takesCell; decide +kernel, by decide +kernel⟩⟩

theorem witness_TransfersApplyWhole :
    (∃ (lane : Fin 2) (c : Cell) (w : BitVec 128) (s : State), s.takesCell (↑lane) c w 8)
    ∧ (∃ (lane : Fin 2) (c : Cell) (w : BitVec 128) (s : State) (x : Xfer), s.twn.xfer = some x ∧ x.sel = slice w.toNat 119 112 ∧ s.takesCell (↑lane) c w 9 ∧ slice (slice w.toNat 111 0) 111 108 = 0)
    ∧ (∃ (lane : Fin 2) (c : Cell) (w : BitVec 128) (s : State) (x : Xfer), s.twn.xfer = some x ∧ x.sel = slice w.toNat 119 112 ∧ s.takesCell (↑lane) c w 9 ∧ slice (slice w.toNat 111 0) 111 108 = 1)
    ∧ (∃ (lane : Fin 2) (c : Cell) (w : BitVec 128) (s : State) (x : Xfer), s.twn.xfer = some x ∧ x.sel = slice w.toNat 119 112 ∧ s.takesCell (↑lane) c w 10 ∧ x.sel ≤ 15 ∧ slice (slice w.toNat 111 0) 111 100 + 2 < 4096)
    ∧ (∃ (lane : Fin 2) (c : Cell) (w : BitVec 128) (s : State) (x : Xfer), s.twn.xfer = some x ∧ x.sel = slice w.toNat 119 112 ∧ s.takesCell (↑lane) c w 11)
    ∧ (∃ (s : State) (x : Xfer), s.twn.serve = none ∧ s.twn.xfer = some x ∧ x.sel ≤ 15 ∧ s.xferFrame x.m x.xw true = true ∧ x.accepted = true ∧ List.length x.snap = 4096 ∧ x.lastAt + 8 ≤ s.clk.now ∧ (List.map (fun x => x.fst) x.snap).Nodup ∧ (∀ (e : Nat × BitVec 32), e ∈ x.snap → e.fst < 4096) ∧ x.jr = [])
    ∧ (∃ (s : State) (x : Xfer), s.twn.serve = none ∧ s.twn.xfer = some x ∧ x.sel ≤ 15 ∧ s.xferFrame x.m x.xw true = true ∧ x.accepted = false)
    ∧ (∃ (s : State) (x : Xfer), s.twn.xfer = some x ∧ x.sel ≤ 15 ∧ s.xferStuck x.m x.xw = true) :=
  ⟨⟨0, { syms := cellSyms 0x08030800000005000000000000000000#128 0 0 }, 0x08030800000005000000000000000000#128, (l1), by unfold State.takesCell; decide +kernel⟩,
   ⟨0, { syms := cellSyms 0x08030800000000000000000000000000#128 0 0 }, 0x08030800000000000000000000000000#128, (xf 3 true l1), (Option.get (((xf 3 true l1) : State).twn.xfer) (by decide +kernel)), by decide +kernel, by decide +kernel, by unfold State.takesCell; decide +kernel, by decide +kernel⟩,
   ⟨0, { syms := cellSyms 0x09031000000020000000000000000000#128 0 0 }, 0x09031000000020000000000000000000#128, (xf 3 true l1), (Option.get (((xf 3 true l1) : State).twn.xfer) (by decide +kernel)), by decide +kernel, by decide +kernel, by unfold State.takesCell; decide +kernel, by decide +kernel⟩,
   ⟨0, { syms := cellSyms 0x08030800000005000000000000000000#128 0 0 }, 0x08030800000005000000000000000000#128, (xf 3 true l1), (Option.get (((xf 3 true l1) : State).twn.xfer) (by decide +kernel)), by decide +kernel, by decide +kernel, by unfold State.takesCell; decide +kernel, by decide +kernel⟩,
   ⟨0, { syms := cellSyms 0x08030800000005000000000000000000#128 0 0 }, 0x08030800000005000000000000000000#128, (xf 3 true l1), (Option.get (((xf 3 true l1) : State).twn.xfer) (by decide +kernel)), by decide +kernel, by decide +kernel, by unfold State.takesCell; decide +kernel⟩,
   ⟨(wx (fullx 3 30)), fullx 3 30, by decide +kernel, rfl, by decide +kernel, by decide +kernel, by decide +kernel, by simp [fullx], by decide +kernel, by simp [fullx, Function.comp_def, List.nodup_range], by simp [fullx], rfl⟩,
   ⟨(wx { sel := 3, xw := 1, m := 40, accepted := false }), { sel := 3, xw := 1, m := 40, accepted := false }, by decide +kernel, rfl, by decide +kernel⟩,
   ⟨(wx { sel := 3, xw := 1, m := 20, accepted := false }), (Option.get (((wx { sel := 3, xw := 1, m := 20, accepted := false }) : State).twn.xfer) (by decide +kernel)), by decide +kernel⟩⟩

end Sys2Proof.Tests.CompareW

namespace Sys2Proof.Tests.LedgerW
def r : State := { State.reset with clk := { now := 1000, cyc := 1000, tBase := 5000 } }
def ev (src c v : Nat) : Ev := { src := src, cause := c, value := BitVec.ofNat 32 v, stamp := 77, order := 3 }
def rec1 (src c v n : Nat) (s : State) : State := ((s.put LDG_SEQ_SEQ n).put LDG_FSEQ_SEQ n |>.put LDG_MSEQ_SEQ n).writeRecord (ev src c v)
def fl (s : State) : State := (((s.putBit LDG_CTRL_FLUSH_EN true).setWord (LDG_MR_OWN) 0x00100001).setWord (LDG_MR_OWN+12) 0x00200001).setWord (XSP_CMDS 1) 0x00020003
/-- A burst of a mirrored record is on the bus. -/
def burst : State := { (fl r).setWord (LDG_MR_OWN+4) 0x00100003 with ldg := { r.ldg with burst := some (.peer 1), peerq := [List.replicate 32 7, []] } }
def bl (f : Bool) (s : State) : State := (if f then s.arm 300 (.flushRetry true) else s).putBit LDG_STAT_BLOCKED true
def wch (c src lk : Nat) (arm : Bool) (s : State) : State := ((s.put (LDG_WCH_SRC c) src).put (LDG_WCH_LINK c) lk).putBit (LDG_WCH_ARM c) arm
def pf (s : State) : State := s.putBit LDG_STAT_PF_ACTIVE true
def wc : State := wch 15 1 4 true (wch 3 1 127 false (wch 0 2 1 true r))
def fz (c : Nat) (s : State) : State := (((s.putBit (LDG_WST_FROZEN c) true).put (LDG_WST_FILL c) 8192).putBit (LDG_WST_SAVED c) true)
def lanes (s : State) : State := ((((s.putBit TWN_CTRL_LANE_EN true).putBit TWN_CTRL_EN true).setLane 0 { commas := 4, good := 20 }).setLane 1 { commas := 3, good := 20, bad := 0 }).lanesPut 3
def rbytes : List Byte := (ev 353 4 99).record 0x12345
def asm (bs : List Byte) (q : Nat) (s : State) : State := { s with ldg := { s.ldg with asm := [(0, some (.taking q 2 (bs.take 28))), (1, some (.taking (q+1) 2 (bs.take 28)))] } }
def pr (s : State) : State := (s.setWord (LDG_MR_OWN+4) 0x00100003).setWord (LDG_MR_OWN+12) 0x00200001
def rp (n : Nat) : State := r.put LDG_PRE_PRE n
def left (c : Nat) (n : Option Nat) (s : State) : State := s.setWch c { left := n, armedAt := some 5 }
def pfc (s : State) : State := { s with ldg := { s.ldg with pfCut := true } }
theorem witness_FlushAndPowerFail :
    (∃ (s : State), s.mayFlush = true ∧ s.bit LDG_STAT_BLOCKED = false ∧ s.ldg.burst = none ∧ s.ldg.peerq = [] ∧ s.word (XSP_CMDS 1) >>> 16 ≠ 0 ∧ s.ldg.pfCut = false ∧ s.backlog = 1 ∧ s.mrLen 0 ≠ 0 ∧ s.mrBad 0 = false ∧ s.bit (FCU_INJ_ARM 70) = false)
    ∧ (∃ (s : State), s.mayFlush = true ∧ s.bit LDG_STAT_BLOCKED = false ∧ s.ldg.burst = none ∧ s.ldg.peerq = [] ∧ s.word (XSP_CMDS 1) >>> 16 ≠ 0 ∧ s.ldg.pfCut = false ∧ s.backlog = 0 ∧ s.ldg.authq = [] ∧ s.ldg.waveq = [])
    ∧ (∃ (s : State), s.mayFlush = true ∧ s.bit LDG_STAT_BLOCKED = false ∧ s.ldg.burst = none ∧ s.ldg.peerq = [] ∧ s.word (XSP_CMDS 1) >>> 16 ≠ 0 ∧ s.ldg.pfCut = true ∧ s.ldg.pfEnd = none)
    ∧ (∃ (s : State), s.mayFlush = true ∧ s.bit LDG_STAT_BLOCKED = false ∧ s.ldg.burst = none ∧ s.ldg.peerq = [] ∧ s.word (XSP_CMDS 1) >>> 16 ≠ 0 ∧ s.ldg.fails = 1)
    ∧ (∃ (s : State), s.mayFlush = true ∧ s.bit LDG_STAT_BLOCKED = true ∧ s.xsp.icmd = none ∧ s.word (XSP_CMDS 1) >>> 16 ≠ 0)
    ∧ (∃ (s : State), s.mayFlush = true ∧ s.bit LDG_STAT_BLOCKED = true ∧ s.xsp.icmd.isSome = true)
    ∧ (∃ (s : State), s.ldg.burst = none ∧ (s.mayFlush = false ∨ s.bit LDG_STAT_BLOCKED = true))
    ∧ (∃ (s : State), s.bit SYS_PWRSTAT_PFAIL = false ∧ s.inReset = false ∧ s.ldg.pfRun = false)
    ∧ (∃ (s : State), s.bit SYS_PWRSTAT_PFAIL = true ∧ s.inReset = false)
    ∧ (∃ (s : State), s.bit LDG_STAT_PF_ACTIVE = true ∧ s.ldg.pfStop = false ∧ s.ldg.burst = none ∧ s.ldg.pfCut = false)
    ∧ (∃ (who : Who) (v : Word) (w : Word) (s : State) (u : State), s.admits who LDG_CTRL w u ∧ legalAt LDG_CTRL w = true ∧ w = withBit v 0 ∧ tb w 3 = false ∧ tb w 4 = false ∧ (∀ (r : Nat), r < 4 → u.mrBad r = false))
    ∧ (∃ (who : Who) (v : Word) (w : Word) (s : State) (u : State) (r : Nat), s.admits who LDG_CTRL w u ∧ legalAt LDG_CTRL w = true ∧ w = withBit v 0 ∧ tb w 3 = false ∧ tb w 4 = false ∧ r < 4 ∧ u.mrBad r = true ∧ (∀ (q : Nat), q < r → u.mrBad q = false))
    ∧ (∃ (who : Who) (v : Word) (w : Word) (s : State) (u : State), s.admits who LDG_CTRL w u ∧ legalAt LDG_CTRL w = true ∧ w = withBit v 3 ∧ tb w 0 = false ∧ tb w 4 = false)
    ∧ (∃ (s : State) (bs : List Byte) (later : List (List Byte)), s.ldg.burst = some (.peer 1) ∧ s.ldg.peerq = bs :: later ∧ bs.length = 32 ∧ s.mrLen 1 ≠ 0 ∧ s.bit LDG_STAT_BLOCKED = false ∧ s.ldg.pfStop = false ∧ s.word (XSP_CMDS 1) >>> 16 ≠ 0 ∧ s.bit (FCU_INJ_ARM 70) = false) :=
  ⟨⟨(fl (rec1 353 2 9 0 r)), by decide +kernel⟩,
   ⟨(fl r), by decide +kernel⟩,
   ⟨(pfc (pf (fl (rec1 5 2 9 3 r)))), by decide +kernel⟩,
   ⟨(let s : State := fl (rec1 5 2 9 32767 r); { s with ldg := { s.ldg with ownGap := true, fails := 1 } }), by decide +kernel⟩,
   ⟨(bl true (fl (rec1 5 2 9 3 r))), by decide +kernel⟩,
   ⟨(let s : State := bl true (fl (rec1 5 2 9 3 r)); { s with xsp := { s.xsp with icmd := some (0, 3) } }), by decide +kernel⟩,
   ⟨(r), by decide +kernel⟩,
   ⟨(r), by decide +kernel⟩,
   ⟨(r.putBit SYS_PWRSTAT_PFAIL true), by decide +kernel⟩,
   ⟨(pf r), by decide +kernel⟩,
   ⟨(Who.sup true), 0#32, 1#32, (r), (((r) : State).admitted ((Who.sup true) : Who) LDG_CTRL (1#32 : Word)), State.admits_admitted (by decide +kernel), by decide +kernel⟩,
   ⟨(Who.sup true), 0#32, 1#32, (burst.putBit XSP_STAT_LDG_BUSY true), (((burst.putBit XSP_STAT_LDG_BUSY true) : State).admitted ((Who.sup true) : Who) LDG_CTRL (1#32 : Word)), 1, State.admits_admitted (by decide +kernel), by decide +kernel⟩,
   ⟨(Who.sup true), 0#32, 8#32, (r), (((r) : State).admitted ((Who.sup true) : Who) LDG_CTRL (8#32 : Word)), State.admits_admitted (by decide +kernel), by decide +kernel⟩,
   ⟨burst, List.replicate 32 7, [[]], by decide +kernel⟩⟩

theorem witness_ChannelsReadoutMirror :
    (∃ (who : Who) (c : Fin 16) (v : Word) (w : Word) (s : State) (u : State), w = withBit v 31 ∧ s.admits who (LDG_WCH ↑c) w u ∧ legalAt (LDG_WCH ↑c) w = true ∧ bitsOf w 9 8 ≠ 0 ∧ (u.get (LDG_WCH_SRC ↑c) = 0 ∨ u.get (LDG_WCH_SRC ↑c) = bitsOf w 9 8))
    ∧ (∃ (who : Who) (v : Word) (w : Word) (s : State) (u : State), w = withBit v 4 ∧ s.admits who LDG_CTRL w u ∧ legalAt LDG_CTRL w = true ∧ (tb w 0 = true → ∀ (r : Nat), r < 4 → u.mrBad r = false) ∧ u.ldg.trigAt = some u.clk.now)
    ∧ (∃ (who : Who) (v : Word) (w : Word) (s : State) (u : State), w = withBit v 4 ∧ s.admits who LDG_CTRL w u ∧ legalAt LDG_CTRL w = true ∧ (tb w 0 = true → ∀ (r : Nat), r < 4 → u.mrBad r = false) ∧ u.ldg.trigAt ≠ some u.clk.now ∧ (∀ (c : Nat), c < 16 → u.waveReady c = false))
    ∧ (∃ (who : Who) (v : Word) (w : Word) (s : State) (u : State) (c0 : Nat), w = withBit v 4 ∧ s.admits who LDG_CTRL w u ∧ legalAt LDG_CTRL w = true ∧ (tb w 0 = true → ∀ (r : Nat), r < 4 → u.mrBad r = false) ∧ u.ldg.trigAt ≠ some u.clk.now ∧ c0 < 16 ∧ u.waveReady c0 = true ∧ (∀ (c : Nat), c < c0 → u.waveReady c = false))
    ∧ (∃ (c : Fin 16) (s : State), (s.wch ↑c).left.isSome = true)
    ∧ (∃ (c : Fin 16) (s : State), (s.wch ↑c).left = none)
    ∧ (∃ (who : Who) (v : Word) (w : Word) (s : State) (u : State), w = withBit v 31 ∧ s.admits who LDG_RD_CTRL w u ∧ legalAt LDG_RD_CTRL w = true ∧ u.bit LDG_STAT_RD_BUSY = true)
    ∧ (∃ (who : Who) (v : Word) (w : Word) (s : State) (u : State), w = withBit v 31 ∧ s.admits who LDG_RD_CTRL w u ∧ legalAt LDG_RD_CTRL w = true ∧ u.bit LDG_STAT_RD_BUSY = false ∧ (u.apply LDG_RD_CTRL w).readout.count = 0)
    ∧ (∃ (who : Who) (v : Word) (w : Word) (s : State) (u : State), w = withBit v 31 ∧ s.admits who LDG_RD_CTRL w u ∧ legalAt LDG_RD_CTRL w = true ∧ u.bit LDG_STAT_RD_BUSY = false ∧ (u.apply LDG_RD_CTRL w).readout.count ≠ 0 ∧ (u.apply LDG_RD_CTRL w).readout.count ≤ (u.apply LDG_RD_CTRL w).readout.size ∧ (u.apply LDG_RD_CTRL w).readout.start < (u.apply LDG_RD_CTRL w).readout.size ∧ 402653184 ≤ (u.apply LDG_RD_CTRL w).readout.dst ∧ (u.apply LDG_RD_CTRL w).readout.dst + (u.apply LDG_RD_CTRL w).readout.count * (u.apply LDG_RD_CTRL w).readout.width ≤ 402915328)
    ∧ (∃ (who : Who) (o : Nat) (s : State), o < 1048576 ∧ o % 4 = 0 ∧ s.admitsRead who (1207959552 + o) ∧ s.eccRead 72 (o / 16) ≠ EccRead.bad)
    ∧ (∃ (who : Who) (o : Nat) (s : State), o < 1048576 ∧ o % 4 = 0 ∧ s.admitsRead who (1207959552 + o) ∧ s.eccRead 72 (o / 16) = EccRead.bad)
    ∧ (∃ (lane : Fin 2) (c : Cell) (w : BitVec 128) (s : State) (q : Nat) (bs : List Byte), s.takesCell (↑lane) c w 12 ∧ slice w.toNat 119 112 = 4 * q + 2 ∧ s.mirAsm ↑lane = some (MirAsm.taking q 2 bs) ∧ bs.length = 28 ∧ s.mrLen 1 ≠ 0 ∧ s.mrBad 1 = false ∧ s.ldg.pfStop = false ∧ s.bit (FCU_INJ_ARM 70) = false ∧ natLE (List.drop 30 (bs ++ bytesLE (slice w.toNat 111 0) 4)) = crc16 (List.take 30 (bs ++ bytesLE (slice w.toNat 111 0) 4)))
    ∧ (∃ (lane : Fin 2) (c : Cell) (w : BitVec 128) (s : State) (q : Nat) (bs : List Byte), s.takesCell (↑lane) c w 12 ∧ slice w.toNat 119 112 = 4 * q + 2 ∧ s.mirAsm ↑lane = some (MirAsm.taking q 2 bs) ∧ bs.length = 28 ∧ s.mrLen 1 ≠ 0 ∧ s.mrBad 1 = false ∧ s.ldg.pfStop = false ∧ s.bit (FCU_INJ_ARM 70) = false ∧ natLE (List.drop 30 (bs ++ bytesLE (slice w.toNat 111 0) 4)) ≠ crc16 (List.take 30 (bs ++ bytesLE (slice w.toNat 111 0) 4))) :=
  ⟨⟨(Who.sup true), 0, 2147483904#32, 2147483904#32, (r), (((r) : State).admitted ((Who.sup true) : Who) (LDG_WCH ↑(0 : Fin 16)) (2147483904#32 : Word)), by decide +kernel, State.admits_admitted (by decide +kernel), by decide +kernel⟩,
   ⟨(Who.sup true), 2147484031#32, 2147484031#32, ({ wc with ldg := { wc.ldg with trigAt := some 1000 } }), ((({ wc with ldg := { wc.ldg with trigAt := some 1000 } }) : State).admitted ((Who.sup true) : Who) LDG_CTRL (2147484031#32 : Word)), by decide +kernel, State.admits_admitted (by decide +kernel), by decide +kernel⟩,
   ⟨(Who.sup true), 2147484031#32, 2147484031#32, (r), (((r) : State).admitted ((Who.sup true) : Who) LDG_CTRL (2147484031#32 : Word)), by decide +kernel, State.admits_admitted (by decide +kernel), by decide +kernel⟩,
   ⟨(Who.sup true), 2147484031#32, 2147484031#32, (wc), (((wc) : State).admitted ((Who.sup true) : Who) LDG_CTRL (2147484031#32 : Word)), 15, by decide +kernel, State.admits_admitted (by decide +kernel), by decide +kernel⟩,
   ⟨3, (left 15 none (wch 15 1 5 true (left 3 (some 7) (fz 2 (wch 2 1 6 true (rp 100)))))), by decide +kernel⟩,
   ⟨0, (r), by decide +kernel⟩,
   ⟨(Who.sup true), 2147483648#32, 2147483648#32, (r.putBit LDG_STAT_RD_BUSY true), (((r.putBit LDG_STAT_RD_BUSY true) : State).admitted ((Who.sup true) : Who) LDG_RD_CTRL (2147483648#32 : Word)), by decide +kernel, State.admits_admitted (by decide +kernel), by decide +kernel⟩,
   ⟨(Who.sup true), 2147483648#32, 2147483648#32, (r), (((r) : State).admitted ((Who.sup true) : Who) LDG_RD_CTRL (2147483648#32 : Word)), by decide +kernel, State.admits_admitted (by decide +kernel), by decide +kernel⟩,
   ⟨(Who.sup true), 2147483904#32, 2147483904#32, (r.put LDG_RD_DST_ADDR (0x18000004/4)), (((r.put LDG_RD_DST_ADDR (0x18000004/4)) : State).admitted ((Who.sup true) : Who) LDG_RD_CTRL (2147483904#32 : Word)), by decide +kernel, State.admits_admitted (by decide +kernel), by decide +kernel⟩,
   ⟨(Who.sup true), 0, (r), by decide +kernel, by decide +kernel, State.admitsRead_of (by decide +kernel), by decide +kernel⟩,
   ⟨(Who.sup true), 96, ((rec1 5 2 9 3 r).setEcc 72 6 7), by decide +kernel, by decide +kernel, State.admitsRead_of (by decide +kernel), by decide +kernel⟩,
   ⟨0, { syms := cellSyms 0x0c9600000000000000000000b1790002#128 0 0 }, 0x0c9600000000000000000000b1790002#128, (asm rbytes 37 (pr (lanes r))), 37, ([0x4d#8, 0x00#8, 0x00#8, 0x00#8, 0x00#8, 0x00#8, 0x00#8, 0x00#8, 0x45#8, 0x23#8, 0x01#8, 0x00#8, 0x61#8, 0x01#8, 0x04#8, 0x03#8, 0x63#8] ++ List.replicate 11 0x00#8), by unfold State.takesCell; decide +kernel, by decide +kernel⟩,
   ⟨0, { syms := cellSyms 0x0c9600000000000000000000b1790002#128 0 0 }, 0x0c9600000000000000000000b1790002#128, (asm (rbytes.set 3 9) 37 (pr (lanes r))), 37, ([0x4d#8, 0x00#8, 0x00#8, 0x09#8, 0x00#8, 0x00#8, 0x00#8, 0x00#8, 0x45#8, 0x23#8, 0x01#8, 0x00#8, 0x61#8, 0x01#8, 0x04#8, 0x03#8, 0x63#8] ++ List.replicate 11 0x00#8), by unfold State.takesCell; decide +kernel, by decide +kernel⟩⟩

end Sys2Proof.Tests.LedgerW

namespace Sys2Proof.Tests.ResetW

def r : State := { State.reset with clk := { now := 1000, cyc := 1000, tBase := 5000 } }
def dirty : State := { (((((r.setWord SYS_STRAP 0x1D).setWord SYS_RST_CAUSE 0x3).setWord 0x40001000 7).modEng 3 fun e => { e with lastMem := some 5 }).modLink 5 fun l => { l with autonLast := true }).putBit SYS_PWRSTAT_PFAIL true with ring := [(5, 7)], itcm := [(3,4)], flash := [(9, 1)], mram := [(7,6)], pending := [.porstNLow], comps := [(3, {})] }
def railS (p : Bool) (s : State) : State := { s with boot := { s.boot with rail := true, porst := p } }
def sc (s : State) : State := (s.putBit VLT_STAT_SCAN_DONE true)
def lcs (n : Nat) (s : State) : State := s.put VLT_LC_LC n
def boots (b : Nat) (rec : Bool) (s : State) : State := (s.put SYS_STRAP_BOOT_SEL b).putBit SYS_STRAP_RECOVERY rec
def romAt (x : Rom) (s : State) : State := { s with boot := { s.boot with rom := x } }
def held (s : State) : State := { s with bus := { s.bus with coresHeld := true } }
@[irreducible] def zeros (n : Nat) : List Byte := List.replicate n 0

theorem zeros_length (n : Nat) : (zeros n).length = n := by unfold zeros; exact List.length_replicate

theorem zeros_part (i n m : Nat) (rest : List Byte) (h : i + n ≤ m) : ((zeros m ++ rest).drop i).take n = zeros n := by
  unfold zeros
  rw [List.drop_append_of_le_length (by simp; omega), List.take_append_of_le_length (by simp; omega), List.drop_replicate,
    List.take_replicate, Nat.min_eq_left (by omega)]

def recHead : List Byte := [0x42, 0x52, 0x45, 0x43] ++ zeros 4088
def recBytes : List Byte := recHead ++ bytesLE (crc32 recHead) 4
def record : State := { held (romAt .image r) with dtcm := writeBytes zeroByte [] 0x3F000 recBytes }

theorem recHead_length : recHead.length = 0xFFC := by rw [recHead, List.length_append, zeros_length]; rfl

theorem recBytes_length : recBytes.length = 0x1000 := by rw [recBytes, List.length_append, recHead_length, bytesLE_length]

theorem record_bytes : record.dtcmBytes recordAt 0x1000 = some recBytes := by
  have h := State.dtcmBytes_part (s := record) (i := 0) (n := 0x1000) (a := recordAt) (bs := recBytes) rfl rfl rfl
    (by have h0 := recBytes_length; omega) (by decide)
  rw [h, List.drop_zero, ← recBytes_length, List.take_length]

theorem record_good : record.recordGood = true := by
  unfold State.recordGood
  have h1 : recBytes.take 0xFFC = recHead := List.take_left' recHead_length
  have h2 : recBytes.drop 0xFFC = bytesLE (crc32 recHead) 4 := List.drop_left' recHead_length
  have h3 : crc32 recHead % 256 ^ 4 = crc32 recHead := Nat.mod_eq_of_lt (crc32_lt recHead)
  have h4 : recBytes.take 4 = [0x42, 0x52, 0x45, 0x43] := rfl
  rw [record_bytes]
  simp only [Option.getD_some, h1, h2, h3, h4, natLE_bytesLE, beq_self_eq_true, Bool.and_self]

theorem record_table : record.dtcmBytes (recordAt + 0x20) 2048 = some (zeros 2048) := by
  have h := State.dtcmBytes_part (s := record) (i := 0x20) (n := 2048) (a := recordAt + 0x20) (bs := recBytes) rfl rfl rfl
    (by have h0 := recBytes_length; omega) (by decide)
  rw [h, show recBytes.drop 0x20 = (zeros 4088 ++ bytesLE (crc32 recHead) 4).drop 28 from rfl,
    zeros_part 28 2048 4088 _ (by decide)]

theorem record_itcm : record.itcmGood = true := by
  unfold State.itcmGood
  rw [record_table]
  have h : (sectionsOf (zeros 2048) 32).filter (fun e => e.typ == 1) = [] := by unfold zeros; decide +kernel
  simp only [Option.getD_some, h, List.all_nil]

theorem witness_ResetsAndSupervisorStart :
    (∃ (s : State), s.boot.rail = false)
    ∧ (∃ (s : State), s.boot.rail = true ∧ s.boot.porst = false)
    ∧ (∃ (who : Who) (v : Word) (s : State) (u : State), s.admits who SYS_RST_CTRL (withBit v 1) u ∧ bitsOf v 31 16 = 23294 ∧ tb v 0 = false)
    ∧ (∃ (who : Who) (v : Word) (s : State) (u : State), s.admits who SYS_RST_CTRL (withBit v 0) u ∧ bitsOf v 31 16 = 23294 ∧ tb v 1 = false)
    ∧ (∃ (who : Who) (v : Word) (s : State) (u : State), s.admits who SYS_RST_CTRL (withBit v 0) u ∧ bitsOf v 31 16 ≠ 23294)
    ∧ (∃ (s : State), s.inReset = false ∧ s.bit VLT_STAT_SCAN_DONE = true ∧ s.boot.rom = Rom.reset ∧ s.bit SYS_STRAP_RECOVERY = false ∧ s.lc ≠ lcBLANK ∧ s.lc ≠ lcSCRAPPED ∧ s.get SYS_STRAP_BOOT_SEL < 2 ∧ s.isTrial 0 = false ∧ s.isTrial 1 = false ∧ s.get RGT_SEAL_KEY = 0)
    ∧ (∃ (s : State), s.inReset = false ∧ s.bit VLT_STAT_SCAN_DONE = true ∧ s.boot.rom = Rom.reset ∧ (s.get SYS_STRAP_BOOT_SEL = 3 ∨ s.lc = lcBLANK))
    ∧ (∃ (s : State), s.inReset = false ∧ s.bit VLT_STAT_SCAN_DONE = true ∧ s.boot.rom = Rom.reset ∧ s.bit SYS_STRAP_RECOVERY = true ∧ s.get SYS_STRAP_BOOT_SEL ≠ 3 ∧ s.lc ≠ lcBLANK)
    ∧ (∃ (s : State), (s.inReset = true ∨ s.bit VLT_STAT_SCAN_DONE = false))
    ∧ (∃ (s : State), s.bus.coresHeld = true ∧ s.boot.rom ≠ Rom.reset ∧ s.recordGood = true ∧ s.itcmGood = true ∧ (∀ (w : Nat), s.eccRead 74 w = EccRead.clean) ∧ (∀ (w : Nat), s.eccRead 75 w = EccRead.clean))
    ∧ (∃ (s : State), s.bus.coresHeld = true ∧ s.boot.rom ≠ Rom.reset ∧ (s.recordGood = false ∨ s.itcmGood = false))
    ∧ (∃ (s : State), s.bus.coresHeld = false) :=
  ⟨⟨(r), by decide +kernel⟩,
   ⟨(railS false dirty), by decide +kernel⟩,
   ⟨(Who.sup true), 1526595584#32, (r), (((r) : State).admitted ((Who.sup true) : Who) SYS_RST_CTRL (withBit (1526595584#32 : Word) 1)), State.admits_admitted (by decide +kernel), by decide +kernel⟩,
   ⟨(Who.sup true), 1526595584#32, (r), (((r) : State).admitted ((Who.sup true) : Who) SYS_RST_CTRL (withBit (1526595584#32 : Word) 0)), State.admits_admitted (by decide +kernel), by decide +kernel⟩,
   ⟨(Who.sup true), 0#32, (r), (((r) : State).admitted ((Who.sup true) : Who) SYS_RST_CTRL (withBit (0#32 : Word) 0)), State.admits_admitted (by decide +kernel), by decide +kernel⟩,
   ⟨(lcs 3 (sc r)), by decide +kernel⟩,
   ⟨(boots 3 false (sc r)), by decide +kernel⟩,
   ⟨lcs 3 (boots 0 true (sc r)), by decide +kernel⟩,
   ⟨(r), by decide +kernel⟩,
   ⟨record, rfl, by decide, record_good, record_itcm, by intros; exact State.eccRead_clean rfl _ _, by intros; exact State.eccRead_clean rfl _ _⟩,
   ⟨(held (romAt .debug r)), by decide +kernel⟩,
   ⟨{ r with bus := { r.bus with coresHeld := false } }, by decide +kernel⟩⟩

end Sys2Proof.Tests.ResetW

namespace Sys2Proof.Tests.UpdateW

def r : State := { State.reset with clk := { now := 1000, cyc := 1000, tBase := 5000 }, bus := { coresHeld := false } }
def sc (s : State) : State := (s.putBit VLT_STAT_SCAN_DONE true)
def lcs (n : Nat) (s : State) : State := s.put VLT_LC_LC n
def run0 (s : State) : State := lcs 3 (sc (s))
def romAt (x : Rom) (s : State) : State := { s with boot := { s.boot with rom := x } }
def boots (b : Nat) (rec : Bool) (s : State) : State := (s.put SYS_STRAP_BOOT_SEL b).putBit SYS_STRAP_RECOVERY rec
def bn (f : Boot → Boot) (s : State) : State := { s with boot := f s.boot }
def rr (t seq ver : Nat) (s : State) : State := s.dtcmPut recordAt ([0x42, 0x52, 0x45, 0x43] ++ bytesLE t 1 ++ bytesLE 1 1 ++ [0, 0] ++ bytesLE seq 4 ++ bytesLE ver 4)
def opr (s : State) : State := s.put RGT_ROLE_SUP_ROLE 2
def ok1 : State := opr (rr 0 5 3 (lcs 3 (r.putBit TWN_STAT_NOT_READY false)))
def sm (t : Nat) (ms : List Nat) (s : State) : State := ms.foldl (fun s m => s.setMarker t m) s
def stg (n : Nat) (v : Bool) (s : State) : State := bn (fun b => { b with staged := some n, verified := v }) s
def dirtyF (s : State) : State := { s with flash := writeBytes erasedByte (writeBytes erasedByte s.flash 0x4000000 [1,2,3,0x0F]) 0x3FFFFFE [7,7] }
def dt (s : State) : State := { s with dtcm := writeBytes zeroByte s.dtcm 0x100 [0xF0, 2, 0xFF, 0x80] }
def eth (rec mk : Bool) (s : State) : State := boots 0 rec (romAt .eth (bn (fun b => { b with ethMaker := mk }) s))
def chv (s : State) : State := s.putBit RGT_STAT_CHAL_VALID true
def el (n t : Nat) (s : State) : State := bn (fun b => { b with ethLen := some n, ethSlot := t }) s

theorem witness_UpdateAndRecovery :
    (∃ (s : State) (n : Nat), s.issues (Who.sup true) = true ∧ (∀ (w : Nat), s.eccRead 75 w = EccRead.clean) ∧ s.updCondition true = some n)
    ∧ (∃ (len : Word) (s : State), s.issues (Who.sup true) = true ∧ (∀ (w : Nat), s.eccRead 75 w = EccRead.clean) ∧ s.updCondition true = none ∧ 67104768 < BitVec.toNat len)
    ∧ (∃ (len : Word) (s : State), s.issues (Who.sup true) = true ∧ (∀ (w : Nat), s.eccRead 75 w = EccRead.clean) ∧ s.updCondition true = none ∧ len = 0)
    ∧ (∃ (len : Word) (s : State), s.issues (Who.sup true) = true ∧ (∀ (w : Nat), s.eccRead 75 w = EccRead.clean) ∧ s.updCondition true = none ∧ len ≠ 0 ∧ BitVec.toNat len ≤ 67104768 ∧ s.bit XSP_STAT_PF_OWN = false)
    ∧ (∃ (a3 : Word) (s : State), s.issues (Who.sup true) = true ∧ (∀ (w : Nat), s.eccRead 75 w = EccRead.clean) ∧ a3 = 0)
    ∧ (∃ (a3 : Word) (s : State), s.issues (Who.sup true) = true ∧ (∀ (w : Nat), s.eccRead 75 w = EccRead.clean) ∧ a3 ≠ 0 ∧ s.boot.staged = none)
    ∧ (∃ (a2 : Word) (a3 : Word) (s : State) (n : Nat), s.issues (Who.sup true) = true ∧ (∀ (w : Nat), s.eccRead 75 w = EccRead.clean) ∧ a3 ≠ 0 ∧ s.boot.staged = some n ∧ (65536 < BitVec.toNat a3 ∨ n < BitVec.toNat a2 + BitVec.toNat a3))
    ∧ (∃ (a1 : Word) (a2 : Word) (a3 : Word) (s : State) (n : Nat) (bs : List Byte), s.issues (Who.sup true) = true ∧ (∀ (w : Nat), s.eccRead 75 w = EccRead.clean) ∧ a3 ≠ 0 ∧ s.boot.staged = some n ∧ 0 < BitVec.toNat a3 ∧ BitVec.toNat a3 ≤ 65536 ∧ BitVec.toNat a2 + BitVec.toNat a3 ≤ n ∧ s.dtcmBytes (BitVec.toNat a1) (BitVec.toNat a3) = some bs ∧ s.bit XSP_STAT_PF_OWN = false)
    ∧ (∃ (s : State), s.issues (Who.sup true) = true ∧ (∀ (w : Nat), s.eccRead 75 w = EccRead.clean) ∧ s.boot.staged = none)
    ∧ (∃ (s : State), s.issues (Who.sup true) = true ∧ (∀ (w : Nat), s.eccRead 75 w = EccRead.clean) ∧ s.boot.staged.isSome = true)
    ∧ (∃ (s : State) (n : Nat), s.issues (Who.sup true) = true ∧ (∀ (w : Nat), s.eccRead 75 w = EccRead.clean) ∧ s.updCondition false = some n)
    ∧ (∃ (s : State), s.issues (Who.sup true) = true ∧ (∀ (w : Nat), s.eccRead 75 w = EccRead.clean) ∧ s.updCondition false = none ∧ s.boot.verified = false)
    ∧ (∃ (s : State), s.issues (Who.sup true) = true ∧ (∀ (w : Nat), s.eccRead 75 w = EccRead.clean) ∧ s.updCondition false = none ∧ s.boot.verified = true ∧ s.rollback ≤ s.imgVersion s.escrow ∧ s.recNat 8 4 < s.imgSeq s.escrow ∧ s.bit XSP_STAT_PF_OWN = false)
    ∧ (∃ (s : State), s.issues (Who.sup true) = true ∧ (∀ (w : Nat), s.eccRead 75 w = EccRead.clean) ∧ (s.isTrial s.runSlot = false ∨ s.marker s.runSlot mkATTEMPT = false))
    ∧ (∃ (s : State), s.issues (Who.sup true) = true ∧ (∀ (w : Nat), s.eccRead 75 w = EccRead.clean) ∧ s.isTrial s.runSlot = true ∧ s.marker s.runSlot mkATTEMPT = true ∧ s.bit XSP_STAT_PF_OWN = false)
    ∧ (∃ (s : State), s.issues (Who.sup true) = true ∧ (∀ (w : Nat), s.eccRead 75 w = EccRead.clean) ∧ s.bit XSP_STAT_PF_OWN = false)
    ∧ (∃ (s : State), s.issues (Who.sup true) = true ∧ (∀ (w : Nat), s.eccRead 75 w = EccRead.clean) ∧ s.confirmed s.runSlot = false)
    ∧ (∃ (s : State), s.issues (Who.sup true) = true ∧ (∀ (w : Nat), s.eccRead 75 w = EccRead.clean) ∧ s.confirmed s.runSlot = true ∧ s.recNat 12 4 ≤ s.rollback)
    ∧ (∃ (s : State), s.boot.rom = Rom.eth ∧ s.boot.ethHeard = false)
    ∧ (∃ (s : State), (s.boot.rom ≠ Rom.eth ∧ (s.boot.rom ≠ Rom.debug ∨ s.bit SYS_STRAP_RECOVERY = false)))
    ∧ (∃ (g : BitVec 16) (s : State), s.recovers = true ∧ s.issues (Who.sup true) = true ∧ s.boot.ethTag = some g)
    ∧ (∃ (g : BitVec 16) (s : State), s.recovers = true ∧ s.issues (Who.sup true) = true ∧ s.boot.ethTag ≠ some g ∧ s.bit SYS_STRAP_RECOVERY = true ∧ s.boot.ethMaker = false)
    ∧ (∃ (g : BitVec 16) (cred : List Byte) (s : State), s.recovers = true ∧ s.issues (Who.sup true) = true ∧ s.boot.ethTag ≠ some g ∧ s.bit SYS_STRAP_RECOVERY = true ∧ credFormat cred = true ∧ BitVec.toNat (cred.getD 4 0) ≠ 3)
    ∧ (∃ (g : BitVec 16) (cred : List Byte) (s : State), s.recovers = true ∧ s.issues (Who.sup true) = true ∧ s.boot.ethTag ≠ some g ∧ BitVec.toNat (cred.getD 4 0) = 3 ∧ credFormat cred = true ∧ s.bit RGT_STAT_CHAL_VALID = true)
    ∧ (∃ (g : BitVec 16) (len : Word) (s : State), s.recovers = true ∧ s.issues (Who.sup true) = true ∧ s.boot.ethTag ≠ some g ∧ (s.bit SYS_STRAP_RECOVERY = false ∨ s.boot.ethMaker = true) ∧ 67104768 < BitVec.toNat len)
    ∧ (∃ (g : BitVec 16) (len : Word) (s : State), s.recovers = true ∧ s.issues (Who.sup true) = true ∧ s.boot.ethTag ≠ some g ∧ (s.bit SYS_STRAP_RECOVERY = false ∨ s.boot.ethMaker = true) ∧ len = 0)
    ∧ (∃ (g : BitVec 16) (len : Word) (s : State), s.recovers = true ∧ s.issues (Who.sup true) = true ∧ s.boot.ethTag ≠ some g ∧ (s.bit SYS_STRAP_RECOVERY = false ∨ s.boot.ethMaker = true) ∧ len ≠ 0 ∧ BitVec.toNat len ≤ 67104768 ∧ s.bit XSP_STAT_PF_OWN = false)
    ∧ (∃ (g : BitVec 16) (off : Word) (data : List Byte) (s : State), s.recovers = true ∧ s.issues (Who.sup true) = true ∧ s.boot.ethTag ≠ some g ∧ (s.bit SYS_STRAP_RECOVERY = false ∨ s.boot.ethMaker = true) ∧ (1024 < data.length ∨ s.boot.ethLen.getD 0 < BitVec.toNat off + data.length))
    ∧ (∃ (g : BitVec 16) (off : Word) (data : List Byte) (s : State), s.recovers = true ∧ s.issues (Who.sup true) = true ∧ s.boot.ethTag ≠ some g ∧ (s.bit SYS_STRAP_RECOVERY = false ∨ s.boot.ethMaker = true) ∧ data.length ≤ 1024 ∧ BitVec.toNat off + data.length ≤ s.boot.ethLen.getD 0 ∧ s.bit XSP_STAT_PF_OWN = false)
    ∧ (∃ (g : BitVec 16) (s : State), s.recovers = true ∧ s.issues (Who.sup true) = true ∧ s.boot.ethTag ≠ some g ∧ (s.bit SYS_STRAP_RECOVERY = false ∨ s.boot.ethMaker = true) ∧ s.boot.ethLen.isSome = true ∧ s.boot.ethSlot < 2 ∧ s.bit XSP_STAT_PF_OWN = false)
    ∧ (∃ (s : State) (a0 : Word), s.issues (Who.sup true) = true ∧ (∀ (w : Nat), s.eccRead 75 w = EccRead.clean) ∧ 6 < a0.toNat)
    ∧ (∃ (s : State), s.issues (Who.sup true) = false) :=
  ⟨⟨(r), (Option.get (((r) : State).updCondition true) (by decide +kernel)), by decide +kernel, by intros; exact State.eccRead_clean (by decide +kernel) _ _, by decide +kernel⟩,
   ⟨402653440#32, (dirtyF ok1), by decide +kernel, by intros; exact State.eccRead_clean (by decide +kernel) _ _, by decide +kernel⟩,
   ⟨0#32, (dirtyF ok1), by decide +kernel, by intros; exact State.eccRead_clean (by decide +kernel) _ _, by decide +kernel⟩,
   ⟨1#32, (dirtyF ok1), by decide +kernel, by intros; exact State.eccRead_clean (by decide +kernel) _ _, by decide +kernel⟩,
   ⟨0#32, r, by decide +kernel, by intros; exact State.eccRead_clean (by decide +kernel) _ _, by decide +kernel⟩,
   ⟨1#32, (r), by decide +kernel, by intros; exact State.eccRead_clean (by decide +kernel) _ _, by decide +kernel⟩,
   ⟨0#32, 1#32, (stg 0 false ok1), 0, by decide +kernel, by intros; exact State.eccRead_clean (by decide +kernel) _ _, by decide +kernel⟩,
   ⟨402653440#32, 0#32, 4#32, (dt (dirtyF (stg 5 true ok1))), 5, [0xf0#8, 0x02#8, 0xff#8, 0x80#8], by decide +kernel, by intros; exact State.eccRead_clean (by decide +kernel) _ _, by decide +kernel⟩,
   ⟨(r), by decide +kernel, by intros; exact State.eccRead_clean (by decide +kernel) _ _, by decide +kernel⟩,
   ⟨(dt (stg 100000 true ok1)), by decide +kernel, by intros; exact State.eccRead_clean (by decide +kernel) _ _, by decide +kernel⟩,
   ⟨(r), (Option.get (((r) : State).updCondition false) (by decide +kernel)), by decide +kernel, by intros; exact State.eccRead_clean (by decide +kernel) _ _, by decide +kernel⟩,
   ⟨(dirtyF ok1), by decide +kernel, by intros; exact State.eccRead_clean (by decide +kernel) _ _, by decide +kernel⟩,
   ⟨(dt (stg 100000 true ok1)), by decide +kernel, by intros; exact State.eccRead_clean (by decide +kernel) _ _, by decide +kernel⟩,
   ⟨(r), by decide +kernel, by intros; exact State.eccRead_clean (by decide +kernel) _ _, by decide +kernel⟩,
   ⟨(sm 0 [1,2] ok1), by decide +kernel, by intros; exact State.eccRead_clean (by decide +kernel) _ _, by decide +kernel⟩,
   ⟨(r), by decide +kernel, by intros; exact State.eccRead_clean (by decide +kernel) _ _, by decide +kernel⟩,
   ⟨(sm 0 [4] ok1), by decide +kernel, by intros; exact State.eccRead_clean (by decide +kernel) _ _, by decide +kernel⟩,
   ⟨(r), by decide +kernel, by intros; exact State.eccRead_clean (by decide +kernel) _ _, by decide +kernel⟩,
   ⟨(eth false false r), by decide +kernel⟩,
   ⟨(r), by decide +kernel⟩,
   ⟨1#16, (bn (fun b => { b with ethTag := some 1 }) (eth false false r)), by decide +kernel⟩,
   ⟨0#16, (eth true false r), by decide +kernel⟩,
   ⟨0#16, ([0x43#8, 0x52#8, 0x54#8, 0x31#8, 0x02#8, 0x00#8, 0x00#8, 0x00#8, 0x04#8] ++ List.replicate 195 0x00#8), (eth true false r), by decide +kernel⟩,
   ⟨0#16, ([0x43#8, 0x52#8, 0x54#8, 0x31#8, 0x03#8, 0x00#8, 0x00#8, 0x00#8, 0x04#8] ++ List.replicate 195 0x00#8), (chv (eth true false (lcs 1 (r)))), by decide +kernel⟩,
   ⟨0#16, 402653440#32, (eth false false r), by decide +kernel⟩,
   ⟨0#16, 0#32, (eth false false r), by decide +kernel⟩,
   ⟨0#16, 1#32, (eth false false r), by decide +kernel⟩,
   ⟨0#16, 0#32, [0xf0#8, 0x02#8, 0xff#8, 0x80#8], (eth false false r), by decide +kernel⟩,
   ⟨0#16, 0#32, [0xf0#8, 0x02#8, 0xff#8, 0x80#8], (el 2000 1 (eth false false (dirtyF (run0 r)))), by decide +kernel⟩,
   ⟨0#16, (el 2000 1 (eth false false (dirtyF (run0 r)))), by decide +kernel⟩,
   ⟨r, 7, by decide +kernel, by intros; exact State.eccRead_clean (by decide +kernel) _ _, by decide +kernel⟩,
   ⟨{ r with boot := { r.boot with porst := true } }, by decide +kernel⟩⟩

end Sys2Proof.Tests.UpdateW

namespace Sys2Proof.Tests.TimerW
def r : State := { State.reset with clk := { now := 1000, cyc := 1000, tBase := 5000 } }
def tm (i cnt per cmp ctl : Nat) (s : State) : State := ((((s.put (TMR_CNT_CNT i) cnt).put (TMR_PER_PER i) per).put (TMR_CMP_CMP i) cmp).putBit (TMR_STAT_RUN i) true |>.put (TMR_CTRL_EVEN i) 3).putBit (TMR_CTRL_EN i) true |> fun s => s.put (TMR_CTRL_SMODE i) ctl
def hb (l : List Nat) (s : State) : State := { (s.putBit HKA_STAT_BUSY true) with hka := { s.hka with scan := l } }
def capw : State := ((tm 3 9 99 2 0 r).putBit (TMR_STAT_CAPF 3) true).put (TMR_CAP_CAP 3) 77
def cws (now : Nat) (w : Option (BitVec 32)) (a : Option (BitVec 64)) : State := { (capw.modTmr 3 fun m => { m with capWait := w, capAt := a, capOld := 5 }) with clk := { now := now, cyc := now, tBase := 5000 } }
theorem witness_TimersConverterPins :
    (∃ (i : Fin 24) (s : State), s.get (TMR_CTRL_SMODE ↑i) ≠ 1 ∧ s.tmrCounts ↑i = true ∧ (s.tmr ↑i).short = false ∧ s.get (TMR_CNT_CNT ↑i) ≠ s.tmrPer ↑i ∧ s.get (TMR_CNT_CNT ↑i) + 1 < 2 ^ 32 ∧ s.get (TMR_CNT_CNT ↑i) + 1 ≠ s.tmrCmp ↑i)
    ∧ (∃ (i : Fin 24) (s : State), s.get (TMR_CTRL_SMODE ↑i) ≠ 1 ∧ s.tmrCounts ↑i = true ∧ s.get (TMR_CNT_CNT ↑i) = s.tmrPer ↑i ∧ s.tmrCmp ↑i ≠ 0 ∧ s.bit (TMR_CTRL_ONESHOT ↑i) = false)
    ∧ (∃ (i : Fin 24) (s : State), (s.get (TMR_CTRL_SMODE ↑i) = 1 ∨ s.tmrCounts ↑i = false))
    ∧ (∃ (i : Fin 24) (s : State), s.bit (TMR_STAT_CAPF ↑i) = false)
    ∧ (∃ (i : Fin 24) (s : State), s.bit (TMR_STAT_CAPF ↑i) = true)
    ∧ (∃ (i : Fin 24) (s : State), (s.tmr ↑i).capWait.isSome = true ∧ s.tickEnds = true)
    ∧ (∃ (who : Who) (i : Fin 24) (s : State), s.admitsRead who (TMR_CAP ↑i) ∧ (s.tmr ↑i).capAt = some s.T ∧ s.bit (TMR_STAT_CAPF ↑i) = true)
    ∧ (∃ (who : Who) (i : Fin 24) (s : State), s.admitsRead who (TMR_CAP ↑i) ∧ ((s.tmr ↑i).capAt ≠ some s.T ∨ s.bit (TMR_STAT_CAPF ↑i) = false) ∧ (s.tmr ↑i).capWait = none)
    ∧ (∃ (who : Who) (i : Fin 24) (s : State) (n : BitVec 32), s.admitsRead who (TMR_CAP ↑i) ∧ ((s.tmr ↑i).capAt ≠ some s.T ∨ s.bit (TMR_STAT_CAPF ↑i) = false) ∧ (s.tmr ↑i).capWait = some n)
    ∧ (∃ (who : Who) (i : Fin 24) (v : Word) (s : State) (u : State) (x : State), x = u.tmrTake ↑i ∧ s.admits who (TMR_PER ↑i) v u ∧ v = 0)
    ∧ (∃ (who : Who) (i : Fin 24) (v : Word) (s : State) (u : State) (x : State), x = u.tmrTake ↑i ∧ s.admits who (TMR_PER ↑i) v u ∧ v ≠ 0)
    ∧ (∃ (who : Who) (i : Fin 24) (v : Word) (s : State) (u : State) (x : State), x = u.tmrTake ↑i ∧ s.admits who (TMR_CMP ↑i) v u)
    ∧ (∃ (i : Fin 24) (s : State) (τ : BitVec 64), (s.tmr ↑i).perAt = some τ ∧ τ ≠ s.T)
    ∧ (∃ (i : Fin 24) (s : State) (c : BitVec 32) (τ : BitVec 64), (s.tmr ↑i).cmp = some (c, τ) ∧ τ ≠ s.T ∧ s.get (TMR_CMP_CMP ↑i) ≤ s.get (TMR_CNT_CNT ↑i))
    ∧ (∃ (s : State), s.bit HKA_STAT_BUSY = true)
    ∧ (∃ (s : State), s.bit HKA_STAT_BUSY = false ∧ s.bit HKA_CTRL_EN = true ∧ s.get HKA_MASK_MASK ≠ 0)
    ∧ (∃ (i : Fin 16) (rest : List Nat) (s : State), s.hka.scan = ↑i :: rest)
    ∧ (∃ (who : Who) (i : Fin 16) (s : State), s.admitsRead who (HKA_RES ↑i))
    ∧ (∃ (who : Who) (v : Word) (s : State) (u : State), s.admits who GPIO_SET v u)
    ∧ (∃ (who : Who) (v : Word) (s : State) (u : State), s.admits who GPIO_CLR v u)
    ∧ (∃ (i : Fin 24) (level : Bool) (s : State), (s.get GPIO_IN_IN).testBit ↑i = level)
    ∧ (∃ (i : Fin 24) (s : State), s.get (GPIO_CFG_FILT ↑i) = 0)
    ∧ (∃ (i : Fin 24) (s : State), s.get (GPIO_CFG_FILT ↑i) ≠ 0)
    ∧ (∃ (i : Fin 24) (level : Bool) (s : State), (s.get GPIO_IN_IN).testBit ↑i ≠ level) :=
  ⟨⟨3, (tm 3 5 9 7 0 (tm 0 9 9 3 0 r)), by decide +kernel⟩,
   ⟨0, (tm 3 5 9 7 0 (tm 0 9 9 3 0 r)), by decide +kernel⟩,
   ⟨0, (r), by decide +kernel⟩,
   ⟨0, (r), by decide +kernel⟩,
   ⟨3, (((tm 3 9 99 2 0 r).putBit (TMR_STAT_CAPF 3) true).put (TMR_STAT_LOST 3) 255 |>.put (TMR_CAP_CAP 3) 77), by decide +kernel⟩,
   ⟨3, (cws 1003 (some 7) none), by decide +kernel⟩,
   ⟨(Who.sup true), 3, (cws 1000 none (some 5800)), State.admitsRead_of (by decide +kernel), by decide +kernel⟩,
   ⟨(Who.sup true), 0, (r), State.admitsRead_of (by decide +kernel), by decide +kernel⟩,
   ⟨(Who.sup true), 3, (cws 1000 (some 7) none), (Option.get ((((cws 1000 (some 7) none) : State).tmr ↑(3 : Fin 24)).capWait) (by decide +kernel)), State.admitsRead_of (by decide +kernel), by decide +kernel⟩,
   ⟨(Who.sup true), 0, 0#32, (r), (((r) : State).admitted ((Who.sup true) : Who) (TMR_PER ↑(0 : Fin 24)) (0#32 : Word)), _, rfl, State.admits_admitted (by decide +kernel), by decide +kernel⟩,
   ⟨(Who.sup true), 0, 5#32, (r), (((r) : State).admitted ((Who.sup true) : Who) (TMR_PER ↑(0 : Fin 24)) (5#32 : Word)), _, rfl, State.admits_admitted (by decide +kernel), by decide +kernel⟩,
   ⟨(Who.sup true), 0, 0#32, (r), (((r) : State).admitted ((Who.sup true) : Who) (TMR_CMP ↑(0 : Fin 24)) (0#32 : Word)), _, rfl, State.admits_admitted (by decide +kernel)⟩,
   ⟨3, ((tm 3 9 9 7 0 r).modTmr 3 fun m => { m with perAt := some 15, cmp := some (9, 15) }), (Option.get (((((tm 3 9 9 7 0 r).modTmr 3 fun m => { m with perAt := some 15, cmp := some (9, 15) }) : State).tmr ↑(3 : Fin 24)).perAt) (by decide +kernel)), by decide +kernel⟩,
   ⟨3, ((tm 3 9 9 7 0 r).modTmr 3 fun m => { m with perAt := some 15, cmp := some (9, 15) }), (Option.get (((((tm 3 9 9 7 0 r).modTmr 3 fun m => { m with perAt := some 15, cmp := some (9, 15) }) : State).tmr ↑(3 : Fin 24)).cmp) (by decide +kernel)).1, (Option.get (((((tm 3 9 9 7 0 r).modTmr 3 fun m => { m with perAt := some 15, cmp := some (9, 15) }) : State).tmr ↑(3 : Fin 24)).cmp) (by decide +kernel)).2, by decide +kernel⟩,
   ⟨((hb [3,15] r).put HKA_STAT_MISSED 65535), by decide +kernel⟩,
   ⟨((r.putBit HKA_CTRL_EN true).put HKA_MASK_MASK 0x8009), by decide +kernel⟩,
   ⟨0, [], (hb [0] (r.put HKA_CTRL_AVG_LOG2 1)), by decide +kernel⟩,
   ⟨(Who.sup true), 0, (r), State.admitsRead_of (by decide +kernel)⟩,
   ⟨(Who.sup true), 0#32, (r), (((r) : State).admitted ((Who.sup true) : Who) GPIO_SET (0#32 : Word)), State.admits_admitted (by decide +kernel)⟩,
   ⟨(Who.sup true), 0#32, (r), (((r) : State).admitted ((Who.sup true) : Who) GPIO_CLR (0#32 : Word)), State.admits_admitted (by decide +kernel)⟩,
   ⟨0, (false), (r), by decide +kernel⟩,
   ⟨0, (r), by decide +kernel⟩,
   ⟨3, ({ (r.put (GPIO_CFG_FILT 3) 1).put (GPIO_CFG_FILT 23) 2 with gpioBall := 0x8, gpioFf1 := 0x800008, gpioFf2 := 0x800008, gpioRun := [(3, 199), (23, 50)] }), by decide +kernel⟩,
   ⟨0, (true), (r), by decide +kernel⟩⟩

end Sys2Proof.Tests.TimerW

namespace Sys2Proof.Tests.EthW

def r : State := { State.reset with clk := { now := 1000, cyc := 1000, tBase := 5000 } }
def ds (a : Nat) (w len b : Nat) (s : State) : State := (s.dtcmPut a (bytesLE (w * 2^31 + len) 4)).dtcmPut (a+4) (bytesLE b 4)
def eth (s : State) : State := ((s.setWord ETH_TXRING 0x18000102).setWord ETH_RXRING 0x18000203).putBit ETH_CTRL_EN_TX true |>.putBit ETH_CTRL_EN_RX true |>.putBit ETH_CTRL_PROMISC true
def fr (n : Nat) : List Byte := (List.range n).map fun i => BitVec.ofNat 8 (i * 3 + 0x10)
def pay (a n : Nat) (s : State) : State := s.dtcmPut a (fr n)
def snd (b : Bool) (s : State) : State := { (s.putBit ETH_CTRL_EN_TX b) with eth := { s.eth with sending := true, txIdx := 2, sfd := 99 } }

theorem witness_EthernetAndFlashController :
    (∃ (who : Who) (v : Word) (s : State) (u : State), s.admits who ETH_TXKICK v u ∧ u.bit ETH_CTRL_EN_TX = true ∧ u.eth.sending = false ∧ (∀ (w : Nat), u.eccRead 75 w = EccRead.clean) ∧ u.descOwned (u.descAddr ETH_TXRING u.eth.txIdx) = false)
    ∧ (∃ (s : State), s.eth.sending = true ∧ s.bit ETH_CTRL_EN_TX = false)
    ∧ (∃ (bytes : List Byte) (s : State), s.bit ETH_CTRL_EN_RX = true ∧ s.ethAccepts bytes = true ∧ 64 ≤ bytes.length ∧ (∀ (w : Nat), s.eccRead 75 w = EccRead.clean) ∧ (1522 < bytes.length ∨ s.descOwned (s.descAddr ETH_RXRING s.eth.rxIdx) = false))
    ∧ (∃ (bytes : List Byte) (s : State), s.bit ETH_CTRL_EN_RX = true ∧ s.ethAccepts bytes = true ∧ 64 ≤ bytes.length ∧ (∀ (w : Nat), s.eccRead 75 w = EccRead.clean) ∧ bytes.length ≤ 1522 ∧ s.descOwned (s.descAddr ETH_RXRING s.eth.rxIdx) = true ∧ s.bit (FCU_INJ_ARM 75) = false ∧ 402653184 ≤ s.dtcmNat (s.descAddr ETH_RXRING s.eth.rxIdx + 4) 4 ∧ s.dtcmNat (s.descAddr ETH_RXRING s.eth.rxIdx + 4) 4 + bytes.length ≤ 402915328 ∧ (s.dtcmNat (s.descAddr ETH_RXRING s.eth.rxIdx + 4) 4 + bytes.length ≤ s.descAddr ETH_RXRING s.eth.rxIdx ∨ s.descAddr ETH_RXRING s.eth.rxIdx + 16 ≤ s.dtcmNat (s.descAddr ETH_RXRING s.eth.rxIdx + 4) 4))
    ∧ (∃ (bytes : List Byte) (s : State), (s.bit ETH_CTRL_EN_RX = false ∨ s.ethAccepts bytes = false ∨ bytes.length < 64))
    ∧ (∃ (who : Who) (v : Word) (s : State) (u : State), s.admits who ETH_MDIO (withBit v 31) u ∧ legalAt ETH_MDIO (withBit v 31) = true ∧ u.bit ETH_MDIO_GO = false)
    ∧ (∃ (who : Who) (v : Word) (s : State) (u : State), s.admits who ETH_MDIO (withBit v 31) u ∧ legalAt ETH_MDIO (withBit v 31) = true ∧ u.bit ETH_MDIO_GO = true)
    ∧ (∃ (s : State), s.bit ETH_MDIO_GO = true ∧ s.boot.phyAt = none)
    ∧ (∃ (s : State) (n : Nat), s.bit ETH_MDIO_GO = true ∧ s.bit ETH_MDIO_WRITE = false ∧ s.get ETH_MDIO_REG ≠ 1 ∧ s.boot.phyAt = some n ∧ n < 32)
    ∧ (∃ (who : Who) (v : Word) (s : State) (u : State), s.admits who XSP_ICMD (withBit v 31) u ∧ legalAt XSP_ICMD (withBit v 31) = true ∧ u.bit XSP_STAT_BUSY = false ∧ u.bit XSP_STAT_PF_OWN = false ∧ u.get XSP_ILEN_LEN ≤ 256 ∧ u.bit (FCU_INJ_ARM 70) = false)
    ∧ (∃ (s : State), s.xsp.icmd = none)
    ∧ (∃ (who : Who) (v : Word) (s : State) (u : State), s.admits who XSP_CTRL (withBit v 2) u ∧ legalAt XSP_CTRL (withBit v 2) = true) :=
  ⟨⟨(Who.sup true), 0#32, (ds 0x18000100 0 5 0x18000400 (eth r)), (((ds 0x18000100 0 5 0x18000400 (eth r)) : State).admitted ((Who.sup true) : Who) ETH_TXKICK (0#32 : Word)), State.admits_admitted (by decide +kernel), by decide +kernel, by decide +kernel, by intros; exact State.eccRead_clean (by decide +kernel) _ _, by decide +kernel⟩,
   ⟨(snd false (ds 0x18000120 1 20 0x18000400 (eth r))), by decide +kernel⟩,
   ⟨fr 64, (pay 0x18000400 70 (ds 0x18000100 1 20 0x18000400 (eth r))), by decide +kernel, by decide +kernel, by decide +kernel, by intros; exact State.eccRead_clean (by decide +kernel) _ _, by decide +kernel⟩,
   ⟨fr 64, (ds 0x18000200 1 0 0x18000401 (eth r)), by decide +kernel, by decide +kernel, by decide +kernel, by intros; exact State.eccRead_clean (by decide +kernel) _ _, by decide +kernel⟩,
   ⟨fr 64, (r), by decide +kernel⟩,
   ⟨(Who.sup true), 0#32, (r), (((r) : State).admitted ((Who.sup true) : Who) ETH_MDIO (withBit (0#32 : Word) 31)), State.admits_admitted (by decide +kernel), by decide +kernel⟩,
   ⟨(Who.sup true), 0#32, ((r.putBit ETH_MDIO_GO true).put ETH_MDIO_REG 1), ((((r.putBit ETH_MDIO_GO true).put ETH_MDIO_REG 1) : State).admitted ((Who.sup true) : Who) ETH_MDIO (withBit (0#32 : Word) 31)), State.admits_admitted (by decide +kernel), by decide +kernel⟩,
   ⟨((r.putBit ETH_MDIO_GO true).put ETH_MDIO_REG 1), by decide +kernel⟩,
   ⟨{ (r.putBit ETH_MDIO_GO true).put ETH_MDIO_REG 2 with boot := { r.boot with phyAt := some 31 } }, 31, by decide +kernel⟩,
   ⟨(Who.sup true), 0#32, (r), (((r) : State).admitted ((Who.sup true) : Who) XSP_ICMD (withBit (0#32 : Word) 31)), State.admits_admitted (by decide +kernel), by decide +kernel⟩,
   ⟨(r), by decide +kernel⟩,
   ⟨(Who.sup true), 0#32, (r), (((r) : State).admitted ((Who.sup true) : Who) XSP_CTRL (withBit (0#32 : Word) 2)), State.admits_admitted (by decide +kernel), by decide +kernel⟩⟩

end Sys2Proof.Tests.EthW

namespace Sys2Proof.Tests.FlashW
def r : State := { State.reset with clk := { now := 1000, cyc := 1000, tBase := 5000 } }
def fr (n : Nat) : List Byte := (List.range n).map fun i => BitVec.ofNat 8 (i * 3 + 0x10)
def xw (s : State) : State := { (s.putBit XSP_CTRL_WIN_EN true).putBit XSP_CTRL_RST false with flash := writeBytes erasedByte [] 64 (fr 40) }
def buf (s : State) : State := { s with xsp := { s.xsp with buf := some (4, fr 16) } }
def ic (w : Word) (n : Nat) (s : State) : State := { (s.putBit XSP_STAT_BUSY true) with xsp := { s.xsp with icmd := some (w, n), buf := some (4, []) } }
theorem witness_EthernetAndFlashController :
    (∃ (who : Who) (o : Nat) (s : State), o < 2 ^ 28 ∧ o % 4 = 0 ∧ s.admitsRead who (536870912 + o) ∧ s.bit (FCU_INJ_ARM 70) = false ∧ s.bit XSP_CTRL_WIN_EN = true ∧ s.bit XSP_STAT_PF_OWN = false ∧ s.bit XSP_CTRL_RST = false ∧ s.xsp.buf = none ∧ s.xsp.dqs = false ∧ s.xspFree = true ∧ s.flashOpen = false)
    ∧ (∃ (who : Who) (o : Nat) (s : State), o < 2 ^ 28 ∧ o % 4 = 0 ∧ s.admitsRead who (536870912 + o) ∧ s.bit (FCU_INJ_ARM 70) = false ∧ s.bit XSP_CTRL_WIN_EN = true ∧ s.bit XSP_STAT_PF_OWN = false ∧ s.xsp.buf = none ∧ s.xspFree = false)
    ∧ (∃ (who : Who) (o : Nat) (s : State) (bs : List Byte), o < 2 ^ 28 ∧ o % 4 = 0 ∧ s.admitsRead who (536870912 + o) ∧ s.bit (FCU_INJ_ARM 70) = false ∧ s.bit XSP_CTRL_WIN_EN = true ∧ s.bit XSP_STAT_PF_OWN = false ∧ s.xsp.buf = some (o / 16, bs))
    ∧ (∃ (who : Who) (o : Nat) (s : State), o < 2 ^ 28 ∧ o % 4 = 0 ∧ s.admitsRead who (536870912 + o) ∧ s.bit (FCU_INJ_ARM 70) = false ∧ s.bit XSP_CTRL_WIN_EN = false)
    ∧ (∃ (who : Who) (v : Word) (s : State) (u : State), s.admits who XSP_ICMD (withBit v 31) u ∧ legalAt XSP_ICMD (withBit v 31) = true ∧ u.bit XSP_STAT_BUSY = false ∧ u.bit XSP_STAT_PF_OWN = false ∧ 256 < u.get XSP_ILEN_LEN)
    ∧ (∃ (who : Who) (v : Word) (s : State) (u : State), s.admits who XSP_ICMD (withBit v 31) u ∧ u.bit XSP_STAT_BUSY = true ∧ u.xsp.late = none)
    ∧ (∃ (s : State), s.xsp.icmd.isSome = true ∧ s.ldg.burst.isSome = true)
    ∧ (∃ (s : State) (w : Word) (n : Nat), s.xsp.icmd = some (w, n) ∧ n ≤ 256 ∧ s.ldg.burst = none ∧ tb w 29 = false ∧ s.xsp.ddr = true ∧ n ≠ 0) :=
  ⟨⟨(Who.sup true), 0, (xw r), by decide +kernel, by decide +kernel, State.admitsRead_of (by decide +kernel), by decide +kernel⟩,
   ⟨(Who.sup true), 0, ({ xw r with ldg := { r.ldg with burst := some .last } }), by decide +kernel, by decide +kernel, State.admitsRead_of (by decide +kernel), by decide +kernel⟩,
   ⟨(Who.sup true), 64, (buf (xw r)), ([0x10#8, 0x13#8, 0x16#8, 0x19#8, 0x1c#8, 0x1f#8, 0x22#8, 0x25#8, 0x28#8, 0x2b#8, 0x2e#8, 0x31#8, 0x34#8, 0x37#8, 0x3a#8, 0x3d#8]), by decide +kernel, by decide +kernel, State.admitsRead_of (by decide +kernel), by decide +kernel⟩,
   ⟨(Who.sup true), 0, ((xw r).putBit XSP_CTRL_WIN_EN false), by decide +kernel, by decide +kernel, State.admitsRead_of (by decide +kernel), by decide +kernel⟩,
   ⟨(Who.sup true), 0#32, (r.put XSP_ILEN_LEN 257), (((r.put XSP_ILEN_LEN 257) : State).admitted ((Who.sup true) : Who) XSP_ICMD (withBit (0#32 : Word) 31)), State.admits_admitted (by decide +kernel), by decide +kernel⟩,
   ⟨(Who.sup true), 0#32, (ic 0x8000000B 10 r), (((ic 0x8000000B 10 r) : State).admitted ((Who.sup true) : Who) XSP_ICMD (withBit (0#32 : Word) 31)), State.admits_admitted (by decide +kernel), by decide +kernel⟩,
   ⟨({ (ic 0x8000000B 10 r) with ldg := { r.ldg with burst := some .last } }), by decide +kernel⟩,
   ⟨({ (ic 0x8000000B 10 r) with xsp := { (ic 0x8000000B 10 r).xsp with ddr := true } }), (Option.get ((({ (ic 0x8000000B 10 r) with xsp := { (ic 0x8000000B 10 r).xsp with ddr := true } }) : State).xsp.icmd) (by decide +kernel)).1, (Option.get ((({ (ic 0x8000000B 10 r) with xsp := { (ic 0x8000000B 10 r).xsp with ddr := true } }) : State).xsp.icmd) (by decide +kernel)).2, by decide +kernel⟩⟩

end Sys2Proof.Tests.FlashW

namespace Sys2Proof.Tests.KickW

def r : State := { State.reset with clk := { now := 1000, cyc := 1000, tBase := 5000 } }
def ds (a : Nat) (w len b : Nat) (s : State) : State := (s.dtcmPut a (bytesLE (w * 2^31 + len) 4)).dtcmPut (a+4) (bytesLE b 4)
def eth (s : State) : State := ((s.setWord ETH_TXRING 0x18000102).setWord ETH_RXRING 0x18000203).putBit ETH_CTRL_EN_TX true |>.putBit ETH_CTRL_EN_RX true |>.putBit ETH_CTRL_PROMISC true
def fr (n : Nat) : List Byte := (List.range n).map fun i => BitVec.ofNat 8 (i * 3 + 0x10)
def pay (a n : Nat) (s : State) : State := s.dtcmPut a (fr n)
def lt (s : State) : State := { s.putBit XSP_STAT_BUSY true with xsp := { s.xsp with late := some 0x8000000B } }

theorem witness_EthernetAndFlashController :
    (∃ (who : Who) (v : Word) (s : State) (u : State) (bs : List Byte), s.admits who ETH_TXKICK v u ∧ u.bit ETH_CTRL_EN_TX = true ∧ u.eth.sending = false ∧ (∀ (w : Nat), u.eccRead 75 w = EccRead.clean) ∧ u.descOwned (u.descAddr ETH_TXRING u.eth.txIdx) = true ∧ 1 ≤ u.dtcmNat (u.descAddr ETH_TXRING u.eth.txIdx) 4 % 2048 ∧ u.dtcmNat (u.descAddr ETH_TXRING u.eth.txIdx) 4 % 2048 ≤ 1518 ∧ u.dtcmBytes (u.dtcmNat (u.descAddr ETH_TXRING u.eth.txIdx + 4) 4) (u.dtcmNat (u.descAddr ETH_TXRING u.eth.txIdx) 4 % 2048) = some bs)
    ∧ (∃ (v : Word) (s : State), s.xsp.late = some v ∧ s.bit XSP_STAT_BUSY = true) :=
  ⟨⟨(Who.sup true), 0#32, (pay 0x18000400 70 (ds 0x18000100 1 20 0x18000400 (eth r))), (((pay 0x18000400 70 (ds 0x18000100 1 20 0x18000400 (eth r))) : State).admitted ((Who.sup true) : Who) ETH_TXKICK (0#32 : Word)), fr 20, State.admits_admitted (by decide +kernel), by decide +kernel, by decide +kernel, by intros; exact State.eccRead_clean (by decide +kernel) _ _, by decide +kernel⟩,
   ⟨2147483659#32, (lt r), by decide +kernel⟩⟩

end Sys2Proof.Tests.KickW

namespace Sys2Proof.Tests.TwoWireW

def r : State := { State.reset with clk := { now := 1000, cyc := 1000, tBase := 5000 } }
def cf (en tmo rt : Nat) (s : State) : State := [0,7].foldl (fun s p => (((s.put (TWB_CFG_EN p) en).put (TWB_CFG_TMO_MS p) tmo).put (TWB_CFG_RETRY p) rt)) s
def ln (w rd pl poll : Nat) (s : State) : State := [0,7].foldl (fun s p => ((((s.put (TWB_LEN_WLEN p) w).put (TWB_LEN_RLEN p) rd).put (TWB_PAGE_PAGE_LOG2 p) pl).put (TWB_PAGE_POLL_N p) poll)) s
def en := cf 1 5 2
def st (b : Bool) (sc sd : Bool) (s : State) : State := [0,7].foldl (fun s p => (((s.putBit (TWB_STAT_BUSY p) b).putBit (TWB_STAT_SCL p) sc).putBit (TWB_STAT_SDA p) sd)) s
def cm (w : Word) (tr : Nat) (pr : Option Nat) (seg : Nat) (s : State) : State := [0,7].foldl (fun s p => (s.putBit (TWB_STAT_BUSY p) true).modTwb p fun _ => { cmd := some w, tries := tr, probes := pr, seg := seg }) s
def old (s : State) : State := { s with clk := { s.clk with now := 1000000000 } }
def stk (s : State) : State := [0,7].foldl (fun s p => s.modTwb p fun x => { x with look := some 900, sda := { level := false, ff1 := false, ff2 := false, out := false } }) s
def lns (n : Nat) (s : State) : State := { ([0,7].foldl (fun (s : State) p => s.modTwb p fun x => { x with scl := { level := false, ff1 := false, ff2 := false, out := false, at_ := 50 } }) s) with clk := { s.clk with now := n } }
def cle (s : State) : State := [0,7].foldl (fun s p => s.modTwb p fun x => { x with ends := true, clocks := 9 }) s
def lat (s : State) : State := [0,7].foldl (fun s p => s.modTwb p fun x => { x with late := some 0x81005500 }) s
def wai (s : State) : State := [0,7].foldl (fun s p => s.modTwb p fun x => { x with wait := true }) s

theorem witness_TwoWireCommands :
    (∃ (who : Who) (p : Fin 8) (v : Word) (s : State) (u : State), s.admits who (TWB_CMD ↑p) (setBits (withBit v 31) 27 24 0) u ∧ legalAt (TWB_CMD ↑p) (setBits (withBit v 31) 27 24 0) = true ∧ u.bit (TWB_STAT_BUSY ↑p) = false ∧ u.twbStuck ↑p = false ∧ u.bit (TWB_CFG_EN ↑p) = false)
    ∧ (∃ (who : Who) (p : Fin 8) (v : Word) (s : State) (u : State), s.admits who (TWB_CMD ↑p) (setBits (withBit v 31) 27 24 0) u ∧ legalAt (TWB_CMD ↑p) (setBits (withBit v 31) 27 24 0) = true ∧ u.bit (TWB_STAT_BUSY ↑p) = false ∧ u.twbStuck ↑p = true)
    ∧ (∃ (who : Who) (p : Fin 8) (v : Word) (s : State) (u : State) (n : Nat), s.admits who (TWB_CMD ↑p) (setBits (withBit v 31) 27 24 0) u ∧ legalAt (TWB_CMD ↑p) (setBits (withBit v 31) 27 24 0) = true ∧ u.bit (TWB_STAT_BUSY ↑p) = false ∧ u.twbStuck ↑p = false ∧ u.bit (TWB_CFG_EN ↑p) = true ∧ (u.apply (TWB_CMD ↑p) (setBits (withBit v 31) 27 24 0)).twbLength (↑p) ((u.apply (TWB_CMD ↑p) (setBits (withBit v 31) 27 24 0)).word (TWB_CMD ↑p)) = some n)
    ∧ (∃ (who : Who) (p : Fin 8) (v : Word) (s : State) (u : State), s.admits who (TWB_CMD ↑p) (setBits (withBit v 31) 27 24 0) u ∧ legalAt (TWB_CMD ↑p) (setBits (withBit v 31) 27 24 0) = true ∧ u.bit (TWB_STAT_BUSY ↑p) = false ∧ u.twbStuck ↑p = false ∧ u.bit (TWB_CFG_EN ↑p) = true ∧ (u.apply (TWB_CMD ↑p) (setBits (withBit v 31) 27 24 0)).twbLength (↑p) ((u.apply (TWB_CMD ↑p) (setBits (withBit v 31) 27 24 0)).word (TWB_CMD ↑p)) = none ∧ (0 = 1 → u.get (TWB_LEN_RLEN ↑p) ≠ 0) ∧ ((u.apply (TWB_CMD ↑p) (setBits (withBit v 31) 27 24 0)).twbType (↑p) ((u.apply (TWB_CMD ↑p) (setBits (withBit v 31) 27 24 0)).word (TWB_CMD ↑p)) = 0 → cmdPLEN ((u.apply (TWB_CMD ↑p) (setBits (withBit v 31) 27 24 0)).word (TWB_CMD ↑p)) ≠ 0 ∨ u.get (TWB_LEN_WLEN ↑p) ≠ 0) ∧ (0 = 8 → u.get (TWB_CFG_TMO_MS ↑p) ≠ 0 ∨ u.scl ↑p = true))
    ∧ (∃ (who : Who) (p : Fin 8) (v : Word) (s : State) (u : State), s.admits who (TWB_CMD ↑p) (setBits (withBit v 31) 27 24 0) u ∧ legalAt (TWB_CMD ↑p) (setBits (withBit v 31) 27 24 0) = true ∧ u.bit (TWB_STAT_BUSY ↑p) = false ∧ u.twbStuck ↑p = false ∧ u.bit (TWB_CFG_EN ↑p) = true ∧ (u.apply (TWB_CMD ↑p) (setBits (withBit v 31) 27 24 0)).twbLength (↑p) ((u.apply (TWB_CMD ↑p) (setBits (withBit v 31) 27 24 0)).word (TWB_CMD ↑p)) = none ∧ (0 = 1 ∧ u.get (TWB_LEN_RLEN ↑p) = 0 ∨ (u.apply (TWB_CMD ↑p) (setBits (withBit v 31) 27 24 0)).twbType (↑p) ((u.apply (TWB_CMD ↑p) (setBits (withBit v 31) 27 24 0)).word (TWB_CMD ↑p)) = 0 ∧ cmdPLEN ((u.apply (TWB_CMD ↑p) (setBits (withBit v 31) 27 24 0)).word (TWB_CMD ↑p)) = 0 ∧ u.get (TWB_LEN_WLEN ↑p) = 0))
    ∧ (∃ (who : Who) (p : Fin 8) (v : Word) (s : State) (u : State), s.admits who (TWB_CMD ↑p) (setBits (withBit v 31) 27 24 0) u ∧ legalAt (TWB_CMD ↑p) (setBits (withBit v 31) 27 24 0) = true ∧ u.bit (TWB_STAT_BUSY ↑p) = true ∧ (u.twb ↑p).late = none)
    ∧ (∃ (who : Who) (p : Fin 8) (v : Word) (s : State) (u : State), s.admits who (TWB_CMD ↑p) (setBits (withBit v 31) 27 24 0) u ∧ legalAt (TWB_CMD ↑p) (setBits (withBit v 31) 27 24 0) = true ∧ u.bit (TWB_STAT_BUSY ↑p) = true ∧ (u.twb ↑p).late.isSome = true)
    ∧ (∃ (p : Fin 8) (s : State) (w : BitVec 32), (s.twb ↑p).late = some w ∧ s.clk.now % 5 = 0 ∧ s.bit (TWB_STAT_BUSY ↑p) = true)
    ∧ (∃ (who : Who) (p : Fin 8) (v : Word) (s : State) (u : State) (w : Word), w = withBit v 0 ∧ s.admits who (TWB_CFG ↑p) w u ∧ legalAt (TWB_CFG ↑p) w = true ∧ u.bit (TWB_STAT_BUSY ↑p) = false ∧ tb w 2 = false ∧ u.bit (TWB_CFG_EN ↑p) = false)
    ∧ (∃ (p : Fin 8) (s : State) (n : Nat), (s.twb ↑p).look = some n ∧ n ≤ s.clk.now ∧ s.bit (TWB_STAT_BUSY ↑p) = false ∧ s.twbStuck ↑p = true)
    ∧ (∃ (p : Fin 8) (s : State) (n : Nat), (s.twb ↑p).look = some n ∧ n ≤ s.clk.now ∧ s.bit (TWB_STAT_BUSY ↑p) = false ∧ s.twbStuck ↑p = false)
    ∧ (∃ (who : Who) (p : Fin 8) (v : Word) (s : State) (u : State) (w : Word), w = withBit v 2 ∧ s.admits who (TWB_CFG ↑p) w u ∧ legalAt (TWB_CFG ↑p) w = true ∧ u.bit (TWB_STAT_BUSY ↑p) = false)
    ∧ (∃ (p : Fin 8) (s : State) (r : TwbResult), (s.twb ↑p).cmd = none ∧ (∀ (a b : Bool), r ≠ TwbResult.lines a b))
    ∧ (∃ (p : Fin 8) (s : State) (w : Word) (r : TwbResult), (s.twb ↑p).cmd = some w ∧ (s.twb ↑p).wait = false ∧ (∀ (a b : Bool), r ≠ TwbResult.lines a b) ∧ s.twbWait (↑p) w r ≠ 0)
    ∧ (∃ (p : Fin 8) (s : State) (w : Word) (r : TwbResult), (s.twb ↑p).cmd = some w ∧ (s.twb ↑p).wait = true ∧ (∀ (a b : Bool), r ≠ TwbResult.lines a b))
    ∧ (∃ (p : Fin 8) (s : State) (w : Word), (s.twb ↑p).cmd = some w ∧ (s.twb ↑p).wait = true ∧ cmdTYPE w < 8 ∧ s.get (TWB_CFG_TMO_MS ↑p) ≠ 0)
    ∧ (∃ (p : Fin 8) (s : State) (w : Word) (read : List Byte), (s.twb ↑p).cmd = some w ∧ (s.twb ↑p).probes = none ∧ (s.twb ↑p).wait = false ∧ s.twbWait (↑p) w (TwbResult.ok read) = 0 ∧ cmdTYPE w = 1 ∧ tb w 29 = false ∧ tb w 30 = false ∧ s.get (TWB_LEN_RLEN ↑p) ≤ 256)
    ∧ (∃ (p : Fin 8) (s : State) (w : Word), (s.twb ↑p).cmd = some w ∧ (s.twb ↑p).probes = none ∧ (s.twb ↑p).wait = false ∧ s.twbWait (↑p) w TwbResult.nackAddr = 0 ∧ cmdTYPE w < 7)
    ∧ (∃ (p : Fin 8) (s : State) (w : Word) (idx : Nat), (s.twb ↑p).cmd = some w ∧ (s.twb ↑p).probes = none ∧ (s.twb ↑p).wait = false ∧ s.twbWait (↑p) w (TwbResult.arbLost idx) = 0 ∧ cmdTYPE w < 8 ∧ (s.twb ↑p).tries < s.get (TWB_CFG_RETRY ↑p))
    ∧ (∃ (p : Fin 8) (s : State) (w : Word) (idx : Nat), (s.twb ↑p).cmd = some w ∧ (s.twb ↑p).probes = none ∧ (s.twb ↑p).wait = false ∧ s.twbWait (↑p) w (TwbResult.arbLost idx) = 0 ∧ idx < 65536 ∧ cmdTYPE w < 8 ∧ s.get (TWB_CFG_RETRY ↑p) ≤ (s.twb ↑p).tries)
    ∧ (∃ (y : TwLine) (f : Nat), f ≠ 0 ∧ y.ff2 ≠ y.out)
    ∧ (∃ (p : Fin 8) (s : State) (w : Word) (n : Nat), (s.twb ↑p).cmd = some w ∧ (s.twb ↑p).probes = none ∧ (s.twb ↑p).wait = false ∧ s.twbWait (↑p) w (TwbResult.cleared n) = 0 ∧ cmdTYPE w = 8 ∧ (s.twb ↑p).ends = true ∧ (s.twb ↑p).clocks = n)
    ∧ (∃ (p : Fin 8) (s : State) (w : Word), (s.twb ↑p).cmd = some w ∧ (s.twb ↑p).probes = none ∧ (s.twb ↑p).wait = false ∧ s.sclStuck ↑p = false)
    ∧ (∃ (p : Fin 8) (s : State) (w : Word) (idx : Nat), (s.twb ↑p).cmd = some w ∧ (s.twb ↑p).probes = none ∧ (s.twb ↑p).wait = false ∧ idx < 65536 ∧ cmdTYPE w < 8 ∧ s.sclStuck ↑p = true ∧ s.get (TWB_CFG_TMO_MS ↑p) ≠ 0)
    ∧ (∃ (p : Fin 8) (s : State) (w : Word) (k : Nat), (s.twb ↑p).cmd = some w ∧ (s.twb ↑p).probes = some k ∧ s.probeWait ↑p ≠ 0)
    ∧ (∃ (p : Fin 8) (s : State) (w : Word) (k : Nat), (s.twb ↑p).cmd = some w ∧ (s.twb ↑p).probes = some k ∧ s.probeWait ↑p = 0 ∧ k + 1 < s.get (TWB_PAGE_POLL_N ↑p))
    ∧ (∃ (p : Fin 8) (s : State) (w : Word) (k : Nat), (s.twb ↑p).cmd = some w ∧ (s.twb ↑p).probes = some k ∧ s.probeWait ↑p = 0 ∧ s.get (TWB_PAGE_POLL_N ↑p) ≤ k + 1 ∧ (s.twb ↑p).seg < 65536) :=
  ⟨⟨(Who.sup true), 0, 0#32, (r), (((r) : State).admitted ((Who.sup true) : Who) (TWB_CMD ↑(0 : Fin 8)) (setBits (withBit (0#32 : Word) 31) 27 24 0)), State.admits_admitted (by decide +kernel), by decide +kernel⟩,
   ⟨(Who.sup true), 0, 0#32, (stk r), (((stk r) : State).admitted ((Who.sup true) : Who) (TWB_CMD ↑(0 : Fin 8)) (setBits (withBit (0#32 : Word) 31) 27 24 0)), State.admits_admitted (by decide +kernel), by decide +kernel⟩,
   ⟨(Who.sup true), 0, 0#32, (en (ln 257 3 0 0 r)), (((en (ln 257 3 0 0 r)) : State).admitted ((Who.sup true) : Who) (TWB_CMD ↑(0 : Fin 8)) (setBits (withBit (0#32 : Word) 31) 27 24 0)), (Option.get ((((((en (ln 257 3 0 0 r)) : State).admitted ((Who.sup true) : Who) (TWB_CMD ↑(0 : Fin 8)) (setBits (withBit (0#32 : Word) 31) 27 24 0)) : State).apply (TWB_CMD ↑(0 : Fin 8)) (setBits (withBit (0#32 : Word) 31) 27 24 0)).twbLength (↑(0 : Fin 8)) ((((((en (ln 257 3 0 0 r)) : State).admitted ((Who.sup true) : Who) (TWB_CMD ↑(0 : Fin 8)) (setBits (withBit (0#32 : Word) 31) 27 24 0)) : State).apply (TWB_CMD ↑(0 : Fin 8)) (setBits (withBit (0#32 : Word) 31) 27 24 0)).word (TWB_CMD ↑(0 : Fin 8)))) (by decide +kernel)), State.admits_admitted (by decide +kernel), by decide +kernel⟩,
   ⟨(Who.sup true), 0, 0#32, (en (ln 5 256 0 0 r)), (((en (ln 5 256 0 0 r)) : State).admitted ((Who.sup true) : Who) (TWB_CMD ↑(0 : Fin 8)) (setBits (withBit (0#32 : Word) 31) 27 24 0)), State.admits_admitted (by decide +kernel), by decide +kernel⟩,
   ⟨(Who.sup true), 0, 0#32, (en r), (((en r) : State).admitted ((Who.sup true) : Who) (TWB_CMD ↑(0 : Fin 8)) (setBits (withBit (0#32 : Word) 31) 27 24 0)), State.admits_admitted (by decide +kernel), by decide +kernel⟩,
   ⟨(Who.sup true), 0, 0#32, (st true true true (en (ln 1 1 0 0 r))), (((st true true true (en (ln 1 1 0 0 r))) : State).admitted ((Who.sup true) : Who) (TWB_CMD ↑(0 : Fin 8)) (setBits (withBit (0#32 : Word) 31) 27 24 0)), State.admits_admitted (by decide +kernel), by decide +kernel⟩,
   ⟨(Who.sup true), 0, 0#32, (lat (st true true true (en (ln 1 1 0 0 r)))), (((lat (st true true true (en (ln 1 1 0 0 r)))) : State).admitted ((Who.sup true) : Who) (TWB_CMD ↑(0 : Fin 8)) (setBits (withBit (0#32 : Word) 31) 27 24 0)), State.admits_admitted (by decide +kernel), by decide +kernel⟩,
   ⟨0, (lat (st true true true (en (ln 1 1 0 0 r)))), (Option.get ((((lat (st true true true (en (ln 1 1 0 0 r)))) : State).twb ↑(0 : Fin 8)).late) (by decide +kernel)), by decide +kernel⟩,
   ⟨(Who.sup true), 0, 0#32, (r), (((r) : State).admitted ((Who.sup true) : Who) (TWB_CFG ↑(0 : Fin 8)) (1#32 : Word)), 1#32, by decide +kernel, State.admits_admitted (by decide +kernel), by decide +kernel⟩,
   ⟨0, (stk r), (Option.get ((((stk r) : State).twb ↑(0 : Fin 8)).look) (by decide +kernel)), by decide +kernel⟩,
   ⟨7, ((en r).modTwb 7 fun x => { x with look := some 1000 }), (Option.get (((((en r).modTwb 7 fun x => { x with look := some 1000 }) : State).twb ↑(7 : Fin 8)).look) (by decide +kernel)), by decide +kernel⟩,
   ⟨(Who.sup true), 0, 0#32, (r), (((r) : State).admitted ((Who.sup true) : Who) (TWB_CFG ↑(0 : Fin 8)) (4#32 : Word)), 4#32, by decide +kernel, State.admits_admitted (by decide +kernel), by decide +kernel⟩,
   ⟨0, (r), (.ok [1,2]), by decide +kernel⟩,
   ⟨0, (cm 0x81005500 0 none 0 (en (ln 0 2 0 0 r))), (Option.get ((((cm 0x81005500 0 none 0 (en (ln 0 2 0 0 r))) : State).twb ↑(0 : Fin 8)).cmd) (by decide +kernel)), (.ok [1,2]), by decide +kernel⟩,
   ⟨0, (wai (cm 0x81005500 0 none 0 (en (ln 0 2 0 0 r)))), (Option.get ((((wai (cm 0x81005500 0 none 0 (en (ln 0 2 0 0 r)))) : State).twb ↑(0 : Fin 8)).cmd) (by decide +kernel)), (.ok [1,2]), by decide +kernel⟩,
   ⟨0, (wai (cm 0x81005500 0 none 0 (en (ln 0 2 0 0 r)))), (Option.get ((((wai (cm 0x81005500 0 none 0 (en (ln 0 2 0 0 r)))) : State).twb ↑(0 : Fin 8)).cmd) (by decide +kernel)), by decide +kernel⟩,
   ⟨0, (old (cm 0x81005500 0 none 0 (en (ln 0 2 0 0 r)))), (Option.get ((((old (cm 0x81005500 0 none 0 (en (ln 0 2 0 0 r)))) : State).twb ↑(0 : Fin 8)).cmd) (by decide +kernel)), [0x01#8, 0x02#8], by decide +kernel⟩,
   ⟨0, (old (cm 0x81005500 0 none 0 (en (ln 0 2 0 0 r)))), (Option.get ((((old (cm 0x81005500 0 none 0 (en (ln 0 2 0 0 r)))) : State).twb ↑(0 : Fin 8)).cmd) (by decide +kernel)), by decide +kernel⟩,
   ⟨0, (cm 0x81005500 0 none 0 (en (ln 0 2 0 0 r))), (Option.get ((((cm 0x81005500 0 none 0 (en (ln 0 2 0 0 r))) : State).twb ↑(0 : Fin 8)).cmd) (by decide +kernel)), 0, by decide +kernel⟩,
   ⟨0, (cm 0x81005500 2 none 0 (en (ln 0 256 0 0 r))), (Option.get ((((cm 0x81005500 2 none 0 (en (ln 0 256 0 0 r))) : State).twb ↑(0 : Fin 8)).cmd) (by decide +kernel)), 0, by decide +kernel⟩,
   ⟨{ level := true, ff1 := true, ff2 := true, run := 0, out := false, at_ := 0 }, 3, by decide +kernel⟩,
   ⟨0, old (cle (cm 0x88000000 0 none 0 (en r))), 0x88000000#32, 9, by decide +kernel⟩,
   ⟨0, cm 0x88000000 0 none 0 (en r), 0x88000000#32, by decide +kernel⟩,
   ⟨0, lns 1000000000 (cm 0x81005500 0 none 0 (en (ln 0 2 0 0 r))), 0x81005500#32, 0, by decide +kernel⟩,
   ⟨0, (cm 0x80015500 1 (some 2) 7 (en (ln 9 0 2 4 r))), 2147570944#32, 2, by decide +kernel⟩,
   ⟨0, (old (cm 0x80015500 1 (some 2) 7 (en (ln 9 0 2 4 r)))), 2147570944#32, 2, by decide +kernel⟩,
   ⟨0, (old (cm 0x80015500 1 (some 3) 7 (en (ln 9 0 2 4 r)))), 2147570944#32, 3, by decide +kernel⟩⟩

end Sys2Proof.Tests.TwoWireW

namespace Sys2Proof.Tests.TargetW
def r : State := { State.reset with clk := { now := 1000, cyc := 1000, tBase := 5000 } }
def tw (s : State) : State := ((s.putBit TWT_CFG_EN true).putBit TWT_CFG_ARA_EN true).put TWT_CFG_TTMO_MS 5 |>.put TWT_CFG_TPAGE_LOG2 4 |>.put TWT_CFG_TADDR 0x5A
theorem witness_TargetPort :
    (∃ (hi : Byte) (lo : Byte) (a : BitVec 7) (s : State), s.bit TWT_CFG_EN = true ∧ a.toNat = s.get TWT_CFG_TADDR ∧ s.twt.host = none ∧ BitVec.toNat hi * 256 + BitVec.toNat lo < 512 ∧ (s.get TWT_WP_WP).testBit ((BitVec.toNat hi * 256 + BitVec.toNat lo) / 64) = false)
    ∧ (∃ (hi : Byte) (lo : Byte) (a : BitVec 7) (s : State), s.bit TWT_CFG_EN = true ∧ a.toNat = s.get TWT_CFG_TADDR ∧ s.twt.host = none ∧ BitVec.toNat hi * 256 + BitVec.toNat lo < 512 ∧ (s.get TWT_WP_WP).testBit ((BitVec.toNat hi * 256 + BitVec.toNat lo) / 64) = true)
    ∧ (∃ (hi : Byte) (lo : Byte) (a : BitVec 7) (s : State), s.bit TWT_CFG_EN = true ∧ a.toNat = s.get TWT_CFG_TADDR ∧ s.twt.host = none ∧ 512 ≤ BitVec.toNat hi * 256 + BitVec.toNat lo)
    ∧ (∃ (s : State), s.bit TWT_CFG_EN = true ∧ s.get TWT_CFG_TTMO_MS ≠ 0 ∧ Option.any (fun c => decide (c + ms (s.get TWT_CFG_TTMO_MS) ≤ s.clk.now)) s.twt.lowFrom = true)
    ∧ (∃ (s : State), s.bit TWT_CFG_EN = true ∧ s.twt.lowFrom = none)
    ∧ (∃ (s : State), s.bit TWT_CFG_EN = true ∧ s.bit TWT_CFG_ARA_EN = true ∧ s.bit TWT_ATTN_REQ = true ∧ s.twtNow.asked = true)
    ∧ (∃ (s : State), s.bit TWT_CFG_EN = true ∧ s.bit TWT_CFG_ARA_EN = true ∧ s.bit TWT_ATTN_REQ = true ∧ s.twtNow.asked = false)
    ∧ (∃ (a : BitVec 7) (s : State), s.twt.host = none ∧ a.toNat ≠ s.get TWT_CFG_TADDR)
    ∧ (∃ (s : State), s.bit TWT_CFG_EN = false)
    ∧ (∃ (who : Who) (v : Word) (s : State) (u : State), s.admits who TWT_ATTN (withBit v 31) u ∧ legalAt TWT_ATTN (withBit v 31) = true ∧ u.bit TWT_ATTN_REQ = false ∧ bitsOf v 15 0 ≠ 0)
    ∧ (∃ (s : State), s.bit TWT_ATTN_REQ = true ∧ s.get TWT_ATTN_ATTN_MS ≠ 0 ∧ s.twt.tmoRaised = false)
    ∧ (∃ (s : State), s.bit TWT_ATTN_REQ = true ∧ s.get TWT_ATTN_ATTN_MS ≠ 0 ∧ s.twt.tmoRaised = true) :=
  ⟨⟨0#8, 0#8, 90#7, (tw r), by decide +kernel⟩,
   ⟨0#8, 0#8, 90#7, ((tw r).put TWT_WP_WP 0x81), by decide +kernel⟩,
   ⟨2#8, 0#8, 90#7, (tw r), by decide +kernel⟩,
   ⟨({ (tw r) with clk := { r.clk with now := 100000000 }, twt := { r.twt with host := some { read := false, since := 10 }, scl := { out := false, at_ := 5 } } }), by decide +kernel⟩,
   ⟨(tw r), by decide +kernel⟩,
   ⟨(let s : State := (tw r).putBit TWT_ATTN_REQ true; { s with twt := { cycle := 200, asked := true } }), by decide +kernel⟩,
   ⟨(((tw r).putBit TWT_ATTN_REQ true).put TWT_ATTN_LOST 255 |>.put TWT_ATTN_ATTN_MS 7), by decide +kernel⟩,
   ⟨0#7, (r), by decide +kernel⟩,
   ⟨(r), by decide +kernel⟩,
   ⟨(Who.sup true), 5#32, (r), (((r) : State).admitted ((Who.sup true) : Who) TWT_ATTN (withBit (5#32 : Word) 31)), State.admits_admitted (by decide +kernel), by decide +kernel⟩,
   ⟨(((tw r).putBit TWT_ATTN_REQ true).put TWT_ATTN_LOST 255 |>.put TWT_ATTN_ATTN_MS 7), by decide +kernel⟩,
   ⟨(let s : State := (((tw r).putBit TWT_ATTN_REQ true).put TWT_ATTN_ATTN_MS 65535).arm 5 .attnTmo; { s with twt := { s.twt with tmoRaised := true } }), by decide +kernel⟩⟩

end Sys2Proof.Tests.TargetW
end

section
/-! SUPPORT. The linked counters: the holding registers (R12..R15), the reads that fill and consume them, and what the way of
a read on the bus leaves of them; the proof of O11. -/

open Sys2Proof Sys2Proof.Machine

namespace Sys2Proof.Machine

/-! ## The holding registers (R13) -/

/-- The holding registers are a part of the bus. -/
theorem State.held_of_bus_eq {s t : State} (h : t.bus = s.bus) (who : Who) (c : Linked) : t.held who c = s.held who c := by
  rw [State.held, State.held, h]

@[simp] theorem State.held_answer (s : State) (who who' : Who) (d : Word) (e : Bool) (c : Linked) :
    (s.answer who d e).held who' c = s.held who' c := rfl

@[simp] theorem State.held_setHeld_same (s : State) (who : Who) (c : Linked) (h : Option Word) :
    (s.setHeld who c h).held who c = h := by
  have hgone : (s.bus.hold.filter (fun e => e.1 ≠ (pathOf who, c))).find? (fun e => e.1 = (pathOf who, c)) = none := by
    simp [List.find?_eq_none]
  simp only [State.held, State.setHeld, List.find?_append, hgone, Option.none_or]
  cases h <;> simp

/-- Each path has a holding register of its own for each counter. -/
theorem State.held_setHeld_other (s : State) (who : Who) (c : Linked) (h : Option Word) {who' : Who} {c' : Linked}
    (hne : pathOf who' ≠ pathOf who ∨ c' ≠ c) : (s.setHeld who c h).held who' c' = s.held who' c' := by
  have hkey : (pathOf who', c') ≠ (pathOf who, c) := by
    rintro heq
    obtain ⟨hp, hc⟩ := Prod.mk.inj heq
    exact hne.elim (· hp) (· hc)
  have hkept : (s.bus.hold.filter (fun e => e.1 ≠ (pathOf who, c))).find? (fun e => e.1 = (pathOf who', c')) =
      s.bus.hold.find? (fun e => e.1 = (pathOf who', c')) := by
    rw [List.find?_filter]
    congr 1
    funext e
    by_cases he : e.1 = (pathOf who', c') <;> simp [he, hkey]
  simp only [State.held, State.setHeld, List.find?_append, hkept]
  cases h <;> simp [hkey.symm]

/-! ## The TORN bits (R14) -/

/-- TORN is one bit of its register. -/
theorem tornOf_oneBit (c : Linked) : (tornOf c).hi ≤ 31 ∧ (tornOf c).hi = (tornOf c).lo := by
  cases c <;> simp [tornOf, TBS_STATUS_TORN, FSM_MSTAT_TORN, BAT_SFLAG_TORN, TMR_STAT_TORN]

@[simp] theorem State.bus_hwSet (s : State) (f : Fld) : (s.hwSet f).bus = s.bus := rfl

theorem State.bit_hwSet_same (s : State) (f : Fld) (h : f.hi ≤ 31) (hb : f.hi = f.lo) : (s.hwSet f).bit f = true :=
  State.get_putBit_same s f true h hb

theorem State.word_hwSet_ne (s : State) {x : Nat} (f : Fld) (h : x ≠ f.addr) : (s.hwSet f).word x = s.word x :=
  State.word_putBit_ne s f true h

/-! ## The two reads, where the path reaches the counter (R12, R14) -/

theorem State.lowRead_linked {s : State} {who : Who} {c : Linked} (hp : linkedPath who c = true) (hl : s.isLinked c = true) :
    s.lowRead who c = (s.setHeld who c (some (s.linkedWords c).2)).answer who (s.linkedWords c).1 false := by
  simp [State.lowRead, hp, hl]

theorem State.highRead_held {s : State} {who : Who} {c : Linked} {h : Word} (hp : linkedPath who c = true)
    (hl : s.isLinked c = true) (hh : s.held who c = some h) : s.highRead who c = (s.setHeld who c none).answer who h false := by
  simp [State.highRead, hp, hl, hh]

theorem State.highRead_torn {s : State} {who : Who} {c : Linked} (hp : linkedPath who c = true) (hl : s.isLinked c = true)
    (hh : s.held who c = none) : s.highRead who c = (s.hwSet (tornOf c)).answer who (s.linkedWords c).2 false := by
  simp [State.highRead, hp, hl, hh]

/-- A low-word read leaves the holding registers of the other paths and of the other counters alone. -/
theorem State.held_lowRead_other (s : State) (who : Who) (c : Linked) {who' : Who} {c' : Linked}
    (hne : pathOf who' ≠ pathOf who ∨ c' ≠ c) : (s.lowRead who c).held who' c' = s.held who' c' := by
  by_cases hp : linkedPath who c = true
  · by_cases hl : s.isLinked c = true
    · rw [State.lowRead_linked hp hl, State.held_answer, State.held_setHeld_other s who c _ hne]
    · simp [State.lowRead, hp, hl]
  · simp [State.lowRead, hp]

/-! ## The way of a read leaves the holding registers alone -/

@[simp] theorem State.bus_raiseEv (s : State) (e : Ev) : (s.raiseEv e).bus = s.bus := by rw [s.raiseEv_only e]

@[simp] theorem State.bus_raiseN (s : State) (src cause v : Nat) : (s.raiseN src cause v).bus = s.bus := State.bus_raiseEv s _

@[simp] theorem State.bus_detect (s : State) (i : Nat) : (s.detect i).bus = s.bus := by rw [s.detect_only i]

@[simp] theorem State.bus_setEcc (s : State) (c i : Nat) (m : BitVec 17) : (s.setEcc c i m).bus = s.bus := rfl

@[simp] theorem State.bus_encode (s : State) (c i : Nat) : (s.encode c i).bus = s.bus := by
  unfold State.encode
  split <;> simp

/-- The supervisor's queue may lose a request or mend it; it answers nothing itself. -/
theorem State.bus_busQueue (s : State) (who : Who) : (s.busQueue who).1.bus = s.bus := by
  unfold State.busQueue
  split
  · rfl
  · cases who with
    | sup b =>
      simp only
      split
      · split <;> simp only [State.bus_setEcc, State.bus_detect, State.bus_encode]
      · rfl
    | dbg => rfl
    | eng n => rfl

@[simp] theorem State.held_deny (s : State) (who who' : Who) (a : Nat) (wr : Bool) (need : Nat) (c : Linked) :
    (s.deny who a wr need).held who' c = s.held who' c := by
  unfold State.deny
  rw [State.held_answer]
  refine State.held_of_bus_eq ?_ who' c
  by_cases hv : s.bit RGT_DENY_INFO_VALID = true <;> simp [hv]

@[simp] theorem State.held_unmapped (s : State) (who who' : Who) (a : Nat) (c : Linked) :
    (s.unmapped who a).held who' c = s.held who' c :=
  State.held_of_bus_eq (State.bus_raiseN s _ _ _) who' c

/-- Past the gate a read keeps a holding register that the register's own answer keeps. -/
theorem State.held_busReadGo (s : State) (who who' : Who) (a : Nat) (c : Linked) (op : State → State)
    (hop : ∀ u : State, (op u).held who' c = u.held who' c) : (s.busReadGo who a op).held who' c = s.held who' c := by
  unfold State.busReadGo
  cases s.gate who a false with
  | unmapped => exact s.held_unmapped who who' a c
  | pmp => exact s.held_answer who who' 0 true c
  | deny need => exact s.held_deny who who' a false need c
  | absent _ => exact s.held_answer who who' 0 false c
  | pass _ => exact hop s

/-- So does an access behind the supervisor's queue, lost there or not. -/
theorem State.held_throughQueue (s : State) (who who' : Who) (c : Linked) (op : State → State)
    (hop : ∀ u : State, (op u).held who' c = u.held who' c) : (s.throughQueue who op).held who' c = s.held who' c := by
  have hq : (s.busQueue who).1.held who' c = s.held who' c := State.held_of_bus_eq (s.bus_busQueue who) who' c
  simp only [State.throughQueue]
  split
  · split
    · rw [State.held_answer, hq]
    · rw [hop, hq]
  · rfl

/-- So does the whole read, whether it issues, is lost on the way or is refused. -/
theorem State.held_busRead (s : State) (who who' : Who) (a : Nat) (c : Linked) (op : State → State)
    (hop : ∀ u : State, (op u).held who' c = u.held who' c) : (s.busRead who a op).held who' c = s.held who' c := by
  have hgo (u : State) := State.held_busReadGo u who who' a c op hop
  unfold State.busRead State.issued
  split
  · exact s.held_throughQueue who who' c _ hgo
  · split
    · exact hgo s
    · rfl

/-! ## The two commands -/

/-- A low-word read that its page admits is the counter's own answer; a CSR has no page. -/
theorem exec_linkedLowRead {who : Who} {c : Linked} {s : State} (hi : s.issues who = true)
    (ha : ∀ lo hi, Linked.addrs (Linked.norm c) = some (lo, hi) → s.admitsRead who lo) :
    exec (.linkedLowRead who c) s = .next (s.lowRead who (Linked.norm c)) := by
  show execLinkedLowRead who c s = _
  unfold execLinkedLowRead
  cases hc : Linked.addrs (Linked.norm c) with
  | some p => simp [hc, State.busRead_admits (ha p.1 p.2 hc), ok]
  | none => simp [hc, hi, ok]

/-- A high-word read that its page admits is the counter's own answer; a CSR has no page. -/
theorem exec_linkedHighRead {who : Who} {c : Linked} {s : State} (hi : s.issues who = true)
    (ha : ∀ lo hi, Linked.addrs (Linked.norm c) = some (lo, hi) → s.admitsRead who hi) :
    exec (.linkedHighRead who c) s = .next (s.highRead who (Linked.norm c)) := by
  show execLinkedHighRead who c s = _
  unfold execLinkedHighRead
  cases hc : Linked.addrs (Linked.norm c) with
  | some p => simp [hc, State.busRead_admits (ha p.1 p.2 hc), ok]
  | none => simp [hc, hi, ok]

/-- Admitted or not, LINKED_LOW_READ leaves every other holding register as it was (R13). -/
theorem held_of_linkedLowRead {who who' : Who} {c c' : Linked} {s t : State} (h : exec (.linkedLowRead who c) s = .next t)
    (hne : pathOf who' ≠ pathOf who ∨ c' ≠ Linked.norm c) : t.held who' c' = s.held who' c' := by
  change execLinkedLowRead who c s = _ at h
  have hop (u : State) := u.held_lowRead_other who (Linked.norm c) hne
  unfold execLinkedLowRead at h
  cases hc : Linked.addrs (Linked.norm c) with
  | some p =>
    simp only [hc, ok, Host.Outcome.next.injEq] at h
    rw [← h, State.held_busRead s who who' p.1 c' _ hop]
  | none =>
    simp only [hc, ok, Host.Outcome.next.injEq] at h
    rw [← h]
    split
    · exact hop s
    · rfl

end Sys2Proof.Machine

/-- Settles O11: the two commands come down to `lowRead` and `highRead`, which fill, consume or find empty the one
holding register of their path and counter. -/
theorem linkedCounterReads : Obligations.LinkedCounterReads := by
  unfold Obligations.LinkedCounterReads
  refine ⟨?_, fun who who' c c' s t => held_of_linkedLowRead, ?_⟩
  · intro who c s hp hl hi ha
    have hlow := (exec_linkedLowRead hi ha).trans (congrArg _ (State.lowRead_linked hp hl))
    refine ⟨_, hlow, rfl, rfl, by simp, ?_⟩
    intro t' hheld hl' hi' ha'
    rw [State.held_answer, State.held_setHeld_same] at hheld
    have hhigh := (exec_linkedHighRead hi' ha').trans (congrArg _ (State.highRead_held hp hl' hheld))
    exact ⟨_, hhigh, rfl, by simp, rfl⟩
  · intro who c s hp hl hh hi ha
    obtain ⟨h31, hbit⟩ := tornOf_oneBit (Linked.norm c)
    have hhigh := (exec_linkedHighRead hi ha).trans (congrArg _ (State.highRead_torn hp hl hh))
    exact ⟨_, hhigh, s.bit_hwSet_same _ h31 hbit, rfl, rfl, fun a => s.word_hwSet_ne _⟩

end

section
/-! SUPPORT. The results that a Teller's operations set out with (R128..R131): the value each operation computes, and what setting
out changes; the proofs of O35 and O36. -/

open Sys2Proof Sys2Proof.Machine

namespace Sys2Proof.Machine

/-! ## Values (R127, R163, R167..R172) -/

theorem toInt_bounds32 (a : BitVec 32) : -2147483648 ≤ a.toInt ∧ a.toInt ≤ 2147483647 := by
  have hl := BitVec.le_two_mul_toInt (x := a)
  have hh := BitVec.two_mul_toInt_lt (x := a)
  omega

theorem toInt_ofInt32 {i : Int} (hl : -2147483648 ≤ i) (hh : i ≤ 2147483647) : (BitVec.ofInt 32 i).toInt = i :=
  BitVec.toInt_ofInt_eq_self (by decide) hl (by omega)

theorem toInt_sat32 (i : Int) : (sat32 i).1.toInt = max (-2147483648) (min 2147483647 i) := by
  unfold sat32
  split
  · rw [toInt_ofInt32 (by omega) (by omega)]; omega
  · split
    · rw [toInt_ofInt32 (by omega) (by omega)]; omega
    · rw [toInt_ofInt32 (by omega) (by omega)]; omega

theorem sat32_saturates (i : Int) : (sat32 i).2 = (decide (i < -2147483648) || decide (2147483647 < i)) := by
  unfold sat32
  split
  · simp [*]
  · split <;> simp [*]

/-- A shift count above 31 shifts every bit out. -/
theorem shl32_eq (a b : BitVec 32) : shl32 a b = a <<< b.toNat := by
  unfold shl32
  split
  · rfl
  · exact (BitVec.shiftLeft_eq_zero (by omega)).symm

theorem shr32_eq (a b : BitVec 32) : shr32 a b = a >>> b.toNat := by
  unfold shr32
  split
  · rfl
  · exact (BitVec.ushiftRight_eq_zero (by omega)).symm

/-- A shift count above 31 leaves copies of the sign, as a count of 31 does. -/
theorem asr32_eq (a b : BitVec 32) : asr32 a b = a.sshiftRight b.toNat := by
  unfold asr32
  split
  · rfl
  · have hout (i : Nat) : ¬ b.toNat + i < 32 := by omega
    refine BitVec.eq_of_getLsbD_eq fun i hi => ?_
    simp only [BitVec.getLsbD_sshiftRight, hout, if_false, BitVec.msb_eq_getLsbD_last]
    rcases i with _ | i
    · rfl
    · rw [if_neg (by omega)]

theorem ofInt_min_toInt (a b : BitVec 32) : BitVec.ofInt 32 (min a.toInt b.toInt) = if a.toInt ≤ b.toInt then a else b := by
  rw [Int.min_def, apply_ite (BitVec.ofInt 32), BitVec.ofInt_toInt, BitVec.ofInt_toInt]

theorem ofInt_max_toInt (a b : BitVec 32) : BitVec.ofInt 32 (max a.toInt b.toInt) = if a.toInt ≤ b.toInt then b else a := by
  rw [Int.max_def, apply_ite (BitVec.ofInt 32), BitVec.ofInt_toInt, BitVec.ofInt_toInt]

theorem bne_eq_decide_ne (i j : Int) : (i != j) = decide (i ≠ j) := by
  rw [bne, decide_not]
  rfl

theorem natAbs_eq_ite (x : Int) : (x.natAbs : Int) = if x < 0 then -x else x := by
  split <;> omega

/-- A shift by 0 does not round (R163). -/
theorem rdaInt_eq (acc : Int) (sh : BitVec 6) (rnd : Bool) : rdaInt acc sh.toNat rnd
    = if rnd = true ∧ sh ≠ 0 then (acc + 2 ^ (sh.toNat - 1)) / 2 ^ sh.toNat else acc / 2 ^ sh.toNat := by
  have hpos : 1 ≤ sh.toNat ↔ sh ≠ 0 := by rw [← BitVec.toNat_ne_iff_ne, Nat.one_le_iff_ne_zero]; rfl
  simp [rdaInt, hpos]

theorem toInt_divSat_of_ne_zero (m : DivMode) (a : Int) {b : Int} (hb : b ≠ 0) :
    (divSat m a b).1.toInt = max (-2147483648) (min 2147483647 ((a * divScale m).tdiv b)) := by
  rw [divSat, if_neg hb, toInt_sat32]

theorem divSat_zero_saturates (m : DivMode) (a : Int) : (divSat m a 0).2 = true := by
  unfold divSat
  rw [if_pos rfl]
  split
  · rfl
  · split <;> rfl

theorem toInt_divSat_zero (m : DivMode) (a : Int) :
    (divSat m a 0).1.toInt = if 0 < a then 2147483647 else if a < 0 then -2147483648 else 0 := by
  unfold divSat
  rw [if_pos rfl]
  split
  · rfl
  · split <;> rfl

theorem clampInt_bounds (x a b : BitVec 32) :
    -2147483648 ≤ clampInt x.toInt a.toInt b.toInt ∧ clampInt x.toInt a.toInt b.toInt ≤ 2147483647 := by
  have hx := toInt_bounds32 x
  have ha := toInt_bounds32 a
  have hb := toInt_bounds32 b
  unfold clampInt
  omega

/-- RAMP goes from x toward g, at most by d: the three cases of R171 as one clamp. -/
theorem rampInt_eq (x g d : Int) : rampInt x g d = if d ≤ 0 then x else max (x - d) (min (x + d) g) := by
  unfold rampInt
  split
  · rfl
  · split
    · omega
    · split <;> omega

theorem rampInt_bounds (x g d : BitVec 32) :
    -2147483648 ≤ rampInt x.toInt g.toInt d.toInt ∧ rampInt x.toInt g.toInt d.toInt ≤ 2147483647 := by
  have hx := toInt_bounds32 x
  have hg := toInt_bounds32 g
  rw [rampInt_eq]
  split <;> omega

/-! ## Conditions of CMP (R168) -/

theorem condHolds_eq (a b : BitVec 32) : condHolds .eq a b = decide (a.toInt = b.toInt) := by
  simp only [BitVec.toInt_inj]
  rfl

theorem condHolds_ne (a b : BitVec 32) : condHolds .ne a b = decide (a.toInt ≠ b.toInt) := by
  simp only [ne_eq, BitVec.toInt_inj, decide_not]
  rfl

theorem condHolds_lt (a b : BitVec 32) : condHolds .lt a b = decide (a.toInt < b.toInt) := rfl

theorem condHolds_le (a b : BitVec 32) : condHolds .le a b = decide (a.toInt ≤ b.toInt) := rfl

theorem condHolds_ge (a b : BitVec 32) : condHolds .ge a b = decide (b.toInt ≤ a.toInt) := by
  simp only [← Int.not_lt, decide_not]
  rfl

theorem condHolds_gt (a b : BitVec 32) : condHolds .gt a b = decide (b.toInt < a.toInt) := by
  simp only [← Int.not_le, decide_not]
  rfl

theorem condHolds_ltu (a b : BitVec 32) : condHolds .ltu a b = decide (a.toNat < b.toNat) := rfl

theorem condHolds_geu (a b : BitVec 32) : condHolds .geu a b = decide (b.toNat ≤ a.toNat) := by
  simp only [← Nat.not_lt, decide_not]
  rfl

/-! ## Setting out (R128) -/

/-- From `s` to `u` the results `rs` set out in engine `n`, after those in flight, and nothing else changed. -/
structure State.SetsOut (s u : State) (n : Nat) (rs : List Result) : Prop where
  only : s.onlyEng u n
  eng : u.eng n = { s.eng n with results := (s.eng n).results ++ rs }

/-- The result of an operation of latency `lam` (R128). -/
def State.resultOf (s : State) (t : Task) (slot : SlotPos) (lam : Nat) (dest : Dest) (v : Sat32) : Result :=
  { due := s.clk.now + lam - 1, slot := slot, dest := dest, val := v.1, sat := v.2, issued := s.clk.now, addr := s.bundleAt t }

section
variable {s u : State} {n : Nat} {rs : List Result} {t : Task}

theorem State.SetsOut.refl (s : State) (n : Nat) : s.SetsOut s n [] :=
  ⟨⟨rfl, fun _ _ => rfl⟩, by rw [List.append_nil]⟩

theorem State.SetsOut.results (h : s.SetsOut u n rs) : (u.eng n).results = (s.eng n).results ++ rs := by rw [h.eng]

theorem State.SetsOut.frame (h : s.SetsOut u n rs) : u.eng n = { s.eng n with results := (u.eng n).results } := by rw [h.eng]

theorem State.SetsOut.clk (h : s.SetsOut u n rs) : u.clk = s.clk := by rw [h.only.1]

/-- After `rs` a further result sets out, unless a quash before its landing drops it (R142). -/
theorem State.SetsOut.result (h : s.SetsOut u n rs) {lam : Nat} (hd : t.drops (s.clk.now + lam - 1) = false) (slot : SlotPos)
    (dest : Dest) (v : Sat32) : s.SetsOut (u.result n t slot lam dest v) n (rs ++ [s.resultOf t slot lam dest v]) := by
  have hset : u.result n t slot lam dest v
      = u.modEng n fun e => { e with results := e.results ++ [s.resultOf t slot lam dest v] } := by
    simp only [State.result, State.resultOf, State.bundleAt, h.clk, hd, Bool.false_eq_true, if_false]
  rw [hset]
  refine ⟨⟨?_, fun m hm => ?_⟩, ?_⟩
  · rw [h.only.1]
    rfl
  · rw [State.eng_modEng_ne _ _ hm, h.only.2 m hm]
  · rw [State.eng_modEng_same, h.eng, List.append_assoc]

theorem State.setsOut_result {lam : Nat} (hd : t.drops (s.clk.now + lam - 1) = false) (n : Nat) (slot : SlotPos) (dest : Dest)
    (v : Sat32) : s.SetsOut (s.result n t slot lam dest v) n [s.resultOf t slot lam dest v] :=
  (State.SetsOut.refl s n).result hd slot dest v

/-- A predicate's result sets out as that of an operation with latency 1. -/
theorem State.SetsOut.resultP (h : s.SetsOut u n rs) (hd : t.drops s.clk.now = false) {p : Pred} (hp : p ≠ 0) (b : Bool) :
    s.SetsOut (u.resultP n t p b) n (rs ++ [s.resultOf t .x 1 (.pred p) (if b then 1 else 0, false)]) := by
  rw [State.resultP, if_neg hp]
  exact h.result hd .x _ _

end

/-- A predicate's result is 1 where it holds, and 0 where it does not (R168). -/
theorem predValue_ne_zero (b : Bool) : (if b then 1 else 0 : BitVec 32) ≠ 0 ↔ b = true := by cases b <;> decide

/-! ## Issue (R132, R142) -/

/-- A task whose bundle issues now is not quashed by now: a result that lands in this cycle sets out. -/
theorem State.drops_now_of_issuing {s : State} {n : Nat} {t : Task} (hi : s.issuing n = some t) : t.drops s.clk.now = false := by
  unfold State.issuing at hi
  split at hi
  · cases hi
  · next t' _ =>
    cases hq : t'.quash with
    | none =>
      simp only [hq, if_true, Option.some.injEq] at hi
      simp [Task.drops, ← hi, hq]
    | some c =>
      simp only [hq, decide_eq_true_eq] at hi
      split at hi
      · cases hi
        simpa [Task.drops, hq]
      · cases hi

/-- An operation that issues, and whose guard reads 1, has its effect. -/
theorem exec_of_issue {c : Instr} {n : Nat} {q : Guard} {f : Task → State} {s u : State} {t : Task}
    (hi : s.issuing n = some t) (hg : s.guard n q = true) (hc : exec c s = .next (s.issue n q f)) (hu : f t = u) :
    exec c s = .next u := by
  rw [hc, ← hu]
  simp only [State.issue, hi, hg, if_true]

end Sys2Proof.Machine

/-- Settles O35: every operation of the list issues one result (`exec_of_issue`), and what sets out is that result alone
(`State.setsOut_result`). -/
theorem dataResultsSetOut : Obligations.DataResultsSetOut := by
  unfold Obligations.DataResultsSetOut
  intro n q dd da db aa pm b imm sh rnd m1 s t hi hg x y z
  have hnow := State.drops_now_of_issuing hi
  have issued {c f u} := exec_of_issue (c := c) (f := f) (u := u) hi hg
  refine ⟨fun cv hcv => ?_, fun cv hcv => ?_, fun hd mode => ?_, fun hd => ?_⟩
  · have hexec : ∃ slot v, exec cv.1 s = .next (s.result n t slot 1 (.reg dd) (v, false)) ∧ v = cv.2 := by
      revert cv
      simp only [List.forall_mem_cons]
      exact ⟨⟨.x, _, issued rfl rfl, rfl⟩, ⟨.x, _, issued rfl rfl, rfl⟩, ⟨.x, _, issued rfl rfl, rfl⟩,
        ⟨.x, _, issued rfl rfl, rfl⟩, ⟨.x, _, issued rfl rfl, rfl⟩, ⟨.x, _, issued rfl rfl, shl32_eq _ _⟩,
        ⟨.x, _, issued rfl rfl, shr32_eq _ _⟩, ⟨.x, _, issued rfl rfl, asr32_eq _ _⟩,
        ⟨.x, _, issued rfl rfl, ofInt_min_toInt _ _⟩, ⟨.x, _, issued rfl rfl, ofInt_max_toInt _ _⟩,
        ⟨.x, _, issued rfl rfl, rfl⟩, ⟨.l, _, issued rfl rfl, rfl⟩, ⟨.l, _, issued rfl rfl, rfl⟩,
        ⟨.l, _, issued rfl rfl, rfl⟩, ⟨.l, _, issued rfl rfl, rfl⟩, List.forall_mem_nil _⟩
    obtain ⟨slot, v, hexec, rfl⟩ := hexec
    have hset := State.setsOut_result (lam := 1) hnow n slot (.reg dd) (cv.2, false)
    exact ⟨_, _, hexec, hset.only, hset.results, hset.frame, rfl, rfl, rfl, rfl⟩
  · have hexec : ∃ slot i, exec cv.1 s = .next (s.result n t slot 1 (.reg dd) (sat32 i)) ∧ i = cv.2 := by
      revert cv
      simp only [List.forall_mem_cons]
      exact ⟨⟨.x, _, issued rfl rfl, rfl⟩, ⟨.x, _, issued rfl rfl, rfl⟩, ⟨.x, _, issued rfl rfl, natAbs_eq_ite _⟩,
        ⟨.x, _, issued rfl rfl, rfl⟩, ⟨_, _, issued rfl rfl, rdaInt_eq _ _ _⟩, List.forall_mem_nil _⟩
    obtain ⟨slot, i, hexec, rfl⟩ := hexec
    have hset := State.setsOut_result (lam := 1) hnow n slot (.reg dd) (sat32 cv.2)
    exact ⟨_, _, hexec, hset.only, hset.results, rfl, rfl, toInt_sat32 _, sat32_saturates _⟩
  · have hset := State.setsOut_result (lam := 18) hd n .x (.reg dd) (divSat mode x z)
    refine ⟨_, _, issued rfl rfl, hset.only, hset.results, rfl, rfl, toInt_divSat_of_ne_zero mode x, fun hz => ?_⟩
    simp only [State.resultOf, hz]
    exact ⟨divSat_zero_saturates mode x, toInt_divSat_zero mode x⟩
  · have hset := State.setsOut_result (lam := 2) hd n .l (.reg dd)
      (if (s.bit FRA_STAT_RUN || s.fra.tail) && s.fraTarget n t.slot then s.word FRA_SAMPLE else 0, false)
    exact ⟨_, _, issued rfl rfl, hset.only, hset.results, rfl, rfl, rfl⟩

/-- Settles O36: the data result sets out, then that of the predicate unless it is P0; each value is in range, so that it
stands in the register as it is. -/
theorem predicateResults : Obligations.PredicateResults := by
  unfold Obligations.PredicateResults
  intro n q dd da db pd pa pb b s t hi hg x y z
  have hnow := State.drops_now_of_issuing hi
  have issued {c f u} := exec_of_issue (c := c) (f := f) (u := u) hi hg
  refine ⟨fun cv hcv => ?_, fun cv hcv => ?_⟩
  · have hexec : ∃ i p, exec cv.1 s = .next ((s.result n t .x 1 (.reg dd) (BitVec.ofInt 32 i, false)).resultP n t pd p)
        ∧ (-2147483648 ≤ i ∧ i ≤ 2147483647) ∧ i = cv.2.1 ∧ p = cv.2.2 := by
      revert cv
      simp only [List.forall_mem_cons, ← rampInt_eq]
      exact ⟨⟨_, _, issued rfl rfl, clampInt_bounds _ _ _, rfl, bne_eq_decide_ne _ _⟩,
        ⟨_, _, issued rfl rfl, rampInt_bounds _ _ _, rfl, rfl⟩, List.forall_mem_nil _⟩
    obtain ⟨i, p, hexec, ⟨hlo, hhi⟩, rfl, rfl⟩ := hexec
    have hset := State.setsOut_result (lam := 1) hnow n .x (.reg dd) (BitVec.ofInt 32 cv.2.1, false)
    by_cases hp : pd = 0
    · subst hp
      exact ⟨_, _, hexec, hset.only, rfl, toInt_ofInt32 hlo hhi, rfl, rfl, fun _ => hset.results, fun h => absurd rfl h⟩
    · have hset' := hset.resultP hnow hp cv.2.2
      exact ⟨_, _, hexec, hset'.only, rfl, toInt_ofInt32 hlo hhi, rfl, rfl, fun h => absurd h hp,
        fun _ => ⟨_, hset'.results, rfl, rfl, rfl, predValue_ne_zero _⟩⟩
  · have hexec : ∃ p, exec cv.1 s = .next (s.resultP n t pd p) ∧ p = cv.2 := by
      revert cv
      simp only [List.forall_mem_cons]
      exact ⟨⟨_, issued rfl rfl, condHolds_eq _ _⟩, ⟨_, issued rfl rfl, condHolds_ne _ _⟩, ⟨_, issued rfl rfl, condHolds_lt _ _⟩,
        ⟨_, issued rfl rfl, condHolds_ge _ _⟩, ⟨_, issued rfl rfl, condHolds_le _ _⟩, ⟨_, issued rfl rfl, condHolds_gt _ _⟩,
        ⟨_, issued rfl rfl, condHolds_ltu _ _⟩, ⟨_, issued rfl rfl, condHolds_geu _ _⟩, ⟨_, issued rfl rfl, rfl⟩,
        ⟨_, issued rfl rfl, rfl⟩, ⟨_, issued rfl rfl, rfl⟩, ⟨_, issued rfl rfl, rfl⟩, List.forall_mem_nil _⟩
    obtain ⟨p, hexec, rfl⟩ := hexec
    refine ⟨?_, fun hp => ?_⟩
    · rintro rfl
      exact hexec
    · have hset := (State.SetsOut.refl s n).resultP hnow hp cv.2
      exact ⟨_, _, hexec, hset.only, hset.results, rfl, rfl, rfl, predValue_ne_zero _⟩

end
